-- ==== Sys2Proof/Word.lean ====
section
/-! DEFINITION. The plainest vocabulary of the GL4816: byte and word types and the numbering of its
parts (00_scope.md, R2 and R8: every numbering starts at 0). -/

namespace Sys2Proof

/-- One byte of a payload. -/
abbrev Byte := BitVec 8
/-- One 32-bit word (a fabric token's word R28, a CRC-32C, a status word). -/
abbrev Word := BitVec 32

/-- Legs 0 to 47 (R8). -/
abbrev LegN := Fin 48
/-- Axes 0 to 15 (R8). -/
abbrev AxisN := Fin 16
/-- Feedback channels 0 to 47 (R8). -/
abbrev ChanN := Fin 48
/-- Crests 0 to 3 (R8). -/
abbrev CrestN := Fin 4
/-- Compare units 0 to 31 (R8). -/
abbrev UnitN := Fin 32
/-- Leg groups 0 to 5; group g holds legs 8g to 8g+7 (R8). -/
abbrev GroupN := Fin 6
/-- Sigma-delta inputs SD0 to SD15 (R94). -/
abbrev SdN := Fin 16
/-- Power domains 0 to 11, KEEP = 0 to FEED = 11 (R465). -/
abbrev DomainN := Fin 12
/-- CAN ports: 0 CAN-A, 1 CAN-B (R326). -/
abbrev CanN := Fin 2
/-- Ethernet ports: 0 ETH-A, 1 ETH-B (R358). -/
abbrev EthN := Fin 2
/-- Ridge-group slots 0 to 15 (R269). -/
abbrev SlotN := Fin 16
/-- Safety inputs SI0 to SI19 (R366). -/
abbrev SiN := Fin 20
/-- Brake outputs SBC0 to SBC15 (R388). -/
abbrev SbcN := Fin 16
/-- Thodar connections 0 to 3 (R402). -/
abbrev ConnN := Fin 4
/-- Service instances: thrusters 0 to 7 and winches 0 to 7 (R419). -/
abbrev SvcN := Fin 8
/-- Microstep tables 0 to 3 (R218). -/
abbrev TableN := Fin 4
/-- Transmit mailboxes of a CAN port, 0 to 31 (R308). -/
abbrev MailboxN := Fin 32
/-- Cyclic frames 0 to 15 (R349). -/
abbrev CycN := Fin 16
/-- Pass-through outputs PT0 to PT7 (R148). -/
abbrev PtN := Fin 8
/-- Excitation outputs EXC0 and EXC1 (R116). -/
abbrev ExcN := Fin 2
/-- Firmware image kinds: 0 PLATFORM, 1 HOST, 2 SAFETY (R482). -/
abbrev FwN := Fin 3
/-- Ridge-group member-table entries 0 to 7 (subindex − 1) (R270). -/
abbrev MemberN := Fin 8
/-- Event-log entries 0 to 1007 (R356). -/
abbrev EntryN := Fin 1008
/-- The self-test slots of the arbiter: false = slot 16, true = slot 17 (R452). -/
abbrev TestSlot := Bool

end Sys2Proof
end

