-- ==== Sys2Proof/Syntax.lean ====
section
/-! DEFINITION. The commands of the block: one constructor of `Instr` for each row of
spec/opcode_table.json, with the operands the row's rule gives it. What only the module's surroundings
decide (a conversion, a voltage, a frame's bytes, the segment the planner delivers) is an operand. -/

namespace Sys2Proof

/-- The two sides of a leg, and of a brake output's two switches (R50, R388). -/
inductive Side where
  | high | low
  deriving DecidableEq, Repr

/-- The opposite side. -/
def Side.other : Side → Side
  | .high => .low
  | .low => .high

/-- The filtered input lines of a feedback channel (R116). -/
inductive Line where
  | a | b | z
  deriving DecidableEq, Repr

/-- The input pairs of a feedback channel whose opening LINE_OPEN detects (R116, R149). -/
inductive Pair where
  | a | b | z | d | sin | cos
  deriving DecidableEq, Repr

/-- The faults a feedback channel latches (Table 4.4). -/
inductive FbFault where
  | glitchBurst | quadError | hallInvalid | indexMismatch | ssiWord | amplitude | lineOpen | snapshotFailed
  deriving DecidableEq, Repr

/-- Where a request or write comes from, in the precedence of R351. -/
inductive Port where
  | safety | service | ethA | ethB | canA | canB | host
  deriving DecidableEq, Repr

/-- Access levels, READ < OPERATE < CONFIGURE < SAFETY < MAKER (R344). -/
inductive Level where
  | read | operate | configure | safety | maker
  deriving DecidableEq, Repr

/-- The source of a write: its port, the access level it acts at, and the bits of the value's check that were turned over on
the way to the dictionary write path; 0 = none (R32, Table 1.9 kind 0x05). -/
structure Src where
  port : Port
  level : Level
  flip : BitVec 8 := 0
  /-- reference tick at which the parser verified the entry check (R351); none = tied with no other write -/
  arrival : Option Nat := none
  deriving DecidableEq, Repr

/-- A safety path (R359): true = SAFE-P, false = SAFE-L. -/
inductive Path where
  | p | l
  deriving DecidableEq, Repr

/-- A bridge of a stepper axis (R206). -/
inductive Bridge where
  | a | b
  deriving DecidableEq, Repr

/-- Which of the three channel-restarting objects FB_CHANNEL_RESTART writes (R118). -/
inductive FbRestart where
  | fbType | fbInvert | countsPerRev
  deriving DecidableEq, Repr

/-- An object reference (Table 10.5). -/
structure Ref where
  index : Nat
  sub : Nat
  deriving DecidableEq, Repr

/-- What the converter of one input gives at a sample instant: the 14-bit code as a signed number, and the 8-bit check of
its token as it reaches the crest (R28, R90, R91). -/
structure Conversion where
  code : Int
  check : BitVec 8
  deriving DecidableEq, Repr

/-- What a sigma-delta input brings for one decimated output (R94): the data bits that the filter spans, oldest first, the
reference tick of the output, the period of the modulator's own clock in reference ticks, used with SD_CLOCK 1, and the bits of
the value's check that were turned over on its way; 0 = none (R28). -/
structure SdValue where
  input : SdN
  bits : List Bool
  tick : Nat
  clock : Rat
  flip : BitVec 8 := 0
  deriving DecidableEq, Repr

/-- What the surroundings supply at a sample instant (R90, R94, R120). -/
structure SampleIn where
  /-- the conversions of the axis's inputs, in leg order -/
  conversions : List Conversion
  /-- counts that the tracking loop of a type 6 or 7 channel has moved since its previous snapshot, and the 16-bit
  fraction it now stands at (R120, R138) -/
  moved : Int
  fraction : Nat
  /-- the newest decimated outputs of the sigma-delta inputs (R94) -/
  sd : List SdValue
  /-- bits of the snapshot token's check that were turned over on its way to the crest; 0 = none (R32, Table 1.9 kind
  0x03) -/
  snapshotFlip : BitVec 8
  /-- VBS of legs of the axis in mV, as digitised every 100 µs since the last sample instant (R61) -/
  vbs : List (LegN × Nat) := []
  deriving DecidableEq, Repr

/-- What an execution of the axis loop meets (R24, R32). -/
structure CommitIn where
  /-- compute-and-commit time of this execution in ns, the abort allowance excluded (R24) -/
  execNs : Nat
  /-- bits of the check of the set-point token, and of the microstep-table entry, that were turned over on the way to the
  crest; 0 = none (Table 1.9 kind 0x04, R222) -/
  setpointFlip : BitVec 8
  tableFlip : BitVec 8
  deriving DecidableEq, Repr

/-- How the segment of one axis reaches its generator at a planner tick (R252). -/
structure Segment where
  /-- it was not delivered by the tick -/
  late : Bool
  /-- bits of its token's check that were turned over on the way; 0 = none (Table 1.9 kind 0x04) -/
  flip : BitVec 8
  deriving DecidableEq, Repr

/-- A CAN frame as it reaches a port (R299, R321). -/
structure CanFrame where
  /-- 29-bit identifier, or 11-bit when `extended` is false -/
  ident : Nat
  extended : Bool
  remote : Bool
  fd : Bool
  data : List Byte
  /-- bit-rate switch and error state indicator of an FD frame (R299, R313) -/
  brs : Bool := false
  esi : Bool := false
  deriving DecidableEq, Repr

/-- The token of a compare unit's crossing (R254): the crossing was made by an index correction, and the bits of its check that were
turned over on its way; 0 = none (R28). -/
structure Crossing where
  byCorrection : Bool := false
  flip : BitVec 8 := 0
  deriving DecidableEq, Repr

/-- Why a CAN transmission did not succeed (R309, R316). -/
inductive CanTxFault where
  | arbitrationLost | noAck | error
  deriving DecidableEq, Repr

/-- Fields of a GROUP_REF frame (Table 9.5). -/
structure GroupRef where
  member : MemberN
  seq : Nat
  check : Nat
  tG : Rat
  vG : Rat
  stop : Bool
  leaving : Bool
  shareVersion : Nat
  deriving DecidableEq, Repr

/-- Fields of a GROUP_SHARE frame (Table 9.6). -/
structure GroupShare where
  member : MemberN
  check : Nat
  velocityMode : Bool
  shareVersion : Nat
  inService : BitVec 8
  setPoint : Int
  shares : List Nat
  deriving DecidableEq, Repr

/-- Fields of a MEMBER_STATUS frame (Table 9.7); the torques as decoded from binary16, in N·m. -/
structure MemberStatus where
  member : MemberN
  seq : Nat
  stopRequest : Bool
  inService : Bool
  check : Nat
  cap : Rat
  applied : Rat
  deriving DecidableEq, Repr

/-- The fields of a received Ethernet frame and its Orham packet that the operands of a command do not give (Tables 10.3,
10.4); the fields that the spec reserves, and CODE and REASON, hold 0. Its defaults are a REQUEST of queue 0 to a device of the
card defaults of SEGMENT, NODE and ORHAM_ETHERTYPE. -/
structure Header where
  /-- destination MAC address; none = ETH_MAC of this device, or the multicast address of the sender's cyclic frame (R334) -/
  dstMac : Option Nat := none
  /-- the bytes from the source MAC address up to the packet: the tag, where there is one, and the EtherType, in network byte
  order (R335) -/
  framing : List Byte := [0x81, 0, 0, 0, 0x88, 0xB5]
  version : Nat := 1
  /-- KIND; none = that of the command -/
  kind : Option Nat := none
  /-- DST; of a request bits [13:0] only -/
  dst : Nat := 0
  /-- SESSION of a packet that is no request -/
  session : Nat := 0xFF
  /-- by how many bytes LENGTH exceeds the payload received -/
  lacking : Nat := 0
  /-- the end check -/
  endCheck : Word := 0
  deriving DecidableEq, Repr

/-- A dictionary request's header as the parser hands it on (Table 10.4). -/
structure Request where
  port : Port
  /-- source address word (Table 10.2) -/
  src : Nat
  /-- session number: 0 to 5 Orham, 0xFF none; ignored on CAN and the service port's single session -/
  session : Nat
  seq : Nat
  /-- reference tick at which the parser verified the entry check (R351) -/
  arrival : Nat
  /-- FORM of the destination address word (Table 10.2); on CAN 0 the short form, 1 the long form (R321) -/
  form : Nat
  /-- what its frame carries besides (on ETH-A, ETH-B and the service port) -/
  header : Header := {}
  /-- bits of the checks of the reply's values, reference by reference, that were turned over on the way to the reply-packet
  builder; 0 or missing = none (Table 1.9, kind 0x06) -/
  replyFlips : List (BitVec 8) := []
  /-- bits of the checks of a DOMAIN_WRITE's data or a SESSION_LEVEL_WRITE's value that were turned over on the way to the
  dictionary write path; 0 = none (Table 1.9, kind 0x05) -/
  entryFlip : BitVec 8 := 0
  deriving DecidableEq, Repr

/-- One reference of a WRITE: where, the value bytes, and the bits of the 8-bit check that the parser attached to it which were
turned over on the way to the dictionary write path; 0 = none (R31, Table 1.9 kind 0x05). -/
structure WriteRef where
  ref : Ref
  bytes : List Byte
  flip : BitVec 8 := 0
  deriving DecidableEq, Repr

/-- A Thodar envelope (Table 12.1), with the medium it arrived on (THODAR_MEDIUM code) and its source address. -/
structure Envelope where
  medium : Nat
  srcAddr : Nat
  version : Nat
  kind : Nat
  connection : Nat
  seq : Nat
  watchdog : Nat
  length : Nat
  payload : List Byte
  check : Word
  /-- byte 7 -/
  reserved : Nat := 0
  /-- on medium 1: the port of arrival and the rest of its SAFETY packet -/
  port : EthN := 0
  header : Header := { framing := [0x81, 0, 0xC0, 0, 0x88, 0xB5] }
  deriving DecidableEq, Repr

/-- What one safety path samples of one safety input in a cycle (R367, R369). -/
structure SiSample where
  aEnergised : Bool
  bEnergised : Bool
  deriving DecidableEq, Repr

/-- What SAFE-P's own counters have moved for one axis since the previous safety cycle, in counts of each source (R379). -/
structure SafeSpeedIn where
  travel1 : Int
  travel2 : Int
  deriving DecidableEq, Repr

/-- What one safety path sees in one 0.5 ms cycle (R367). -/
structure SafetyIn where
  si : List SiSample
  speed : List SafeSpeedIn
  /-- coil current of each brake output, mA (R391) -/
  coil : List Nat
  lockrst : Bool
  /-- pins SBCk+ and SBCk− of each brake output as the path reads them back: on (R388, R391) -/
  pins : List (Bool × Bool) := []
  /-- the dictionary writes of SAFE-P in the cycle whose check is turned over on the way: address and bits (Table 1.9, kind
  0x05) -/
  flips : List (Nat × BitVec 8) := []
  deriving DecidableEq, Repr

/-- The cairn of a test slice: its block, the patterns applied, and whether count and signature are those expected (R454,
R459). -/
structure SliceOutcome where
  block : Nat
  patterns : Nat
  countOk : Bool
  signatureOk : Bool
  deriving DecidableEq, Repr

/-- What an IEEE 1588 message says (R331), times in ns: a Sync with its origin time, which a two-step master sends in the
Follow_Up instead, and the answer to a Delay_Req with the time of its reception. -/
inductive PtpMsg where
  | sync (twoStep : Bool) (origin : Nat)
  | followUp (origin : Nat)
  | delayResp (receive : Nat)
  deriving DecidableEq, Repr

/-- An IEEE 1588 message for the ordinary clock, at the tick of its reception (R331, R332). -/
structure PtpIn where
  port : EthN
  /-- its PTP domain -/
  domain : Nat
  /-- it comes from the master that the best-master algorithm selects, or answers this clock -/
  selected : Bool
  seq : Nat
  /-- correctionField, in 2^-16 ns -/
  correction : Int := 0
  msg : PtpMsg
  deriving DecidableEq, Repr

/-- Kinds of IEEE 1588 messages that the transparent clock tells apart (R331). -/
inductive PtpKind where
  | sync | followUp | delayReq | other
  deriving DecidableEq, Repr

/-- What the transparent clock sees of an IEEE 1588 message (R331). -/
structure PtpFrame where
  kind : PtpKind
  /-- twoStepFlag -/
  twoStep : Bool := false
  /-- number of the sending port -/
  source : Nat := 0
  seq : Nat
  /-- correctionField, in 2^-16 ns -/
  correction : Int := 0
  deriving DecidableEq, Repr

/-- An Ethernet frame at the switch (R328, R334). -/
structure EthFrame where
  srcMac : Nat
  dstMac : Nat
  /-- PCP of the tag; none = untagged (R329) -/
  pcp : Option Nat
  /-- Orham source address word when the frame carries an Orham packet -/
  orhamSrc : Option Nat
  /-- bytes from the destination address to the FCS -/
  length : Nat := 64
  /-- the IEEE 1588 message that it carries -/
  ptp : Option PtpFrame := none
  deriving DecidableEq, Repr

/-- The commands and events of the GL4816, one constructor per row of spec/opcode_table.json. -/
inductive Instr where
  -- fabric and time reference (01)
  | sampleInstant (a : AxisN) (x : SampleIn)
  | axisLoopCommit (a : AxisN) (x : CommitIn)
  | updatePoint (a : AxisN) (flips : List (LegN × BitVec 8))
  | deadlineMissed (a : AxisN)
  | noAck (l : LegN)
  | refLost (tcxo : Bool)
  | refLockRegained
  | eccCorrected
  | marginWindowEnd (c : CrestN)
  | crestReinstate (src : Src) (c : CrestN) (v : Int)
  | crestReinstated (c : CrestN) (slices : List SliceOutcome)
  | gateForced (d : DomainN) (session : Nat) (seq : Nat)
  | gateDrainComplete (d : DomainN)
  | cyclicFrameReceived (p : EthN) (src frame cycle : Nat) (payload : List Byte) (header : Header)
  | cyclicApplicationInstant (k : CycN) (cycle : Nat) (flips : List (BitVec 8))
  | safetyEnableLossAtLeg (l : LegN) (path : Path)
  -- leg cells (02)
  | gateMonitorOffReport (l : LegN) (side : Side)
  | gateTimeout (l : LegN) (side : Side)
  | gateRiseUncommanded (l : LegN) (side : Side)
  | groupVgpUv (g : GroupN) (mv : Nat)
  | groupVgpRestored (g : GroupN) (mv : Nat)
  | groupVgpHigh (g : GroupN) (mv : Nat)
  | groupVgnHigh (g : GroupN) (mv : Int)
  | vbsWarning (l : LegN) (mv : Nat)
  | bootstrapUv (l : LegN) (mv : Nat)
  | rechargeComplete (l : LegN) (mv : Nat)
  | rechargeFailed (l : LegN)
  | prechargeEnd (a : AxisN) (vbs : List Nat)
  | desat (l : LegN) (side : Side)
  | hardShort (l : LegN) (side : Side)
  | reactionEnd (a : AxisN)
  | legFaultClear (l : LegN)
  | autoclear (l : LegN)
  | legReinstate (src : Src) (l : LegN) (v : Int)
  -- current sensing (03)
  | overcurrent (l : LegN)
  | zeroMeasurementComplete (a : AxisN) (codes : List (List Int))
  | sdNoData (i : SdN)
  | sdDcHoldExpiry (i : SdN)
  | sdRecovered (x : SdValue)
  | limitRelease (a : AxisN)
  | depthReadingsUpdate (a : AxisN)
  | ciReinstate (src : Src) (l : LegN) (v : Int)
  -- feedback (04)
  | edgeAccepted (f : ChanN) (levels : List (Line × Bool)) (stamp : Nat)
  | glitchSeen (f : ChanN) (line : Line)
  | standstill (f : ChanN)
  | ssiFrameStart (f : ChanN)
  | ssiFrameComplete (f : ChanN) (bits : List Bool) (idleBefore idleAfter : Bool)
  | amplitude (f : ChanN)
  | excOverload (e : ExcN)
  | excRetry (e : ExcN)
  | lineOpen (f : ChanN) (pair : Pair)
  | fbFaultClear (f : ChanN) (fault : FbFault)
  | fbChannelRestart (src : Src) (f : ChanN) (obj : FbRestart) (v : Int)
  | fbChannelValid (f : ChanN)
  | fbReinstate (src : Src) (f : ChanN) (v : Int)
  | indexArm (src : Src) (f : ChanN) (v : Int)
  | ptSourceChange (src : Src) (p : PtN) (v : Int)
  -- field control (05)
  | axisEnable (src : Src) (a : AxisN)
  | axisStart (src : Src) (a : AxisN)
  | axisStop (src : Src) (a : AxisN)
  | axisDisable (src : Src) (a : AxisN)
  | stopStandstill (a : AxisN)
  | encDisagree (a : AxisN)
  | encoderTakeback (a : AxisN)
  | observerLost (a : AxisN)
  | keWindowEnd (a : AxisN)
  | keAck (src : Src) (a : AxisN) (v : Int)
  | catchMeasurementComplete (a : AxisN) (samples : List (Rat × Rat × Rat))
  | catchSecondPulse (a : AxisN) (samples : List (Rat × Rat × Rat))
  | catchFailed (a : AxisN)
  | crestFailure (c : CrestN)
  | axisMigrated (a : AxisN)
  -- steppers (06)
  | chopperDecision (a : AxisN) (br : Bridge) (xs : List Conversion)
  | chopMinTimeExpiry (a : AxisN) (br : Bridge)
  | chopFastTimeExpiry (a : AxisN) (br : Bridge)
  | coilOpen (a : AxisN) (br : Bridge)
  | stepperSumImplausible (a : AxisN) (br : Bridge)
  | holdEntry (a : AxisN)
  | stepAlignEnd (a : AxisN)
  | stepTableCommit (src : Src) (t : TableN) (v : Int)
  | stepTableRestore (src : Src) (t : TableN) (v : Int)
  | stepTableFlashWritten (t : TableN)
  -- profiles, compare units, homing (07)
  | plannerTick (segments : List Segment)
  | followingFault (a : AxisN)
  | compareCrossing (u : UnitN) (forward : Bool) (stamp : Nat) (x : Crossing)
  | comparePulseEnd (u : UnitN)
  | cmpPositionWrite (src : Src) (u : UnitN) (v : Int)
  | cmpDirectionWrite (src : Src) (u : UnitN) (v : Int)
  | cmpSourceWrite (src : Src) (u : UnitN) (v : Int)
  | cmpEnableWrite (src : Src) (u : UnitN) (v : Int)
  | compareSourceValid (u : UnitN)
  | homeStart (src : Src) (a : AxisN)
  | homeAbort (src : Src) (a : AxisN)
  | homeStall (a : AxisN)
  -- ridge groups and power arbiter (08)
  | groupRefReceived (g : SlotN) (x : GroupRef)
  | groupShareReceived (g : SlotN) (x : GroupShare)
  | memberStatusReceived (g : SlotN) (x : MemberStatus)
  | groupRefSend (g : SlotN)
  | groupShareSend (g : SlotN)
  | memberStatusSend (a : AxisN)
  | leaderTakeover (g : SlotN)
  | memberAgeOut (g : SlotN) (k : MemberN)
  | leadResume (g : SlotN)
  | memberIsolated (a : AxisN)
  | isolatedTimeout (a : AxisN)
  | memberRejoined (a : AxisN)
  | arbiterTick
  | budgetFallback
  | freqStale
  -- CAN (09)
  | canFrameReceived (p : CanN) (f : CanFrame)
  | canTxSuccess (p : CanN) (m : MailboxN) (loopDelay : Nat)
  | canTxError (p : CanN) (m : MailboxN) (why : CanTxFault) (loopDelay : Option Nat)
  | busOffRecovered (p : CanN)
  | canRelease (src : Src) (p : CanN) (v : Int)
  | driverTimeout (p : CanN)
  | canReinstate (src : Src) (p : CanN) (v : Int)
  | canAbort (src : Src) (p : CanN) (mask : Int)
  | canModeWrite (src : Src) (p : CanN) (v : Int)
  | canIntegrated (p : CanN)
  | canSessionUnbind
  -- network and dictionary (10)
  | read (q : Request) (refs : List Ref)
  | write (q : Request) (refs : List WriteRef)
  | domainRead (q : Request) (ref : Ref) (offset maxLen : Nat) (badBeats : List Nat) (flashTries : Nat)
  | domainWrite (q : Request) (ref : Ref) (offset : Nat) (data : List Byte)
  | open (q : Request)
  | close (q : Request)
  | identify (q : Request)
  | identifyReply
  | progressReply (port : Port) (session seq : Nat)
  | sessionIdleTimeout (port : Port) (session : Nat)
  | sessionLevelWrite (q : Request) (v : Int)
  | credentialExpiry (port : Port) (session : Nat)
  | credentialLockExpiry
  | domainClaimExpiry (ref : Ref)
  | eventRepeat
  | eventEntryRead (i : EntryN)
  | eventAckAll (src : Src) (v : Int)
  | ethFrameForward (p : EthN) (f : EthFrame)
  | linkLost (p : EthN)
  | frameErrors (p : EthN) (bad : Nat)
  | ethReinstate (src : Src) (p : EthN) (v : Int)
  | ptpMessageReceived (x : PtpIn)
  | ptpLost
  -- safety (11)
  | safetyCycle (path : Path) (x : SafetyIn)
  | speedSourceFault (a : AxisN)
  | discrepancy (i : SiN) (path : Path)
  | pathLost (lost : Path)
  | pathMismatch
  | ss1TimeExpiry (a : AxisN) (path : Path)
  | ss1StandstillReached (a : AxisN)
  | brakeCmdWrite (src : Src) (k : SbcN) (v : Int)
  | brakeReleaseComplete (k : SbcN)
  | testPulseStart (k : SbcN)
  | testPulseEnd (k : SbcN) (pass : Bool)
  | sbcReadback (k : SbcN)
  | sbcOverload (k : SbcN)
  | lockrstFallingEdge (pulseUs : Nat)
  | lockrstStuck
  -- Thodar and safety configuration (12)
  | thodarData (e : Envelope)
  | thodarReset (e : Envelope)
  | thodarTimeout (j : ConnN)
  | thodarStatusSend (j : ConnN)
  | safetyPasswordNew (src : Src) (pw : List Byte)
  | configSeal (src : Src) (v : Int)
  -- services and recorder (13)
  | serviceTick (flips : List (Nat × BitVec 8))
  | thrEnable (src : Src) (t : SvcN) (v : Int)
  | thrCrashStart (src : Src) (t : SvcN)
  | thrCrashEnd (src : Src) (t : SvcN)
  | thrShedAutoRaise (t : SvcN)
  | thrShedAutoClear (t : SvcN)
  | winchModeWrite (src : Src) (w : SvcN) (v : Int)
  | payoutSet (src : Src) (w : SvcN) (v : Int)
  | payoutStore (w : SvcN)
  | winchReleaseStart (src : Src) (w : SvcN)
  | winchReleaseStop (src : Src) (w : SvcN)
  | releaseBrakeApply (w : SvcN)
  | spoolEnable (src : Src) (w : SvcN) (v : Int)
  | spoolLost (w : SvcN)
  | ahcReferenceLost (w : SvcN)
  | ahcFadeEnd (w : SvcN)
  | tensionStale (w : SvcN)
  | serviceLoss (a : AxisN)
  | recSample (flips : List (BitVec 8))
  | recHistorySecond
  | recFreeze (src : Src) (v : Int)
  | recFrozen
  | recRearm (src : Src) (v : Int)
  -- periodic self-test (14)
  | sliceStart (slot : TestSlot) (block : Nat)
  | sliceComplete (block : Nat) (patterns : Nat) (countOk signatureOk : Bool)
  | sliceAbort (block : Nat) (patterns : Nat)
  | sliceWaitExpiry (block : Nat)
  | cycleLate (block : Nat)
  | testRerun (src : Src) (v : Int)
  | testEnable (src : Src) (v : Int)
  | testCtrl (src : Src) (v : Int)
  | fullDeviceTestEnd
  | bscanOpen (src : Src)
  | bscanClose (src : Src)
  -- power domains, life cycle, firmware (15) and ratings (16)
  | domainReset (src : Src) (d : DomainN)
  | domainPowerDown (src : Src) (d : DomainN)
  | domainStart (src : Src) (d : DomainN)
  | domainReady (d : DomainN)
  | domainSupplyLoss (d : DomainN)
  | powerModeRun (src : Src)
  | powerModeQuiet (src : Src)
  | powerModeDormant (src : Src)
  | wake (mv : Nat)
  | supplyOn (mv : Nat)
  | supplyFailure (mv : Nat)
  | holdUpEnd (vkeepMv : Nat)
  | lcAdvance (src : Src) (v : Int)
  | lcNonceRedraw
  | fwVerifyComplete (k : FwN)
  | fwActivate (src : Src) (k : FwN) (v : Int)
  | fwTentativeConfirmed (k : FwN)
  | fwRevert (k : FwN)
  | baseplateMeasure (tenthsC : Int)
  | objectWrite (src : Src) (r : Ref) (v : Int)
  -- rows added at the table's end
  | pulseEdge (l : LegN)
  | deadtimeExpiry (l : LegN)
  | vbsWarnClear (l : LegN) (mv : Nat)
  | overcurrentCleared (a : AxisN)
  | canRxError (p : CanN) (weight : Nat)
  | ethLinkUp (p : EthN) (gigabit : Bool)
  | storedWriteReachesFlash (r : Ref)
  deriving DecidableEq, Repr

end Sys2Proof
end

