-- ==== Sys2Proof/Decode.lean ====
section
/-! DEFINITION. Reading a command from a word. No row of spec/opcode_table.json gives bits, so no word spells a
command: the block takes its commands from the queue. -/

namespace Sys2Proof

/-- The command that a word spells by the table's bits: none, since the table gives no row any bits.
DESIGN CHOICE, log entry 5. -/
def decodeTableWord (_nbits _w : Nat) : Option Instr := none

end Sys2Proof
end

