-- ==== Sys2Proof/Config.lean ====
section
/-! DEFINITION. The free values: what the manual leaves open or gives no method for. Each is a constant without a
body, so nothing can be proved of its value; notes/assumptions names each. -/

namespace Sys2Proof.Machine

/-- What the observer estimates (R178). -/
structure Observer where
  /-- electrical angle of the rotor, or of the flux of an induction axis, in electrical revolutions -/
  angle : Rat := 0
  /-- speed in counts/s, ψ or the rotor flux in Wb, back-EMF α and β in V -/
  speed : Rat := 0
  psi : Rat := 0
  emf : Rat × Rat := (0, 0)
  /-- the phase currents predicted for the next cycle, A -/
  next : Rat × Rat × Rat := (0, 0, 0)
  deriving DecidableEq, Repr, Inhabited

/-- The motor as the field control computes with it, in SI units: pole pairs, counts per revolution, resistance, d and q
inductance (the leakage inductance twice on an induction axis), nameplate flux linkage (PM), magnetising inductance and
rotor time constant (induction) (R167, R173). -/
structure Motor where
  induction : Bool
  poles : Nat
  cpr : Nat
  rs : Rat
  ld : Rat
  lq : Rat
  psi : Rat
  lm : Rat
  tauR : Rat
  deriving DecidableEq, Repr

end Sys2Proof.Machine

namespace Sys2Proof.Config

open Sys2Proof.Machine (Observer Motor)


/-- The square root as the module computes it (R168, R170, R227): the manual gives no precision.
DESIGN CHOICE, log entry 8. -/
opaque sqrt : Rat → Rat
/-- The binary32 pattern of a number that binary32 does not represent: the manual gives no rounding rule (R9).
DESIGN CHOICE, log entry 7. -/
opaque f32Round : Rat → Nat
/-- A count made of a number that is not whole, where the manual gives no rounding rule (R274).
DESIGN CHOICE, log entry 9. -/
opaque roundInt : Rat → Int
/-- The next output of the first-order low-pass of R282 from its last output, its input and the elapsed seconds: the
manual gives no discrete form. DESIGN CHOICE, log entry 13. -/
opaque lowPass : Rat → Rat → Rat → Rat
/-- The modelled rotor flux after a cycle, by dψr/dt = (LM·id − ψr)/TAU_R, for which the manual gives no discrete form
(R173). Arguments: ψr before in Wb, LM·id in Wb, TAU_R and the cycle time in s. DESIGN CHOICE, log entry 12. -/
opaque rotorFlux : Rat → Rat → Rat → Rat → Rat
/-- Sine and cosine of an angle in revolutions, and the angle in revolutions of the vector (x, y), as the module computes
them (R163, R173, R190): the manual gives no precision. DESIGN CHOICE, log entry 106. -/
opaque sin : Rat → Rat
/-- Cosine of an angle in revolutions. DESIGN CHOICE, log entry 106. -/
opaque cos : Rat → Rat
/-- The angle of the vector (x, y), in revolutions. DESIGN CHOICE, log entry 106. -/
opaque angle : Rat → Rat → Rat
/-- The value of an integrator after a step: its value, the rate of change, the seconds (R100, R167, R173, R176): the manual
gives the laws in continuous form. DESIGN CHOICE, log entry 107. -/
opaque integrate : Rat → Rat → Rat → Rat
/-- The next output of the voltage regulator of R169 and R174: its last output, the voltage margin in V, its bandwidth in
Hz, the seconds. The manual gives the bandwidth and no law. DESIGN CHOICE, log entry 108. -/
opaque regulator : Rat → Rat → Rat → Rat → Rat
/-- The next value of a current reference that ramps at CUR_BW: its last value, the target, the bandwidth in Hz, the
seconds (R191). DESIGN CHOICE, log entry 108. -/
opaque ramp : Rat → Rat → Rat → Rat → Rat
/-- The observer's next estimate: the last one, the measured phase currents, the applied phase voltages in V, Vdc, the
motor, OBS_BW in Hz and the seconds (R178): the manual gives its inputs and outputs and no law. DESIGN CHOICE,
log entry 10. -/
opaque observer : Observer → Rat × Rat × Rat → Rat × Rat × Rat → Rat → Motor → Rat → Rat → Observer
/-- The rate of change of a quantity sampled evenly: its samples, oldest first, and the seconds between them (R190): the
manual gives no estimator. DEDUCED, log entry 109. -/
opaque slope : List Rat → Rat → Rat

/-- REC after a reception in ERROR_PASSIVE: a value from 119 to 127, which ISO 11898-1 leaves to the controller; the
argument counts the draws (R313). DESIGN CHOICE, log entry 51. -/
opaque recRelease : Nat → Nat

/-- Recessive sequences counted in bus-off, from the reference tick at which the count began and the present one: they
depend on the bus (R314). Read modulo 129. DESIGN CHOICE, log entry 52. -/
opaque busOffCount : Nat → Nat → Nat

/-- Whether a LOCKRST pulse between the accepted and the rejected lengths, 0.198 to 0.2 s or 2.0 to 2.002 s, is accepted;
the arguments are the path (SAFE-P) and its length in µs (R398). DESIGN CHOICE, log entry 60. -/
opaque lockrstBand : Bool → Nat → Bool

/-- Whether a quotient that lies exactly between two whole numbers is rounded up, where the manual writes round() and does
not say (R433, R445). DESIGN CHOICE, log entry 9. -/
opaque halfUp : Rat → Bool
/-- π as the services compute with it (R427, R431): the manual gives no precision. DESIGN CHOICE, log entry 8. -/
opaque pi : Rat
/-- The cube root as the services compute it (R430): the manual gives no precision. DESIGN CHOICE, log entry 8. -/
opaque cubeRoot : Rat → Rat
/-- The value a service writes to SVC_ALIVE, modulo 256; the argument counts the draws (R423).
DESIGN CHOICE, log entry 84. -/
opaque svcAlive : Nat → Nat

/-- Patterns applied in a slice that the closing of its block's domain aborts (R456); the argument counts the draws.
DESIGN CHOICE, log entry 94. -/
opaque abortPatterns : Nat → Nat
/-- An ECDSA P-256 signature over SHA-256 of the message verifies against the Uhlom key fixed at manufacture, which the
manual does not give (R480, R483). Arguments: message, signature. DESIGN CHOICE, log entry 91. -/
opaque signatureOk : List Byte → List Byte → Bool
/-- The module's serial number, 16 bytes, set at manufacture (R334, R480). DESIGN CHOICE, log entry 91. -/
opaque serial : List Byte
/-- ETH_MAC, set at manufacture (Table 10.13). DESIGN CHOICE, log entry 91. -/
opaque ethMac : Nat
/-- The MAC address that the module takes for the device or client of an address word (R334, Table 10.3): the manual does not say
how it finds it. DESIGN CHOICE, log entry 139. -/
opaque macOf : Nat → Nat
/-- A reply repeats the references of its request (R336): the manual does not say. DESIGN CHOICE, log entry 139. -/
opaque replyRefs : Bool
/-- SESSION of the service port's session in its replies (R342, Table 10.4). DESIGN CHOICE, log entry 139. -/
opaque serviceNumber : Nat
/-- A header field that the manual leaves open for a KIND: the KIND and the field's first byte (Table 10.4).
DESIGN CHOICE, log entry 139. -/
opaque openHeader : Nat → Nat → Nat
/-- ORDER_VARIANT, set at manufacture (R7). DESIGN CHOICE, log entry 91. -/
opaque orderVariant : Nat
/-- Bytes of a piece that are in flash when a progress reply is sent (R347); the argument counts the draws.
DESIGN CHOICE, log entry 92. -/
opaque flashDone : Nat → Nat
/-- The TCXO frequency offset that the servo aims at, in 0.001 ppm, from the measured offset in ns and the last one
(R332): the manual gives no law. DESIGN CHOICE, log entry 75. -/
opaque servo : Rat → Int → Int
/-- The error of a measured residence time, in 2^-16 ns, held within ±8 ns (R331); the arguments are the port and the count
of its measurements. DESIGN CHOICE, log entry 158. -/
opaque residenceError : Nat → Nat → Int
/-- The code of the event-log entry SLEW_LIMITED of R21, for which no table gives one. DESIGN CHOICE, log entry 74. -/
opaque slewCode : Nat
/-- LC_NONCE as drawn; the argument counts the draws (R480). DESIGN CHOICE, log entry 91. -/
opaque nonce : Nat → Nat
/-- Factory test results are stored (Table 15.6). DESIGN CHOICE, log entry 91. -/
opaque factoryTested : Bool

end Sys2Proof.Config
end

