-- ==== Sys2Proof/Machine/Objects.lean ====
section
/-! DEFINITION. The Daric dictionary's object cards: every object card of the manual as one row (index, subindex,
stride, instances, type, access, default, range, persistence, effect timing), and the named address of every
object. An address is index × 256 + subindex. Values are carried as integers; an F32 value as its binary32
pattern. -/

namespace Sys2Proof.Machine

/-- Object types of the cards; U64 and I64 are 8 bytes, STR and DOMAIN are byte strings. -/
inductive Ty where
  | u8 | u16 | u32 | u64 | i8 | i16 | i32 | i64 | f32 | domain | str
  deriving DecidableEq, Repr

/-- Ranges of the cards. Float bounds are binary32 patterns; `custom` ranges are checked by `customRange`. -/
inductive Range where
  | all
  | ints (lo hi : Int)
  | intsOr (lo hi : Int) (extra : List Int)
  | stepped (lo hi step : Int)
  | oneOf (vs : List Int)
  | floats (lo hi : Nat)
  | floatsOrZero (lo hi : Nat)
  | floatsNotZero (lo hi : Nat)
  | finite
  | finiteNotZero
  | custom
  deriving DecidableEq, Repr

/-- Persistence (Table 0.5). -/
inductive Persist where
  | volatile | stored | keep | factory
  deriving DecidableEq, Repr

/-- Takes effect (Table 0.5); a card's own refusals are the object's behaviour. -/
inductive Effect where
  | immediate | nextCycle | nextPlanner | nextArbiter | whenDisabled | atRestart
  deriving DecidableEq, Repr

/-- One object card. Instance i lies at index + stride × i, i < instances; subindexes sub to sub + subs − 1. -/
structure Card where
  index : Nat
  sub : Nat
  stride : Nat
  instances : Nat
  subs : Nat
  ty : Ty
  /-- lowest level that may write; none = READ, read-only -/
  write : Option Level
  dflt : Int
  range : Range
  persist : Persist
  effect : Effect
  deriving DecidableEq, Repr

/-- The value of a binary32 pattern; none for infinities and NaN. -/
def f32Value (bits : Int) : Option Rat :=
  let b := bits.toNat % 0x100000000
  let neg : Bool := b ≥ 0x80000000
  let e := b / 0x800000 % 0x100
  let m := b % 0x800000
  let mag : Option Rat :=
    if e = 255 then none
    else if e = 0 then some (mkRat m (2 ^ 149))
    else if e ≥ 150 then some (((m + 0x800000) * 2 ^ (e - 150) : Nat) : Rat)
    else some (mkRat ((m + 0x800000 : Nat) : Int) (2 ^ (150 - e)))
  mag.map fun q => if neg then -q else q

/-- The value of a binary32 pattern as a number; infinities and NaN never pass a range (R12) and read 0 here. -/
def f32Rat (bits : Int) : Rat := (f32Value bits).getD 0

/-- The card covers the address. -/
def Card.covers (c : Card) (a : Nat) : Bool :=
  let i := a / 256
  let s := a % 256
  c.sub ≤ s && s < c.sub + c.subs && c.index ≤ i &&
    (if c.stride = 0 then i == c.index
     else (i - c.index) % c.stride == 0 && (i - c.index) / c.stride < c.instances)

/-- The lengths in bytes of the value types (R9). -/
def Ty.bytes : Ty → Option Nat
  | .u8 | .i8 => some 1
  | .u16 | .i16 => some 2
  | .u32 | .i32 | .f32 => some 4
  | .u64 | .i64 => some 8
  | .domain | .str => none

/-- Bounds of an integer type. -/
def Ty.bounds : Ty → Int × Int
  | .u8 => (0, 0xFF)
  | .u16 => (0, 0xFFFF)
  | .u32 | .f32 => (0, 0xFFFFFFFF)
  | .u64 => (0, 0xFFFFFFFFFFFFFFFF)
  | .i8 => (-0x80, 0x7F)
  | .i16 => (-0x8000, 0x7FFF)
  | .i32 => (-0x80000000, 0x7FFFFFFF)
  | .i64 => (-0x8000000000000000, 0x7FFFFFFFFFFFFFFF)
  | .domain | .str => (0, 0)

/-- Both ends of a range are accepted (R12). `custom` ranges answer true here. -/
def Range.holds (r : Range) (v : Int) : Bool :=
  match r with
  | .all | .custom => true
  | .ints lo hi => lo ≤ v && v ≤ hi
  | .intsOr lo hi extra => (lo ≤ v && v ≤ hi) || extra.contains v
  | .stepped lo hi step => lo ≤ v && v ≤ hi && (v - lo) % step == 0
  | .oneOf vs => vs.contains v
  | .floats lo hi => match f32Value v with
    | some q => f32Rat lo ≤ q && q ≤ f32Rat hi
    | none => false
  | .floatsOrZero lo hi => match f32Value v with
    | some q => q == 0 || (f32Rat lo ≤ q && q ≤ f32Rat hi)
    | none => false
  | .floatsNotZero lo hi => match f32Value v with
    | some q => q != 0 && f32Rat lo ≤ q && q ≤ f32Rat hi
    | none => false
  | .finite => (f32Value v).isSome
  | .finiteNotZero => match f32Value v with
    | some q => q != 0
    | none => false

/-- Object cards of the indexes 0x1000 to 0x1FFF, part 1. -/
def cards1a : List Card := [
  ⟨0x1000, 0x03, 0, 1, 1, .u8, none, 0, .all, .factory, .immediate⟩,  -- ORDER_VARIANT
  ⟨0x1300, 0x01, 0x40, 2, 1, .u32, none, 0, .all, .volatile, .immediate⟩,  -- CAN_STATUS
  ⟨0x1300, 0x02, 0x40, 2, 1, .u8, none, 0, .all, .volatile, .immediate⟩,  -- TDC_MEASURED
  ⟨0x1300, 0x03, 0x40, 2, 1, .u32, (some .operate), 0, .oneOf [0], .volatile, .immediate⟩,  -- RX_DISCARD_COUNT
  ⟨0x1300, 0x04, 0x40, 2, 1, .u32, (some .operate), 0, .oneOf [0], .volatile, .immediate⟩,  -- RX_OVERRUN_COUNT
  ⟨0x1300, 0x05, 0x40, 2, 1, .u32, none, 0, .all, .volatile, .immediate⟩,  -- CAN_TX_PENDING
  ⟨0x1301, 0x01, 0x40, 2, 1, .u8, (some .configure), 0, .ints 0 3, .stored, .immediate⟩,  -- CAN_MODE
  ⟨0x1301, 0x02, 0x40, 2, 1, .u8, (some .configure), 0, .ints 0 1, .stored, .immediate⟩,  -- CAN_TERM
  ⟨0x1301, 0x03, 0x40, 2, 1, .u8, (some .configure), 0, .ints 0 1, .stored, .immediate⟩,  -- BUSOFF_RECOVERY
  ⟨0x1301, 0x04, 0x40, 2, 1, .u8, (some .operate), 0, .oneOf [1], .volatile, .immediate⟩,  -- CAN_RELEASE
  ⟨0x1301, 0x05, 0x40, 2, 1, .u32, (some .configure), 0, .all, .volatile, .immediate⟩,  -- CAN_ABORT
  ⟨0x1301, 0x06, 0x40, 2, 1, .u8, (some .configure), 0, .oneOf [1], .volatile, .immediate⟩,  -- CAN_REINSTATE
  ⟨0x1302, 0x01, 0x40, 2, 1, .u16, (some .configure), 2, .ints 1 256, .stored, .immediate⟩,  -- NOM_PRESC
  ⟨0x1302, 0x02, 0x40, 2, 1, .u8, (some .configure), 53, .ints 1 64, .stored, .immediate⟩,  -- NOM_PROP
  ⟨0x1302, 0x03, 0x40, 2, 1, .u8, (some .configure), 16, .ints 1 64, .stored, .immediate⟩,  -- NOM_PHASE1
  ⟨0x1302, 0x04, 0x40, 2, 1, .u8, (some .configure), 10, .ints 2 64, .stored, .immediate⟩,  -- NOM_PHASE2
  ⟨0x1302, 0x05, 0x40, 2, 1, .u8, (some .configure), 10, .ints 1 64, .stored, .immediate⟩,  -- NOM_SJW
  ⟨0x1303, 0x01, 0x40, 2, 1, .u8, (some .configure), 1, .ints 1 32, .stored, .immediate⟩,  -- DATA_PRESC
  ⟨0x1303, 0x02, 0x40, 2, 1, .u8, (some .configure), 0, .ints 0 31, .stored, .immediate⟩,  -- DATA_PROP
  ⟨0x1303, 0x03, 0x40, 2, 1, .u8, (some .configure), 27, .ints 1 32, .stored, .immediate⟩,  -- DATA_PHASE1
  ⟨0x1303, 0x04, 0x40, 2, 1, .u8, (some .configure), 12, .ints 1 16, .stored, .immediate⟩,  -- DATA_PHASE2
  ⟨0x1303, 0x05, 0x40, 2, 1, .u8, (some .configure), 12, .ints 1 16, .stored, .immediate⟩,  -- DATA_SJW
  ⟨0x1303, 0x06, 0x40, 2, 1, .u8, (some .configure), 1, .ints 0 1, .stored, .immediate⟩,  -- TDC_MODE
  ⟨0x1303, 0x07, 0x40, 2, 1, .u8, (some .configure), 28, .ints 0 127, .stored, .immediate⟩,  -- TDC_OFFSET
  ⟨0x1380, 0x01, 0, 1, 1, .u8, (some .configure), 3, .ints 2 10, .stored, .immediate⟩,  -- CAN_RETIRE_COUNT
  ⟨0x1380, 0x02, 0, 1, 1, .u16, (some .configure), 10, .ints 1 600, .stored, .immediate⟩,  -- CAN_RETIRE_WINDOW
  ⟨0x1380, 0x03, 0, 1, 1, .u16, (some .configure), 10, .ints 1 600, .stored, .immediate⟩,  -- CAN_SESSION_IDLE
  ⟨0x1380, 0x04, 0, 1, 1, .u16, none, 0, .all, .volatile, .immediate⟩,  -- CAN_CLASS_COUNTS
  ⟨0x1200, 0x01, 0, 1, 1, .u8, (some .configure), 0, .ints 0 63, .stored, .atRestart⟩,  -- SEGMENT
  ⟨0x1200, 0x02, 0, 1, 1, .u8, (some .configure), 0, .all, .stored, .atRestart⟩,  -- NODE
  ⟨0x1200, 0x03, 0, 1, 1, .u16, (some .configure), 34997, .custom, .stored, .atRestart⟩,  -- ORHAM_ETHERTYPE
  ⟨0x1200, 0x04, 0, 1, 1, .u16, (some .configure), 0, .ints 0 4094, .stored, .atRestart⟩,  -- ORHAM_VID
  ⟨0x1200, 0x05, 0, 1, 1, .u64, none, 0, .all, .factory, .immediate⟩,  -- ETH_MAC
  ⟨0x1010, 0x01, 0, 1, 1, .domain, none, 0, .all, .factory, .immediate⟩,  -- DICT_DESCRIPTION
  ⟨0x1210, 0x01, 0x8, 2, 1, .u32, none, 0, .all, .volatile, .immediate⟩,  -- ETH_STATUS
  ⟨0x1210, 0x02, 0x8, 2, 1, .u8, (some .configure), 0, .ints 0 2, .stored, .immediate⟩,  -- ETH_SPEED
  ⟨0x1210, 0x03, 0x8, 2, 1, .u8, (some .configure), 1, .ints 0 1, .stored, .immediate⟩,  -- ETH_EXPECT_LINK
  ⟨0x1210, 0x04, 0x8, 2, 1, .u8, (some .configure), 0, .oneOf [1], .volatile, .immediate⟩,  -- ETH_REINSTATE
  ⟨0x1210, 0x05, 0x8, 2, 1, .u32, (some .operate), 0, .oneOf [0], .volatile, .immediate⟩,  -- RX_POLICED_COUNT
  ⟨0x1210, 0x06, 0x8, 2, 1, .u32, (some .operate), 0, .oneOf [0], .volatile, .immediate⟩]  -- END_CHECK_FAIL_COUNT

/-- Object cards of the indexes 0x1000 to 0x1FFF, part 2. -/
def cards1b : List Card := [
  ⟨0x1210, 0x07, 0x8, 2, 1, .u32, (some .operate), 0, .oneOf [0], .volatile, .immediate⟩,  -- BAD_FORM_COUNT
  ⟨0x1220, 0x01, 0, 1, 1, .u8, (some .configure), 1, .ints 0 1, .stored, .immediate⟩,  -- PTP_ROLE
  ⟨0x1220, 0x02, 0, 1, 1, .u8, (some .configure), 1, .ints 0 1, .stored, .immediate⟩,  -- PTP_TC
  ⟨0x1220, 0x03, 0, 1, 1, .u8, (some .configure), 0, .ints 0 127, .stored, .immediate⟩,  -- PTP_DOMAIN
  ⟨0x1220, 0x04, 0, 1, 1, .i32, none, 0, .all, .volatile, .immediate⟩,  -- PTP_OFFSET
  ⟨0x1230, 0x01, 0, 1, 1, .u8, (some .safety), 2, .ints 0 3, .stored, .immediate⟩,  -- PORT_MAX_LEVEL
  ⟨0x1230, 0x02, 0, 1, 1, .u8, (some .safety), 2, .ints 0 3, .stored, .immediate⟩,  -- PORT_MAX_LEVEL
  ⟨0x1230, 0x03, 0, 1, 1, .u8, (some .safety), 1, .ints 0 3, .stored, .immediate⟩,  -- PORT_MAX_LEVEL
  ⟨0x1230, 0x04, 0, 1, 1, .u8, (some .safety), 4, .ints 0 4, .stored, .immediate⟩,  -- PORT_MAX_LEVEL
  ⟨0x1231, 0x01, 0, 1, 1, .u16, (some .configure), 10, .ints 1 600, .stored, .immediate⟩,  -- SESSION_IDLE
  ⟨0x1231, 0x02, 0, 1, 1, .u32, (some .configure), 20000, .ints 1000 100000, .stored, .immediate⟩,  -- ORHAM_RX_LIMIT
  ⟨0x1238, 0x01, 0, 1, 1, .u8, (some .read), 0, .ints 0 4, .volatile, .immediate⟩,  -- SESSION_LEVEL
  ⟨0x1238, 0x02, 0, 1, 1, .domain, (some .read), 0, .all, .volatile, .immediate⟩,  -- SESSION_CREDENTIAL
  ⟨0x1250, 0x01, 0, 1, 1, .u8, (some .configure), 3, .ints 2 10, .stored, .immediate⟩,  -- ETH_RETIRE_COUNT
  ⟨0x1250, 0x02, 0, 1, 1, .u16, (some .configure), 10, .ints 1 600, .stored, .immediate⟩,  -- ETH_RETIRE_WINDOW
  ⟨0x1240, 0x01, 0, 1, 1, .u16, (some .configure), 49152, .custom, .stored, .immediate⟩,  -- EVENT_DEST
  ⟨0x1240, 0x02, 0, 1, 1, .u16, (some .configure), 1000, .ints 100 60000, .stored, .immediate⟩,  -- EVENT_REPEAT
  ⟨0x1500, 0x01, 0x1, 16, 1, .u8, (some .configure), 0, .ints 0 1, .stored, .immediate⟩,  -- CYC_ENABLE
  ⟨0x1500, 0x02, 0x1, 16, 1, .u8, (some .configure), 0, .ints 0 1, .stored, .immediate⟩,  -- CYC_DIR
  ⟨0x1500, 0x03, 0x1, 16, 1, .u16, (some .configure), 16, .ints 1 1600, .stored, .immediate⟩,  -- CYC_PERIOD
  ⟨0x1500, 0x04, 0x1, 16, 1, .u32, (some .configure), 0, .custom, .stored, .immediate⟩,  -- CYC_PHASE
  ⟨0x1500, 0x05, 0x1, 16, 1, .u16, (some .configure), 16384, .custom, .stored, .immediate⟩,  -- CYC_PEER
  ⟨0x1500, 0x06, 0x1, 16, 1, .u8, (some .configure), 0, .ints 0 15, .stored, .immediate⟩,  -- CYC_PEER_FRAME
  ⟨0x1500, 0x07, 0x1, 16, 1, .u8, (some .configure), 3, .ints 1 255, .stored, .immediate⟩,  -- CYC_WATCHDOG
  ⟨0x1500, 0x08, 0x1, 16, 1, .u8, (some .configure), 0, .ints 0 1, .stored, .immediate⟩,  -- WATCHDOG_ACTION
  ⟨0x1400, 0x01, 0x1, 128, 16, .u32, (some .configure), 0, .custom, .stored, .immediate⟩,  -- ENDPOINT_ENTRY
  ⟨0x1600, 0x01, 0x1, 16, 64, .u16, (some .configure), 65535, .custom, .stored, .immediate⟩,  -- MAP_ENTRY
  ⟨0x1100, 0x01, 0, 1, 1, .u8, (some .configure), 0, .ints 0 2, .volatile, .immediate⟩,  -- POWER_MODE
  ⟨0x1100, 0x02, 0, 1, 1, .u32, none, 0, .all, .volatile, .immediate⟩,  -- DOMAIN_STATUS
  ⟨0x1100, 0x03, 0, 1, 1, .u16, (some .configure), 0, .custom, .volatile, .immediate⟩,  -- DOMAIN_CTRL
  ⟨0x1100, 0x04, 0, 1, 1, .u8, (some .configure), 3, .ints 0 3, .keep, .immediate⟩,  -- POWER_CONFIG
  ⟨0x1100, 0x05, 0, 1, 1, .u16, none, 0, .all, .volatile, .immediate⟩,  -- SUPPLY_NOW
  ⟨0x1100, 0x06, 0, 1, 1, .u16, none, 0, .all, .volatile, .immediate⟩,  -- VKEEP_NOW
  ⟨0x1100, 0x07, 0, 1, 1, .u8, none, 0, .all, .keep, .immediate⟩,  -- LAST_START
  ⟨0x1100, 0x08, 0, 1, 1, .u32, (some .configure), 0, .all, .keep, .immediate⟩,  -- RTC_TIME
  ⟨0x1020, 0x01, 0, 1, 1, .u8, none, 0, .all, .keep, .immediate⟩,  -- LC_STATE
  ⟨0x1020, 0x02, 0, 1, 1, .u32, none, 0, .all, .volatile, .immediate⟩,  -- LC_NONCE
  ⟨0x1020, 0x03, 0, 1, 1, .u32, (some .configure), 0, .all, .volatile, .immediate⟩,  -- LC_CONSENT
  ⟨0x1020, 0x04, 0, 1, 1, .domain, (some .configure), 0, .all, .volatile, .immediate⟩,  -- LC_TOKEN
  ⟨0x1020, 0x05, 0, 1, 1, .u8, (some .configure), 0, .ints 1 4, .volatile, .atRestart⟩]  -- LC_ADVANCE

/-- Object cards of the indexes 0x1000 to 0x1FFF, part 3. -/
def cards1c : List Card := [
  ⟨0x1100, 0x09, 0, 1, 1, .i16, none, 0, .all, .volatile, .immediate⟩]  -- BASEPLATE_TEMP

/-- Object cards of the indexes 0x2000 to 0x2FFF, part 1. -/
def cards2a : List Card := [
  ⟨0x2000, 0x01, 0, 1, 1, .u16, none, 0, .all, .volatile, .immediate⟩,  -- REF_STATUS
  ⟨0x2000, 0x03, 0, 1, 1, .u64, none, 0, .all, .volatile, .immediate⟩,  -- REF_TIME
  ⟨0x2000, 0x02, 0, 1, 1, .u8, (some .configure), 0, .ints 0 1, .stored, .immediate⟩,  -- REF_DISCIPLINE
  ⟨0x2010, 0x05, 0x10, 4, 1, .u32, none, 0, .all, .volatile, .immediate⟩,  -- CREST_LOAD
  ⟨0x2010, 0x01, 0x10, 4, 1, .u8, (some .configure), 25, .ints 10 50, .stored, .immediate⟩,  -- MARGIN_FLOOR
  ⟨0x2010, 0x02, 0x10, 4, 1, .u16, (some .configure), 900, .stepped 800 950 10, .stored, .immediate⟩,  -- VCREST_LIMIT
  ⟨0x2010, 0x03, 0x10, 4, 1, .i8, none, 100, .all, .volatile, .immediate⟩,  -- MARGIN_NOW
  ⟨0x2010, 0x04, 0x10, 4, 1, .u16, none, 800, .all, .volatile, .immediate⟩,  -- VCREST_NOW
  ⟨0x2050, 0x01, 0, 1, 8, .u32, (some .operate), 0, .oneOf [0], .volatile, .immediate⟩,  -- CHECK_FAIL_COUNT
  ⟨0x2070, 0x01, 0, 1, 1, .u8, (some .configure), 3, .ints 2 10, .stored, .immediate⟩,  -- CREST_RETIRE_COUNT
  ⟨0x2070, 0x02, 0, 1, 1, .u16, (some .configure), 10, .ints 1 600, .stored, .immediate⟩,  -- CREST_RETIRE_WINDOW
  ⟨0x2070, 0x03, 0, 1, 1, .u32, none, 0, .all, .volatile, .immediate⟩,  -- CREST_CLASS_COUNTS
  ⟨0x2010, 0x07, 0x10, 4, 1, .u8, (some .configure), 0, .oneOf [1], .volatile, .immediate⟩,  -- CREST_REINSTATE
  ⟨0x2010, 0x06, 0x10, 4, 1, .u16, none, 0, .all, .volatile, .immediate⟩,  -- CREST_STATUS
  ⟨0x2060, 0x01, 0, 1, 1, .u32, none, 0, .all, .volatile, .immediate⟩]  -- GATE_STATUS

/-- Object cards of the indexes 0x3000 to 0x3FFF, part 1. -/
def cards3a : List Card := [
  ⟨0x3001, 0x01, 0x40, 48, 1, .u32, (some .configure), 6400, .ints 0 64000, .stored, .whenDisabled⟩,  -- DEADTIME
  ⟨0x3001, 0x02, 0x40, 48, 1, .u32, none, 6400, .all, .volatile, .immediate⟩,  -- DEADTIME_EFFECTIVE
  ⟨0x3001, 0x03, 0x40, 48, 1, .u16, (some .configure), 2000, .ints 200 10000, .stored, .whenDisabled⟩,  -- GATE_OFF_TIMEOUT
  ⟨0x3001, 0x04, 0x40, 48, 1, .u16, (some .configure), 200, .ints 0 2000, .stored, .whenDisabled⟩,  -- MIN_ON
  ⟨0x3C00, 0x01, 0x10, 6, 1, .u16, none, 0, .all, .volatile, .immediate⟩,  -- GROUP_STATUS
  ⟨0x3C00, 0x02, 0x10, 6, 1, .u16, none, 0, .all, .volatile, .immediate⟩,  -- VGP_NOW
  ⟨0x3C00, 0x03, 0x10, 6, 1, .i16, none, 0, .all, .volatile, .immediate⟩,  -- VGN_NOW
  ⟨0x3C00, 0x04, 0x10, 6, 1, .i16, (some .configure), -5000, .ints (-8000) 0, .stored, .immediate⟩,  -- VGN_EXPECTED
  ⟨0x3002, 0x01, 0x40, 48, 1, .u8, (some .configure), 20, .ints 4 64, .stored, .whenDisabled⟩,  -- BLANKING
  ⟨0x3002, 0x02, 0x40, 48, 1, .u8, (some .configure), 28, .ints 16 40, .stored, .whenDisabled⟩,  -- DESAT_THRESHOLD
  ⟨0x3002, 0x03, 0x40, 48, 1, .u16, (some .configure), 800, .ints 100 3000, .stored, .whenDisabled⟩,  -- MILLER_TIMEOUT
  ⟨0x3002, 0x04, 0x40, 48, 1, .u8, (some .configure), 1, .ints 0 3, .stored, .whenDisabled⟩,  -- SOFT_OFF_CURRENT
  ⟨0x3000, 0x01, 0x40, 48, 1, .u32, none, 1342177280, .all, .volatile, .immediate⟩,  -- LEG_STATUS
  ⟨0x3000, 0x02, 0x40, 48, 1, .u16, none, 0, .all, .volatile, .immediate⟩,  -- VBS_NOW
  ⟨0x3003, 0x01, 0x40, 48, 1, .u8, (some .configure), 0, .oneOf [1], .volatile, .immediate⟩,  -- LEG_REINSTATE
  ⟨0x3C60, 0x01, 0, 1, 1, .u8, (some .configure), 3, .ints 2 10, .stored, .immediate⟩,  -- RETIRE_COUNT
  ⟨0x3C60, 0x02, 0, 1, 1, .u16, (some .configure), 10, .ints 1 600, .stored, .immediate⟩,  -- RETIRE_WINDOW
  ⟨0x3C60, 0x03, 0, 1, 1, .u16, (some .configure), 50, .ints 10 1000, .stored, .immediate⟩,  -- AUTOCLEAR_WAIT
  ⟨0x3C60, 0x04, 0, 1, 1, .u8, (some .configure), 3, .ints 0 3, .stored, .immediate⟩,  -- AUTOCLEAR_MAX
  ⟨0x3C60, 0x05, 0, 1, 1, .u16, (some .configure), 200, .ints 20 5000, .stored, .atRestart⟩,  -- BS_PRECHARGE
  ⟨0x3008, 0x01, 0x40, 48, 1, .u8, (some .configure), 0, .ints 0 1, .stored, .whenDisabled⟩,  -- CI_MODE
  ⟨0x3008, 0x02, 0x40, 48, 1, .f32, (some .configure), 1120403456, .floatsNotZero 3323740160 1176256512, .stored, .whenDisabled⟩,  -- CI_GAIN
  ⟨0x3008, 0x03, 0x40, 48, 1, .f32, (some .configure), 0, .floats 3212836864 1065353216, .stored, .whenDisabled⟩,  -- CI_OFFSET
  ⟨0x3008, 0x04, 0x40, 48, 1, .u16, (some .configure), 9500, .ints 1000 9800, .stored, .whenDisabled⟩,  -- OC_LEVEL
  ⟨0x3008, 0x05, 0x40, 48, 1, .u16, (some .configure), 200, .ints 0 1000, .stored, .whenDisabled⟩,  -- OC_FILTER
  ⟨0x3009, 0x01, 0x40, 48, 1, .u16, none, 0, .all, .volatile, .immediate⟩,  -- CI_STATUS
  ⟨0x3009, 0x02, 0x40, 48, 1, .f32, none, 0, .all, .volatile, .immediate⟩,  -- CI_NOW
  ⟨0x3009, 0x03, 0x40, 48, 1, .f32, none, 0, .all, .volatile, .immediate⟩,  -- CI_ZERO_MEASURED
  ⟨0x3009, 0x04, 0x40, 48, 1, .u8, (some .configure), 0, .oneOf [1], .volatile, .immediate⟩,  -- CI_REINSTATE
  ⟨0x3D00, 0x01, 0x10, 16, 1, .u8, (some .configure), 0, .ints 0 4, .stored, .whenDisabled⟩,  -- SD_ROLE
  ⟨0x3D00, 0x02, 0x10, 16, 1, .u8, (some .configure), 0, .ints 0 15, .stored, .whenDisabled⟩,  -- SD_AXIS
  ⟨0x3D00, 0x03, 0x10, 16, 1, .u8, (some .configure), 1, .ints 0 3, .stored, .whenDisabled⟩,  -- SD_OSR
  ⟨0x3D00, 0x04, 0x10, 16, 1, .u8, (some .configure), 0, .ints 0 1, .stored, .whenDisabled⟩,  -- SD_CLOCK
  ⟨0x3D00, 0x05, 0x10, 16, 1, .f32, (some .configure), 1148846080, .floats 3323740160 1176256512, .stored, .whenDisabled⟩,  -- SD_GAIN
  ⟨0x3D00, 0x06, 0x10, 16, 1, .f32, (some .configure), 0, .floats 3267887104 1120403456, .stored, .whenDisabled⟩,  -- SD_OFFSET
  ⟨0x3D00, 0x07, 0x10, 16, 1, .f32, none, 0, .all, .volatile, .immediate⟩]  -- SD_NOW

/-- Object cards of the indexes 0x4000 to 0x4FFF, part 1. -/
def cards4a : List Card := [
  ⟨0x4038, 0x01, 0x100, 16, 1, .u32, (some .configure), 0, .all, .stored, .nextCycle⟩,  -- ASC_SPEED
  ⟨0x4038, 0x02, 0x100, 16, 1, .u16, (some .configure), 10, .ints 1 10000, .stored, .whenDisabled⟩,  -- ASC_HOLD
  ⟨0x4038, 0x03, 0x100, 16, 1, .u8, (some .configure), 0, .ints 0 1, .stored, .whenDisabled⟩,  -- LEG_FAULT_RESUME
  ⟨0x40F8, 0x01, 0x100, 16, 1, .u16, none, 4095, .all, .volatile, .immediate⟩,  -- REACTION_STATUS
  ⟨0x40F8, 0x02, 0x100, 16, 1, .u16, none, 1000, .all, .volatile, .immediate⟩,  -- LEG_FRACTION
  ⟨0x4030, 0x01, 0x100, 16, 1, .u16, (some .configure), 1000, .ints 400 3000, .stored, .whenDisabled⟩,  -- SETTLE_TIME
  ⟨0x4030, 0x02, 0x100, 16, 1, .u8, (some .configure), 4, .ints 2 16, .stored, .whenDisabled⟩,  -- PREDICT_MAX
  ⟨0x4030, 0x03, 0x100, 16, 1, .u16, (some .configure), 100, .ints 10 10000, .stored, .immediate⟩,  -- LIMIT_RELEASE
  ⟨0x4030, 0x04, 0x100, 16, 1, .f32, (some .configure), 1056964608, .floats 0 1092616192, .stored, .nextCycle⟩,  -- BAL_GAIN
  ⟨0x4030, 0x05, 0x100, 16, 1, .u16, (some .configure), 50, .ints 0 1000, .stored, .whenDisabled⟩,  -- BAL_TRIM_MAX
  ⟨0x4030, 0x06, 0x100, 16, 1, .f32, (some .configure), 0, .floatsOrZero 1036831949 1176256512, .stored, .whenDisabled⟩,  -- LEG_INDUCTANCE
  ⟨0x4030, 0x07, 0x100, 16, 1, .f32, (some .configure), 0, .floatsOrZero 1065353216 1176256512, .stored, .immediate⟩,  -- CIRC_WARN
  ⟨0x4030, 0x08, 0x100, 16, 1, .u8, (some .configure), 1, .ints 0 1, .stored, .whenDisabled⟩,  -- CI_AUTOZERO
  ⟨0x4030, 0x09, 0x100, 16, 1, .u16, (some .configure), 200, .ints 20 1000, .stored, .whenDisabled⟩,  -- ZERO_TOL
  ⟨0x4030, 0x0A, 0x100, 16, 1, .u8, (some .configure), 10, .intsOr 2 50 [0], .stored, .immediate⟩,  -- SUM_TOL
  ⟨0x4030, 0x0B, 0x100, 16, 1, .u8, (some .configure), 25, .ints 5 100, .stored, .immediate⟩,  -- LEG_DEV_TOL
  ⟨0x40F0, 0x01, 0x100, 16, 1, .u32, none, 0, .all, .volatile, .immediate⟩,  -- SADDLE_STATUS
  ⟨0x40F0, 0x02, 0x100, 16, 1, .u16, none, 1000, .all, .volatile, .immediate⟩,  -- DEPTH_LIMIT
  ⟨0x40F0, 0x03, 0x100, 16, 1, .u16, none, 0, .all, .volatile, .immediate⟩,  -- DEPTH_DEMAND
  ⟨0x40F0, 0x04, 0x100, 16, 1, .u32, none, 0, .all, .volatile, .immediate⟩,  -- SPEED_UNLIMITED
  ⟨0x40F0, 0x05, 0x100, 16, 1, .u32, none, 0, .all, .volatile, .immediate⟩,  -- SPEED_AT_LIMIT
  ⟨0x40F0, 0x06, 0x100, 16, 1, .f32, none, 0, .all, .volatile, .immediate⟩,  -- TORQUE_COST
  ⟨0x4000, 0x01, 0x100, 16, 1, .u8, (some .configure), 0, .ints 0 4, .stored, .whenDisabled⟩,  -- AXIS_TYPE
  ⟨0x4000, 0x02, 0x100, 16, 1, .u8, (some .configure), 0, .ints 0 47, .stored, .whenDisabled⟩,  -- FIRST_LEG
  ⟨0x4000, 0x03, 0x100, 16, 1, .u8, (some .configure), 1, .oneOf [1, 2, 4, 8], .stored, .whenDisabled⟩,  -- LEGS_PER_PHASE
  ⟨0x4000, 0x04, 0x100, 16, 1, .u32, (some .configure), 8000, .ints 1000 100000, .stored, .whenDisabled⟩,  -- CARRIER_FREQ
  ⟨0x4000, 0x05, 0x100, 16, 1, .u8, (some .configure), 1, .ints 0 1, .stored, .whenDisabled⟩,  -- UPDATE_MODE
  ⟨0x4000, 0x06, 0x100, 16, 1, .u8, (some .configure), 1, .ints 0 1, .stored, .whenDisabled⟩,  -- MOD_MODE
  ⟨0x4000, 0x07, 0x100, 16, 1, .u8, (some .configure), 255, .intsOr 0 47 [255], .stored, .whenDisabled⟩,  -- FB_CHANNEL
  ⟨0x4001, 0x01, 0x100, 16, 1, .u8, (some .configure), 4, .ints 1 64, .stored, .whenDisabled⟩,  -- POLE_PAIRS
  ⟨0x4001, 0x02, 0x100, 16, 1, .f32, (some .configure), 1008981770, .floats 925353388 1120403456, .stored, .whenDisabled⟩,  -- RS
  ⟨0x4001, 0x03, 0x100, 16, 1, .f32, (some .configure), 1065353216, .floats 981668463 1148846080, .stored, .whenDisabled⟩,  -- LD
  ⟨0x4001, 0x04, 0x100, 16, 1, .f32, (some .configure), 1065353216, .floats 981668463 1148846080, .stored, .whenDisabled⟩,  -- LQ
  ⟨0x4001, 0x05, 0x100, 16, 1, .f32, (some .configure), 1120403456, .floats 1065353216 1203982336, .stored, .whenDisabled⟩,  -- KE_NOM
  ⟨0x4001, 0x06, 0x100, 16, 1, .f32, (some .configure), 1120403456, .floats 1036831949 1184645120, .stored, .whenDisabled⟩,  -- I_RATED
  ⟨0x4001, 0x07, 0x100, 16, 1, .f32, (some .configure), 1120403456, .floats 1036831949 1184645120, .stored, .nextCycle⟩,  -- I_MAX
  ⟨0x4002, 0x01, 0x100, 16, 1, .u32, (some .configure), 100000, .ints 1 4294967295, .stored, .whenDisabled⟩,  -- SPEED_RATED
  ⟨0x4002, 0x02, 0x100, 16, 1, .f32, (some .configure), 1140457472, .floats 1065353216 1157234688, .stored, .whenDisabled⟩,  -- F_ELEC_MAX
  ⟨0x4002, 0x03, 0x100, 16, 1, .f32, (some .configure), 1142292480, .floats 1103101952 1151090688, .stored, .immediate⟩,  -- VDC_NOM
  ⟨0x4002, 0x04, 0x100, 16, 1, .u16, (some .configure), 0, .all, .stored, .whenDisabled⟩]  -- COMM_OFFSET

/-- Object cards of the indexes 0x4000 to 0x4FFF, part 2. -/
def cards4b : List Card := [
  ⟨0x4002, 0x05, 0x100, 16, 1, .f32, (some .configure), 0, .floats 0 1287568416, .stored, .nextCycle⟩,  -- REGEN_LIMIT
  ⟨0x4002, 0x06, 0x100, 16, 1, .u8, (some .configure), 0, .ints 0 15, .stored, .immediate⟩,  -- MIGRATE_RANK
  ⟨0x4003, 0x01, 0x100, 16, 1, .f32, (some .configure), 1092616192, .floats 1008981770 1176256512, .stored, .whenDisabled⟩,  -- LM
  ⟨0x4003, 0x02, 0x100, 16, 1, .f32, (some .configure), 1065353216, .floats 981668463 1148846080, .stored, .whenDisabled⟩,  -- LSIGMA
  ⟨0x4003, 0x03, 0x100, 16, 1, .f32, (some .configure), 1128792064, .floats 1065353216 1184645120, .stored, .whenDisabled⟩,  -- TAU_R
  ⟨0x4003, 0x04, 0x100, 16, 1, .f32, (some .configure), 1092616192, .floats 1036831949 1176256512, .stored, .whenDisabled⟩,  -- ID_MAG
  ⟨0x4040, 0x01, 0x100, 16, 1, .f32, (some .configure), 1140457472, .floats 1092616192 1184645120, .stored, .whenDisabled⟩,  -- CUR_BW
  ⟨0x4040, 0x02, 0x100, 16, 1, .u8, (some .configure), 5, .ints 0 20, .stored, .nextCycle⟩,  -- FW_MARGIN
  ⟨0x4040, 0x03, 0x100, 16, 1, .f32, (some .configure), 0, .floats 0 0x7F7FFFFF, .stored, .nextCycle⟩,  -- FW_ID_MAX
  ⟨0x4040, 0x04, 0x100, 16, 1, .f32, (some .configure), 1065353216, .floats 0 1148846080, .stored, .nextCycle⟩,  -- DT_COMP_BAND
  ⟨0x4040, 0x05, 0x100, 16, 1, .u8, (some .configure), 1, .ints 0 2, .stored, .whenDisabled⟩,  -- CONTROL_MODE
  ⟨0x4040, 0x06, 0x100, 16, 1, .f32, (some .operate), 0, .floats 3407386240 1259902592, .volatile, .nextCycle⟩,  -- TORQUE_SET
  ⟨0x4041, 0x01, 0x100, 16, 1, .f32, (some .configure), 1101004800, .floats 1036831949 1157234688, .stored, .nextCycle⟩,  -- SPEED_BW
  ⟨0x4041, 0x02, 0x100, 16, 1, .f32, (some .configure), 1065353216, .floats 953267991 1232348160, .stored, .nextCycle⟩,  -- INERTIA
  ⟨0x4041, 0x03, 0x100, 16, 1, .f32, (some .configure), 1084227584, .floats 0 1140457472, .stored, .nextCycle⟩,  -- POS_BW
  ⟨0x4041, 0x04, 0x100, 16, 1, .u32, (some .configure), 100000, .ints 1 4294967295, .stored, .nextCycle⟩,  -- STOP_DECEL
  ⟨0x4041, 0x05, 0x100, 16, 1, .u32, (some .configure), 100, .ints 1 4294967295, .stored, .nextCycle⟩,  -- STOP_SPEED
  ⟨0x4042, 0x01, 0x100, 16, 1, .f32, (some .configure), 1120403456, .floats 1084227584 1157234688, .stored, .whenDisabled⟩,  -- OBS_BW
  ⟨0x4042, 0x02, 0x100, 16, 1, .f32, (some .configure), 1041865114, .floats 1017370378 1065353216, .stored, .nextCycle⟩,  -- OBS_INNOV_MAX
  ⟨0x4042, 0x03, 0x100, 16, 1, .u32, (some .configure), 5000, .ints 1 4294967295, .stored, .nextCycle⟩,  -- OBS_MIN_SPEED
  ⟨0x4042, 0x04, 0x100, 16, 1, .u8, (some .configure), 1, .ints 0 1, .stored, .nextCycle⟩,  -- RIDE_THROUGH
  ⟨0x4042, 0x05, 0x100, 16, 1, .u16, (some .configure), 20, .ints 2 90, .stored, .nextCycle⟩,  -- ENC_CHECK_ANGLE
  ⟨0x4042, 0x06, 0x100, 16, 1, .u16, (some .configure), 20, .ints 1 1000, .stored, .nextCycle⟩,  -- ENC_CHECK_TIME
  ⟨0x4042, 0x07, 0x100, 16, 1, .u8, (some .configure), 1, .ints 0 1, .stored, .nextCycle⟩,  -- OBS_LOSS_RESUME
  ⟨0x4043, 0x01, 0x100, 16, 1, .u32, (some .configure), 0, .all, .stored, .whenDisabled⟩,  -- CATCH_LIMIT
  ⟨0x4043, 0x02, 0x100, 16, 1, .u16, (some .configure), 2, .ints 1 50, .stored, .whenDisabled⟩,  -- CATCH_MEASURE
  ⟨0x4043, 0x03, 0x100, 16, 1, .u16, (some .configure), 50, .ints 10 1000, .stored, .whenDisabled⟩,  -- CATCH_PULSE
  ⟨0x4043, 0x04, 0x100, 16, 1, .f32, (some .configure), 1128792064, .floats 1092616192 1176256512, .stored, .whenDisabled⟩,  -- SEARCH_RATE
  ⟨0x4043, 0x05, 0x100, 16, 1, .f32, (some .configure), 1092616192, .floats 1036831949 0x7F7FFFFF, .stored, .whenDisabled⟩,  -- SEARCH_CURRENT
  ⟨0x4043, 0x06, 0x100, 16, 1, .f32, (some .configure), 1092616192, .floats 1036831949 0x7F7FFFFF, .stored, .whenDisabled⟩,  -- IF_CURRENT
  ⟨0x4043, 0x07, 0x100, 16, 1, .u16, (some .configure), 2000, .ints 100 60000, .stored, .whenDisabled⟩,  -- CATCH_TIMEOUT
  ⟨0x40C0, 0x01, 0x100, 16, 1, .u8, (some .operate), 0, .ints 1 4, .volatile, .immediate⟩,  -- AXIS_COMMAND
  ⟨0x40C0, 0x02, 0x100, 16, 1, .u32, none, 0, .all, .volatile, .immediate⟩,  -- AXIS_STATUS
  ⟨0x40C0, 0x03, 0x100, 16, 1, .f32, none, 0, .all, .volatile, .immediate⟩,  -- SPEED_EST
  ⟨0x40C0, 0x04, 0x100, 16, 1, .f32, none, 0, .all, .volatile, .immediate⟩,  -- TORQUE_NOW
  ⟨0x40C0, 0x05, 0x100, 16, 1, .u16, none, 1000, .all, .volatile, .immediate⟩,  -- KE_EST
  ⟨0x40C0, 0x06, 0x100, 16, 1, .u8, (some .configure), 0, .oneOf [1], .volatile, .immediate⟩,  -- KE_ACK
  ⟨0x4048, 0x01, 0x100, 16, 1, .f32, (some .configure), 1065353216, .floats 1036831949 0x7F7FFFFF, .stored, .nextCycle⟩,  -- STEP_CURRENT
  ⟨0x4048, 0x02, 0x100, 16, 1, .f32, (some .configure), 1056964608, .floats 0 0x7F7FFFFF, .stored, .nextCycle⟩,  -- HOLD_CURRENT
  ⟨0x4048, 0x03, 0x100, 16, 1, .u16, (some .configure), 500, .ints 10 60000, .stored, .immediate⟩]  -- HOLD_DELAY

/-- Object cards of the indexes 0x4000 to 0x4FFF, part 3. -/
def cards4c : List Card := [
  ⟨0x4048, 0x04, 0x100, 16, 1, .f32, (some .configure), 1036831949, .floats 1000593162 1092616192, .stored, .nextCycle⟩,  -- CHOP_HYST
  ⟨0x4048, 0x05, 0x100, 16, 1, .f32, (some .configure), 1056964608, .floatsOrZero 1028443341 1065353216, .stored, .nextCycle⟩,  -- CHOP_ADAPT
  ⟨0x4048, 0x06, 0x100, 16, 1, .u8, (some .configure), 10, .ints 1 25, .stored, .nextCycle⟩,  -- CHOP_OFFSET_MAX
  ⟨0x4048, 0x07, 0x100, 16, 1, .u8, (some .configure), 3, .ints 0 3, .stored, .nextCycle⟩,  -- DECAY_MODE
  ⟨0x4048, 0x08, 0x100, 16, 1, .u16, (some .configure), 2000, .ints 0 50000, .stored, .nextCycle⟩,  -- CHOP_FAST_TIME
  ⟨0x4048, 0x09, 0x100, 16, 1, .u16, (some .configure), 500, .ints 250 20000, .stored, .whenDisabled⟩,  -- CHOP_MIN_TIME
  ⟨0x4048, 0x0A, 0x100, 16, 1, .u16, (some .configure), 1000, .ints 50 10000, .stored, .nextCycle⟩,  -- CHOP_DRIVE_MAX
  ⟨0x4048, 0x0B, 0x100, 16, 1, .u8, (some .configure), 0, .ints 0 1, .stored, .whenDisabled⟩,  -- STEP_SENSE
  ⟨0x4049, 0x01, 0x100, 16, 1, .u8, (some .configure), 0, .ints 0 3, .stored, .whenDisabled⟩,  -- STEP_TABLE
  ⟨0x4049, 0x02, 0x100, 16, 1, .f32, (some .configure), 1120403456, .floats 1065353216 1176256512, .stored, .nextArbiter⟩,  -- STEP_POWER
  ⟨0x4049, 0x03, 0x100, 16, 1, .u16, (some .configure), 20, .ints 5 1000, .stored, .whenDisabled⟩,  -- STEP_ALIGN_TIME
  ⟨0x404A, 0x01, 0x100, 16, 1, .u16, (some .configure), 180, .ints 90 720, .stored, .nextCycle⟩,  -- STALL_ANGLE
  ⟨0x404A, 0x02, 0x100, 16, 1, .u8, (some .configure), 30, .ints 5 90, .stored, .nextCycle⟩,  -- STALL_RATIO
  ⟨0x404A, 0x03, 0x100, 16, 1, .u32, (some .configure), 10000, .ints 1 4294967295, .stored, .nextCycle⟩,  -- STALL_MIN_SPEED
  ⟨0x404A, 0x04, 0x100, 16, 1, .u8, (some .configure), 1, .ints 0 1, .stored, .immediate⟩,  -- STALL_ACTION
  ⟨0x40C4, 0x01, 0x100, 16, 1, .u32, none, 4026531840, .all, .volatile, .immediate⟩,  -- STEP_STATUS
  ⟨0x40C4, 0x02, 0x100, 16, 1, .f32, none, 0, .all, .volatile, .immediate⟩,  -- CHOP_OFFSET_A
  ⟨0x40C4, 0x03, 0x100, 16, 1, .f32, none, 0, .all, .volatile, .immediate⟩,  -- CHOP_OFFSET_B
  ⟨0x4080, 0x01, 0x100, 16, 1, .i32, (some .operate), 0, .all, .volatile, .nextPlanner⟩,  -- TARGET_POS
  ⟨0x4080, 0x02, 0x100, 16, 1, .i32, (some .operate), 0, .ints (-399999999) 399999999, .volatile, .nextPlanner⟩,  -- VELOCITY_SET
  ⟨0x4080, 0x03, 0x100, 16, 1, .u8, (some .operate), 0, .ints 0 1, .stored, .nextPlanner⟩,  -- MOVE_MODE
  ⟨0x4080, 0x04, 0x100, 16, 1, .i32, (some .operate), 0, .all, .volatile, .immediate⟩,  -- STAGED_TARGET
  ⟨0x4080, 0x05, 0x100, 16, 1, .u8, (some .operate), 255, .intsOr 0 31 [255], .volatile, .immediate⟩,  -- TRIGGER_UNIT
  ⟨0x4081, 0x01, 0x100, 16, 1, .u32, (some .operate), 100000, .ints 1 399999999, .stored, .nextPlanner⟩,  -- PROFILE_SPEED
  ⟨0x4081, 0x02, 0x100, 16, 1, .u32, (some .operate), 1000000, .ints 1 4000000000, .stored, .nextPlanner⟩,  -- PROFILE_ACCEL
  ⟨0x4081, 0x03, 0x100, 16, 1, .u32, (some .operate), 1000000, .ints 1 4000000000, .stored, .nextPlanner⟩,  -- PROFILE_DECEL
  ⟨0x4081, 0x04, 0x100, 16, 1, .u32, (some .operate), 100000, .ints 1 4294967295, .stored, .nextPlanner⟩,  -- PROFILE_JERK
  ⟨0x4082, 0x01, 0x100, 16, 1, .i32, (some .configure), 0, .all, .stored, .nextPlanner⟩,  -- LIMIT_MIN
  ⟨0x4082, 0x02, 0x100, 16, 1, .i32, (some .configure), 0, .all, .stored, .nextPlanner⟩,  -- LIMIT_MAX
  ⟨0x4082, 0x03, 0x100, 16, 1, .u32, (some .configure), 0, .intsOr 1 2147483647 [0], .stored, .immediate⟩,  -- FOLLOW_MAX
  ⟨0x4082, 0x04, 0x100, 16, 1, .u8, (some .configure), 0, .ints 0 1, .stored, .immediate⟩,  -- FOLLOW_ACTION
  ⟨0x4083, 0x01, 0x100, 16, 1, .u32, none, 65535, .all, .volatile, .immediate⟩,  -- PROFILE_STATUS
  ⟨0x4083, 0x02, 0x100, 16, 1, .i32, none, 0, .all, .volatile, .immediate⟩,  -- PROFILE_POS
  ⟨0x4083, 0x03, 0x100, 16, 1, .u64, none, 0, .all, .volatile, .immediate⟩,  -- PROFILE_POS_RAW
  ⟨0x4083, 0x04, 0x100, 16, 1, .i64, none, 0, .all, .volatile, .immediate⟩,  -- PROFILE_VEL_RAW
  ⟨0x4083, 0x05, 0x100, 16, 1, .u32, (some .operate), 0, .oneOf [0], .volatile, .immediate⟩,  -- SWITCHBACK_COUNT
  ⟨0x4083, 0x06, 0x100, 16, 1, .u32, none, 0, .all, .volatile, .immediate⟩,  -- OVERSHOOT_DIST
  ⟨0x4083, 0x07, 0x100, 16, 1, .i32, none, 0, .all, .volatile, .immediate⟩,  -- HOME_OFFSET_NOW
  ⟨0x4084, 0x01, 0x100, 16, 1, .u8, (some .configure), 0, .ints 0 3, .stored, .whenDisabled⟩,  -- HOME_METHOD
  ⟨0x4084, 0x02, 0x100, 16, 1, .u8, (some .configure), 0, .ints 0 1, .stored, .whenDisabled⟩]  -- HOME_DIR

/-- Object cards of the indexes 0x4000 to 0x4FFF, part 4. -/
def cards4d : List Card := [
  ⟨0x4084, 0x03, 0x100, 16, 1, .u32, (some .configure), 10000, .ints 1 399999999, .stored, .immediate⟩,  -- HOME_SPEED
  ⟨0x4084, 0x04, 0x100, 16, 1, .u32, (some .configure), 1000, .ints 1 399999999, .stored, .immediate⟩,  -- HOME_SPEED_SLOW
  ⟨0x4084, 0x05, 0x100, 16, 1, .i32, (some .configure), 0, .all, .stored, .immediate⟩,  -- HOME_POSITION
  ⟨0x4084, 0x06, 0x100, 16, 1, .u32, (some .configure), 1000, .ints 0 2147483647, .stored, .immediate⟩,  -- HOME_BACKOFF
  ⟨0x4084, 0x07, 0x100, 16, 1, .u32, (some .configure), 1000000, .ints 1 2147483647, .stored, .immediate⟩,  -- HOME_DISTANCE
  ⟨0x4085, 0x01, 0x100, 16, 1, .u8, (some .configure), 2, .custom, .stored, .whenDisabled⟩,  -- HOME_SWITCH
  ⟨0x4085, 0x02, 0x100, 16, 1, .u8, (some .configure), 0, .ints 0 1, .stored, .whenDisabled⟩,  -- HOME_EDGE
  ⟨0x4085, 0x03, 0x100, 16, 1, .u8, (some .configure), 20, .ints 1 100, .stored, .immediate⟩,  -- HOME_TORQUE
  ⟨0x4085, 0x04, 0x100, 16, 1, .u16, (some .configure), 50, .ints 5 5000, .stored, .immediate⟩,  -- HOME_STALL_TIME
  ⟨0x4085, 0x05, 0x100, 16, 1, .u8, (some .configure), 0, .ints 0 1, .stored, .immediate⟩,  -- HOME_RETURN
  ⟨0x4085, 0x06, 0x100, 16, 1, .u8, (some .operate), 0, .ints 1 2, .volatile, .immediate⟩,  -- HOME_COMMAND
  ⟨0x40D0, 0x01, 0x100, 16, 1, .u8, (some .configure), 255, .intsOr 0 15 [255], .stored, .whenDisabled⟩,  -- GROUP_SLOT
  ⟨0x40D0, 0x02, 0x100, 16, 1, .f32, (some .configure), 1065353216, .floats 981668463 1176256512, .stored, .whenDisabled⟩,  -- MEMBER_RATIO
  ⟨0x40D0, 0x03, 0x100, 16, 1, .f32, (some .configure), 0, .floats 0 1315859240, .stored, .nextCycle⟩,  -- DROOP_GAIN
  ⟨0x40D0, 0x04, 0x100, 16, 1, .u16, (some .configure), 0, .intsOr 1 3600 [0], .stored, .immediate⟩,  -- ISOLATED_MAX
  ⟨0x40D8, 0x01, 0x100, 16, 1, .u32, none, 0, .all, .volatile, .immediate⟩,  -- SHARE_STATUS
  ⟨0x40D8, 0x02, 0x100, 16, 1, .u16, none, 0, .all, .volatile, .immediate⟩,  -- SHARE_NOW
  ⟨0x40D8, 0x03, 0x100, 16, 1, .f32, none, 0, .all, .volatile, .immediate⟩,  -- T_GROUP
  ⟨0x40D8, 0x04, 0x100, 16, 1, .f32, none, 0, .all, .volatile, .immediate⟩,  -- CAP_NOW
  ⟨0x40E0, 0x01, 0x100, 16, 1, .u8, (some .operate), 2, .ints 1 2, .stored, .nextArbiter⟩,  -- POWER_CLASS
  ⟨0x40E0, 0x02, 0x100, 16, 1, .f32, (some .operate), 0, .floats 0 1315859240, .volatile, .nextArbiter⟩,  -- POWER_REQUEST
  ⟨0x40E0, 0x03, 0x100, 16, 1, .f32, (some .configure), 1176256512, .floats 1065353216 1315859240, .stored, .nextArbiter⟩,  -- POWER_RATED
  ⟨0x40E8, 0x01, 0x100, 16, 1, .u8, none, 255, .all, .volatile, .immediate⟩,  -- SVC_OWNER
  ⟨0x40E8, 0x02, 0x100, 16, 1, .u8, (some .operate), 0, .all, .volatile, .immediate⟩,  -- SVC_ALIVE
  ⟨0x40E8, 0x03, 0x100, 16, 1, .u8, (some .configure), 0, .ints 0 1, .stored, .immediate⟩]  -- SVC_LOSS_ACTION

/-- Object cards of the indexes 0x5000 to 0x5FFF, part 1. -/
def cards5a : List Card := [
  ⟨0x5000, 0x01, 0x40, 48, 1, .u32, none, 1342177280, .all, .volatile, .immediate⟩,  -- FB_STATUS
  ⟨0x5000, 0x02, 0x40, 48, 1, .i32, none, 0, .all, .volatile, .immediate⟩,  -- FB_POSITION
  ⟨0x5000, 0x03, 0x40, 48, 1, .f32, none, 0, .all, .volatile, .immediate⟩,  -- SPEED_NOW
  ⟨0x5000, 0x04, 0x40, 48, 1, .u32, (some .operate), 0, .oneOf [0], .volatile, .immediate⟩,  -- GLITCH_COUNT
  ⟨0x5000, 0x05, 0x40, 48, 1, .u16, (some .operate), 0, .oneOf [0], .volatile, .immediate⟩,  -- INDEX_MISMATCH_COUNT
  ⟨0x5000, 0x06, 0x40, 48, 1, .i32, none, 0, .all, .volatile, .immediate⟩,  -- INDEX_CORRECTION
  ⟨0x5000, 0x07, 0x40, 48, 1, .u32, (some .operate), 0, .oneOf [0], .volatile, .immediate⟩,  -- DIR_CHANGE_COUNT
  ⟨0x5001, 0x01, 0x40, 48, 1, .u8, (some .configure), 0, .ints 0 7, .stored, .whenDisabled⟩,  -- FB_TYPE
  ⟨0x5001, 0x02, 0x40, 48, 1, .u8, (some .configure), 0, .ints 0 1, .stored, .whenDisabled⟩,  -- FB_INVERT
  ⟨0x5001, 0x03, 0x40, 48, 1, .u32, (some .configure), 4096, .ints 4 0x80000000, .stored, .whenDisabled⟩,  -- COUNTS_PER_REV
  ⟨0x5001, 0x04, 0x40, 48, 1, .u32, (some .configure), 40, .ints 10 40000, .stored, .whenDisabled⟩,  -- MIN_EDGE
  ⟨0x5002, 0x01, 0x40, 48, 1, .u8, (some .configure), 0, .ints 0 2, .stored, .whenDisabled⟩,  -- INDEX_MODE
  ⟨0x5002, 0x02, 0x40, 48, 1, .i32, (some .configure), 0, .all, .stored, .whenDisabled⟩,  -- INDEX_VALUE
  ⟨0x5002, 0x03, 0x40, 48, 1, .u16, (some .configure), 4, .ints 0 1000, .stored, .immediate⟩,  -- INDEX_TOL
  ⟨0x5002, 0x04, 0x40, 48, 1, .u8, (some .configure), 1, .ints 0 1, .stored, .whenDisabled⟩,  -- INDEX_GATE
  ⟨0x5002, 0x05, 0x40, 48, 1, .u8, (some .operate), 0, .oneOf [1], .volatile, .immediate⟩,  -- INDEX_ARM
  ⟨0x5003, 0x01, 0x40, 48, 1, .u32, (some .configure), 1000, .ints 50 100000, .stored, .nextCycle⟩,  -- SPEED_WINDOW
  ⟨0x5003, 0x02, 0x40, 48, 1, .u16, (some .configure), 100, .ints 1 10000, .stored, .immediate⟩,  -- STANDSTILL_TIME
  ⟨0x5003, 0x03, 0x40, 48, 1, .u32, (some .configure), 20000, .ints 1 4294967295, .stored, .nextCycle⟩,  -- SPEED_SWITCH
  ⟨0x5003, 0x04, 0x40, 48, 1, .u8, (some .configure), 10, .ints 1 50, .stored, .nextCycle⟩,  -- SPEED_HYST
  ⟨0x5003, 0x05, 0x40, 48, 1, .u8, (some .configure), 4, .ints 1 64, .stored, .nextCycle⟩,  -- PERIOD_EDGES
  ⟨0x5003, 0x06, 0x40, 48, 1, .u16, (some .configure), 1, .ints 1 1000, .stored, .immediate⟩,  -- DIR_HYST
  ⟨0x5004, 0x01, 0x40, 48, 1, .u16, (some .configure), 60, .ints 8 1024, .stored, .whenDisabled⟩,  -- GT_PITCHES
  ⟨0x5004, 0x02, 0x40, 48, 1, .u8, (some .configure), 0, .ints 0 4, .stored, .whenDisabled⟩,  -- GT_REF
  ⟨0x5004, 0x03, 0x40, 48, 1, .u8, (some .configure), 40, .ints 10 45, .stored, .whenDisabled⟩,  -- GT_TOL
  ⟨0x5004, 0x04, 0x40, 48, 1, .u8, (some .configure), 25, .ints 5 40, .stored, .whenDisabled⟩,  -- GT_ACCEL
  ⟨0x5004, 0x05, 0x40, 48, 1, .u8, (some .configure), 0, .ints 0 1, .stored, .whenDisabled⟩,  -- GT_DIR_SOURCE
  ⟨0x5005, 0x01, 0x40, 16, 1, .u8, (some .configure), 25, .ints 8 32, .stored, .whenDisabled⟩,  -- SSI_POS_BITS
  ⟨0x5005, 0x02, 0x40, 16, 1, .u16, (some .configure), 200, .ints 40 4000, .stored, .whenDisabled⟩,  -- SSI_CLOCK_DIV
  ⟨0x5005, 0x03, 0x40, 16, 1, .u8, (some .configure), 0, .ints 0 2, .stored, .whenDisabled⟩,  -- SSI_ERR_BIT
  ⟨0x5005, 0x04, 0x40, 16, 1, .u8, (some .configure), 0, .ints 0 16, .stored, .whenDisabled⟩,  -- SSI_CRC_BITS
  ⟨0x5005, 0x05, 0x40, 16, 1, .u32, (some .configure), 0, .ints 0 0x1FFFF, .stored, .whenDisabled⟩,  -- SSI_CRC_POLY
  ⟨0x5005, 0x06, 0x40, 16, 1, .u16, (some .configure), 0, .all, .stored, .whenDisabled⟩,  -- SSI_CRC_INIT
  ⟨0x5005, 0x07, 0x40, 16, 1, .u8, (some .configure), 30, .ints 1 100, .stored, .whenDisabled⟩,  -- SSI_TIMEOUT
  ⟨0x5005, 0x08, 0x40, 16, 1, .u8, (some .configure), 20, .ints 1 64, .stored, .whenDisabled⟩,  -- SSI_MONO
  ⟨0x5005, 0x09, 0x40, 16, 1, .u8, (some .configure), 2, .ints 0 8, .stored, .immediate⟩,  -- SSI_BAD_MAX
  ⟨0x5005, 0x0A, 0x40, 16, 1, .u16, (some .configure), 0, .ints 0 2000, .stored, .whenDisabled⟩,  -- SSI_LINE_DELAY
  ⟨0x5005, 0x0B, 0x40, 16, 1, .u32, (some .operate), 0, .oneOf [0], .volatile, .immediate⟩,  -- SSI_BAD_COUNT
  ⟨0x5006, 0x01, 0x40, 8, 1, .u8, (some .configure), 12, .ints 8 16, .stored, .whenDisabled⟩,  -- AN_INTERP_BITS
  ⟨0x5006, 0x02, 0x40, 8, 1, .u16, (some .configure), 1, .ints 1 4096, .stored, .whenDisabled⟩]  -- AN_PERIODS

/-- Object cards of the indexes 0x5000 to 0x5FFF, part 2. -/
def cards5b : List Card := [
  ⟨0x5006, 0x03, 0x40, 8, 1, .u16, (some .configure), 1000, .ints 200 5000, .stored, .whenDisabled⟩,  -- AN_TRACK_BW
  ⟨0x5006, 0x04, 0x40, 8, 1, .u16, (some .configure), 500, .ints 200 5000, .stored, .whenDisabled⟩,  -- AN_AMPL_NOM
  ⟨0x5007, 0x01, 0x40, 48, 1, .u8, (some .configure), 0, .oneOf [1], .volatile, .immediate⟩,  -- FB_REINSTATE
  ⟨0x5E00, 0x01, 0, 1, 1, .u8, (some .configure), 3, .ints 2 10, .stored, .immediate⟩,  -- FB_RETIRE_COUNT
  ⟨0x5E00, 0x02, 0, 1, 1, .u16, (some .configure), 10, .ints 1 600, .stored, .immediate⟩,  -- FB_RETIRE_WINDOW
  ⟨0x5E00, 0x03, 0, 1, 1, .u8, (some .configure), 8, .ints 1 255, .stored, .immediate⟩,  -- GLITCH_LIMIT
  ⟨0x5E10, 0x01, 0x10, 8, 1, .u8, (some .configure), 255, .intsOr 0 47 [255], .stored, .immediate⟩,  -- PT_SOURCE
  ⟨0x5E10, 0x02, 0x10, 8, 1, .u8, (some .configure), 0, .ints 0 1, .stored, .immediate⟩,  -- PT_MODE
  ⟨0x5EA0, 0x01, 0x10, 2, 1, .u16, (some .configure), 10000, .stepped 4000 20000 100, .stored, .whenDisabled⟩,  -- EXC_FREQ
  ⟨0x5EA0, 0x02, 0x10, 2, 1, .u16, (some .configure), 4000, .ints 2000 7000, .stored, .whenDisabled⟩,  -- EXC_AMPL
  ⟨0x5F00, 0x01, 0x10, 4, 1, .domain, (some .configure), 0, .all, .volatile, .immediate⟩,  -- STEP_TABLE_DATA
  ⟨0x5F00, 0x02, 0x10, 4, 1, .u8, (some .configure), 0, .oneOf [1], .volatile, .immediate⟩,  -- STEP_TABLE_COMMIT
  ⟨0x5F00, 0x03, 0x10, 4, 1, .u16, none, 0, .all, .volatile, .immediate⟩,  -- STEP_TABLE_STATUS
  ⟨0x5F00, 0x04, 0x10, 4, 1, .u8, (some .configure), 0, .oneOf [1], .volatile, .immediate⟩,  -- STEP_TABLE_RESTORE
  ⟨0x5F00, 0x05, 0x10, 4, 1, .u32, none, 0, .all, .volatile, .immediate⟩,  -- STEP_TABLE_CRC
  ⟨0x5F00, 0x06, 0x10, 4, 1, .u32, none, 0, .all, .stored, .immediate⟩,  -- ACTIVE_TABLE_CRC
  ⟨0x5C00, 0x01, 0x10, 32, 1, .u8, (some .operate), 0, .ints 0 1, .volatile, .immediate⟩,  -- CMP_ENABLE
  ⟨0x5C00, 0x02, 0x10, 32, 1, .u8, (some .configure), 255, .intsOr 0 63 [255], .stored, .immediate⟩,  -- CMP_SOURCE
  ⟨0x5C00, 0x03, 0x10, 32, 1, .i32, (some .operate), 0, .all, .volatile, .immediate⟩,  -- CMP_POSITION
  ⟨0x5C00, 0x04, 0x10, 32, 1, .u8, (some .operate), 0, .ints 0 2, .stored, .immediate⟩,  -- CMP_DIRECTION
  ⟨0x5C00, 0x05, 0x10, 32, 1, .u8, (some .operate), 0, .ints 0 1, .stored, .immediate⟩,  -- CMP_MODE
  ⟨0x5C00, 0x06, 0x10, 32, 1, .u32, (some .operate), 0, .intsOr 1 2147483647 [0], .stored, .immediate⟩,  -- CMP_INTERVAL
  ⟨0x5C00, 0x07, 0x10, 32, 1, .u8, (some .configure), 0, .ints 0 4, .stored, .immediate⟩,  -- CMP_ACTION
  ⟨0x5C00, 0x08, 0x10, 32, 1, .u8, (some .configure), 255, .intsOr 0 7 [255], .stored, .immediate⟩,  -- CMP_OUTPUT
  ⟨0x5C00, 0x09, 0x10, 32, 1, .u32, (some .configure), 4000, .ints 4 400000000, .stored, .immediate⟩,  -- CMP_PULSE
  ⟨0x5C01, 0x01, 0x10, 32, 1, .u16, none, 0, .all, .volatile, .immediate⟩,  -- CMP_STATUS
  ⟨0x5C01, 0x02, 0x10, 32, 1, .u32, (some .operate), 0, .oneOf [0], .volatile, .immediate⟩,  -- CMP_FIRE_COUNT
  ⟨0x5C01, 0x03, 0x10, 32, 1, .u64, none, 0, .all, .volatile, .immediate⟩,  -- CMP_FIRE_TIME
  ⟨0x5C01, 0x04, 0x10, 32, 1, .u32, (some .operate), 0, .oneOf [0], .volatile, .immediate⟩]  -- CMP_MISSED_COUNT

/-- Object cards of the indexes 0x6000 to 0x6FFF, part 1. -/
def cards6a : List Card := [
  ⟨0x6100, 0x01, 0x10, 16, 1, .u16, (some .configure), 0, .intsOr 1 2047 [0], .stored, .whenDisabled⟩,  -- GROUP_NUMBER
  ⟨0x6100, 0x02, 0x10, 16, 1, .u8, (some .configure), 0, .ints 0 1, .stored, .whenDisabled⟩,  -- GROUP_PORT
  ⟨0x6100, 0x03, 0x10, 16, 1, .u16, (some .configure), 2000, .ints 500 8000, .stored, .whenDisabled⟩,  -- GROUP_RATE
  ⟨0x6100, 0x04, 0x10, 16, 1, .u8, (some .configure), 1, .ints 0 2, .stored, .whenDisabled⟩,  -- GROUP_MODE
  ⟨0x6100, 0x05, 0x10, 16, 1, .f32, (some .operate), 0, .floats 3463342888 1315859240, .volatile, .nextCycle⟩,  -- GROUP_TORQUE_SET
  ⟨0x6100, 0x06, 0x10, 16, 1, .f32, (some .configure), 1065353216, .floats 953267991 1287568416, .stored, .whenDisabled⟩,  -- GROUP_INERTIA
  ⟨0x6100, 0x07, 0x10, 16, 1, .f32, (some .configure), 1084227584, .floats 1036831949 1140457472, .stored, .whenDisabled⟩,  -- GROUP_SPEED_BW
  ⟨0x6100, 0x08, 0x10, 16, 1, .f32, (some .configure), 1065353216, .floats 0 1120403456, .stored, .whenDisabled⟩,  -- GROUP_POS_BW
  ⟨0x6100, 0x09, 0x10, 16, 1, .u32, (some .configure), 65536, .ints 4 2147483648, .stored, .whenDisabled⟩,  -- GROUP_COUNTS_PER_REV
  ⟨0x6101, 0x01, 0x10, 16, 8, .u32, (some .configure), 0, .custom, .stored, .whenDisabled⟩,  -- MEMBER_ENTRY
  ⟨0x6102, 0x01, 0x10, 16, 1, .u16, none, 0, .all, .stored, .immediate⟩,  -- GROUP_CHECK
  ⟨0x6000, 0x01, 0, 1, 1, .u8, (some .configure), 0, .ints 0 1, .stored, .nextArbiter⟩,  -- BUDGET_SOURCE
  ⟨0x6000, 0x02, 0, 1, 1, .f32, (some .operate), 0, .floats 0 1315859240, .volatile, .nextArbiter⟩,  -- POWER_BUDGET
  ⟨0x6000, 0x03, 0, 1, 1, .u16, (some .configure), 1000, .intsOr 10 60000 [0], .stored, .immediate⟩,  -- BUDGET_TIMEOUT
  ⟨0x6000, 0x04, 0, 1, 1, .f32, (some .configure), 1287568416, .floats 0 1315859240, .stored, .nextArbiter⟩,  -- BUDGET_FALLBACK
  ⟨0x6000, 0x05, 0, 1, 1, .f32, (some .configure), 0, .floatsOrZero 1065353216 1315859240, .stored, .nextArbiter⟩,  -- BUDGET_RISE
  ⟨0x6000, 0x06, 0, 1, 1, .u16, (some .configure), 100, .ints 1 10000, .stored, .nextArbiter⟩,  -- POWER_QUANTUM
  ⟨0x6001, 0x01, 0, 1, 1, .u8, (some .configure), 0, .ints 0 1, .stored, .nextArbiter⟩,  -- FREQ_SOURCE
  ⟨0x6001, 0x02, 0, 1, 1, .f32, (some .operate), 1112014848, .floats 1109393408 1116471296, .volatile, .nextArbiter⟩,  -- SHIP_FREQ
  ⟨0x6001, 0x03, 0, 1, 1, .u16, (some .configure), 500, .ints 10 10000, .stored, .immediate⟩,  -- FREQ_TIMEOUT
  ⟨0x6001, 0x04, 0, 1, 1, .f32, (some .configure), 1112014848, .floats 1110704128 1115815936, .stored, .nextArbiter⟩,  -- FREQ_NOM
  ⟨0x6001, 0x05, 0, 1, 1, .f32, (some .configure), 1045220557, .floats 0 1073741824, .stored, .nextArbiter⟩,  -- FREQ_DEADBAND
  ⟨0x6001, 0x06, 0, 1, 1, .f32, (some .configure), 1065353216, .floats 1036831949 1084227584, .stored, .nextArbiter⟩,  -- FREQ_SPAN
  ⟨0x6001, 0x07, 0, 1, 1, .u16, (some .configure), 200, .ints 0 1000, .stored, .nextArbiter⟩,  -- FREQ_MIN_FACTOR
  ⟨0x6002, 0x01, 0, 1, 1, .u16, (some .configure), 2000, .ints 0 60000, .stored, .nextArbiter⟩,  -- DEFER_LIMIT_HOLD
  ⟨0x6002, 0x02, 0, 1, 1, .u16, (some .configure), 5000, .ints 0 60000, .stored, .nextArbiter⟩,  -- DEFER_LIMIT_WORK
  ⟨0x6002, 0x03, 0, 1, 1, .u16, (some .configure), 5000, .ints 0 60000, .stored, .nextArbiter⟩,  -- DEFER_LIMIT_AUX
  ⟨0x6008, 0x01, 0, 1, 1, .u32, none, 0, .all, .volatile, .immediate⟩,  -- ARBITER_STATUS
  ⟨0x6008, 0x02, 0, 1, 1, .f32, none, 0, .all, .volatile, .immediate⟩,  -- BUDGET_EFFECTIVE
  ⟨0x6008, 0x03, 0, 1, 1, .f32, none, 0, .all, .volatile, .immediate⟩,  -- STOP_DEMAND
  ⟨0x6010, 0x01, 0x1, 18, 1, .u32, none, 33554432, .all, .volatile, .immediate⟩,  -- GRANT_WORD
  ⟨0x6010, 0x02, 0x1, 18, 1, .f32, none, 0, .all, .volatile, .immediate⟩,  -- GRANT_POWER
  ⟨0x6010, 0x03, 0x1, 18, 1, .f32, none, 0, .all, .volatile, .immediate⟩]  -- DEMAND_NOW

/-- Object cards of the indexes 0x7000 to 0x7FFF, part 1. -/
def cards7a : List Card := [
  ⟨0x7000, 0x01, 0, 1, 1, .u32, none, 0, .all, .volatile, .immediate⟩,  -- SAFETY_STATUS
  ⟨0x7000, 0x02, 0, 1, 1, .u32, none, 0, .all, .stored, .immediate⟩,  -- LOCKOUT_STATUS
  ⟨0x7100, 0x01, 0x8, 20, 1, .u8, (some .safety), 0, .ints 0 6, .stored, .atRestart⟩,  -- SI_FUNCTION
  ⟨0x7100, 0x02, 0x8, 20, 1, .u16, (some .safety), 0, .all, .stored, .atRestart⟩,  -- SI_AXES
  ⟨0x7100, 0x03, 0x8, 20, 1, .u8, (some .safety), 4, .ints 1 20, .stored, .atRestart⟩,  -- SI_FILTER
  ⟨0x7100, 0x04, 0x8, 20, 1, .u16, (some .safety), 100, .ints 10 4000, .stored, .atRestart⟩,  -- SI_DISCREPANCY
  ⟨0x7100, 0x05, 0x8, 20, 1, .u16, none, 0, .all, .volatile, .immediate⟩,  -- SI_STATUS
  ⟨0x7200, 0x01, 0x10, 16, 1, .u8, (some .safety), 0, .ints 0 1, .stored, .atRestart⟩,  -- SS1_MODE
  ⟨0x7200, 0x02, 0x10, 16, 1, .u16, (some .safety), 2000, .ints 10 60000, .stored, .atRestart⟩,  -- SS1_TIME
  ⟨0x7200, 0x03, 0x10, 16, 1, .u32, (some .safety), 100000, .ints 1 4294967295, .stored, .atRestart⟩,  -- SS1_MON_DECEL
  ⟨0x7200, 0x04, 0x10, 16, 1, .u16, (some .safety), 100, .ints 0 10000, .stored, .atRestart⟩,  -- SS1_MON_DELAY
  ⟨0x7200, 0x05, 0x10, 16, 1, .u32, (some .safety), 100, .ints 1 4294967295, .stored, .atRestart⟩,  -- SS1_STANDSTILL
  ⟨0x7200, 0x06, 0x10, 16, 1, .u32, (some .safety), 0, .all, .stored, .atRestart⟩,  -- SS1_BRAKE_SPEED
  ⟨0x7200, 0x07, 0x10, 16, 1, .u32, (some .safety), 10000, .ints 1 4294967295, .stored, .atRestart⟩,  -- SLS_LIMIT
  ⟨0x7200, 0x08, 0x10, 16, 1, .u16, (some .safety), 1000, .ints 0 60000, .stored, .atRestart⟩,  -- SLS_RAMP_TIME
  ⟨0x7200, 0x09, 0x10, 16, 1, .u32, (some .safety), 100, .ints 1 2147483647, .stored, .atRestart⟩,  -- SDI_TOL
  ⟨0x7200, 0x0A, 0x10, 16, 1, .u8, (some .safety), 255, .intsOr 0 15 [255], .stored, .atRestart⟩,  -- SAFE_SRC1
  ⟨0x7200, 0x0B, 0x10, 16, 1, .u8, (some .safety), 255, .intsOr 0 15 [254, 255], .stored, .atRestart⟩,  -- SAFE_SRC2
  ⟨0x7200, 0x0C, 0x10, 16, 1, .f32, (some .safety), 1065353216, .floats 981668463 1148846080, .stored, .atRestart⟩,  -- SAFE_SRC2_RATIO
  ⟨0x7200, 0x0D, 0x10, 16, 1, .u32, (some .safety), 2000, .ints 1 4294967295, .stored, .atRestart⟩,  -- SAFE_SPEED_TOL
  ⟨0x7200, 0x0E, 0x10, 16, 1, .u8, (some .safety), 2, .ints 1 20, .stored, .atRestart⟩,  -- SAFE_SPEED_WINDOW
  ⟨0x7200, 0x0F, 0x10, 16, 1, .u8, (some .safety), 0, .ints 0 1, .stored, .atRestart⟩,  -- VIOLATION_STOP
  ⟨0x7201, 0x01, 0x10, 16, 1, .u32, none, 1073741824, .all, .volatile, .immediate⟩,  -- AXIS_SAFE_STATUS
  ⟨0x7201, 0x02, 0x10, 16, 1, .f32, none, 0, .all, .volatile, .immediate⟩,  -- SAFE_SPEED
  ⟨0x7400, 0x01, 0x8, 16, 1, .u8, (some .safety), 255, .intsOr 0 15 [255], .stored, .atRestart⟩,  -- SBC_AXIS
  ⟨0x7400, 0x02, 0x8, 16, 1, .u8, (some .safety), 1, .ints 0 1, .stored, .atRestart⟩,  -- SBC_WITH_STO
  ⟨0x7400, 0x03, 0x8, 16, 1, .u8, (some .safety), 10, .ints 1 60, .stored, .atRestart⟩,  -- TEST_PERIOD
  ⟨0x7400, 0x04, 0x8, 16, 1, .u16, (some .safety), 300, .ints 100 400, .stored, .atRestart⟩,  -- TEST_WIDTH
  ⟨0x7400, 0x05, 0x8, 16, 1, .u16, (some .safety), 200, .ints 10 5000, .stored, .atRestart⟩,  -- BRAKE_RELEASE_TIME
  ⟨0x7400, 0x06, 0x8, 16, 1, .u8, (some .operate), 0, .ints 0 1, .volatile, .immediate⟩,  -- BRAKE_CMD
  ⟨0x7400, 0x07, 0x8, 16, 1, .u16, none, 0, .all, .volatile, .immediate⟩,  -- SBC_STATUS
  ⟨0x7600, 0x01, 0x10, 4, 1, .u8, (some .safety), 0, .ints 0 3, .stored, .atRestart⟩,  -- THODAR_MEDIUM
  ⟨0x7600, 0x02, 0x10, 4, 1, .u16, (some .safety), 16384, .custom, .stored, .atRestart⟩,  -- THODAR_PEER
  ⟨0x7600, 0x03, 0x10, 4, 1, .u32, (some .safety), 0, .all, .stored, .atRestart⟩,  -- ID_IN
  ⟨0x7600, 0x04, 0x10, 4, 1, .u32, (some .safety), 0, .all, .stored, .atRestart⟩,  -- ID_OUT
  ⟨0x7600, 0x05, 0x10, 4, 1, .u16, (some .safety), 50, .ints 5 1000, .stored, .atRestart⟩,  -- THODAR_WATCHDOG
  ⟨0x7600, 0x06, 0x10, 4, 1, .u8, (some .safety), 1, .ints 1 3, .stored, .atRestart⟩,  -- THODAR_LEN
  ⟨0x7600, 0x07, 0x10, 4, 1, .u16, (some .safety), 10, .ints 1 1000, .stored, .atRestart⟩,  -- THODAR_STATUS_PERIOD
  ⟨0x7600, 0x08, 0x10, 4, 1, .u32, none, 0, .all, .volatile, .immediate⟩,  -- THODAR_STATUS
  ⟨0x7601, 0x01, 0x10, 4, 6, .u32, (some .operate), 0, .oneOf [0], .volatile, .immediate⟩]  -- THODAR_COUNT

/-- Object cards of the indexes 0x7000 to 0x7FFF, part 2. -/
def cards7b : List Card := [
  ⟨0x7800, 0x01, 0x8, 96, 1, .u8, (some .safety), 0, .ints 0 6, .stored, .atRestart⟩,  -- VI_FUNCTION
  ⟨0x7800, 0x02, 0x8, 96, 1, .u16, (some .safety), 0, .all, .stored, .atRestart⟩,  -- VI_AXES
  ⟨0x7F00, 0x01, 0, 1, 1, .str, (some .safety), 0, .all, .stored, .immediate⟩,  -- SAFETY_PASSWORD_NEW
  ⟨0x7F00, 0x02, 0, 1, 1, .u32, (some .safety), 0, .all, .volatile, .immediate⟩,  -- CONFIG_SEAL
  ⟨0x7F00, 0x03, 0, 1, 1, .u32, none, 0, .all, .stored, .immediate⟩,  -- SEAL_STATUS
  ⟨0x7F00, 0x04, 0, 1, 1, .u32, none, 0, .all, .volatile, .immediate⟩,  -- SEAL_CHECK_STAGED
  ⟨0x7F00, 0x05, 0, 1, 1, .u32, none, 0, .all, .stored, .immediate⟩,  -- SEAL_CHECK_ACTIVE
  ⟨0x7F00, 0x06, 0, 1, 1, .domain, none, 0, .all, .stored, .immediate⟩,  -- CHANGE_LOG
  ⟨0x7F00, 0x07, 0, 1, 1, .u32, none, 0, .all, .stored, .immediate⟩]  -- CHANGE_HEAD

/-- Object cards of the indexes 0x8000 to 0x8FFF, part 1. -/
def cards8a : List Card := [
  ⟨0x8000, 0x01, 0x40, 8, 1, .u8, (some .configure), 255, .intsOr 0 15 [255], .stored, .immediate⟩,  -- THR_AXIS
  ⟨0x8000, 0x02, 0x40, 8, 1, .u8, (some .configure), 0, .ints 0 2, .stored, .immediate⟩,  -- THR_MODE
  ⟨0x8000, 0x03, 0x40, 8, 1, .u8, (some .configure), 2, .ints 1 2, .stored, .immediate⟩,  -- THR_CLASS
  ⟨0x8000, 0x04, 0x40, 8, 1, .u32, (some .configure), 100000, .ints 1 4294967295, .stored, .immediate⟩,  -- THR_SPEED_MAX
  ⟨0x8000, 0x05, 0x40, 8, 1, .f32, (some .configure), 1148846080, .floats 1065353216 1259902592, .stored, .immediate⟩,  -- THR_TORQUE_MAX
  ⟨0x8000, 0x06, 0x40, 8, 1, .f32, (some .configure), 1203982336, .floats 1065353216 1315859240, .stored, .immediate⟩,  -- THR_POWER_MAX
  ⟨0x8000, 0x07, 0x40, 8, 1, .u16, (some .configure), 200, .ints 1 10000, .stored, .immediate⟩,  -- THR_RAMP
  ⟨0x8000, 0x08, 0x40, 8, 1, .u8, (some .operate), 0, .ints 0 1, .volatile, .immediate⟩,  -- THR_ENABLE
  ⟨0x8000, 0x09, 0x40, 8, 1, .i16, (some .operate), 0, .ints (-1000) 1000, .volatile, .immediate⟩,  -- THR_COMMAND
  ⟨0x8000, 0x0A, 0x40, 8, 1, .u8, (some .operate), 0, .ints 0 1, .volatile, .immediate⟩,  -- THR_CRASH
  ⟨0x8000, 0x0B, 0x40, 8, 1, .u16, (some .configure), 1000, .ints 0 1000, .stored, .immediate⟩,  -- THR_CRASH_LEVEL
  ⟨0x8000, 0x0C, 0x40, 8, 1, .u32, (some .configure), 1000000, .ints 1 4000000000, .stored, .immediate⟩,  -- THR_CRASH_ACCEL
  ⟨0x8000, 0x0D, 0x40, 8, 1, .u8, (some .operate), 0, .ints 0 3, .volatile, .immediate⟩,  -- THR_SHED_LEVEL
  ⟨0x8000, 0x0E, 0x40, 8, 1, .u32, (some .configure), 1651275, .custom, .stored, .immediate⟩,  -- THR_SHED_PERCENT
  ⟨0x8000, 0x0F, 0x40, 8, 1, .f32, (some .configure), 0, .floatsOrZero 1109393408 1116471296, .stored, .immediate⟩,  -- THR_SHED_FREQ
  ⟨0x8400, 0x01, 0x40, 8, 1, .u8, (some .configure), 255, .intsOr 0 15 [255], .stored, .immediate⟩,  -- WINCH_AXIS
  ⟨0x8400, 0x02, 0x40, 8, 1, .u32, (some .configure), 65536, .ints 4 2147483648, .stored, .immediate⟩,  -- DRUM_COUNTS_PER_REV
  ⟨0x8400, 0x03, 0x40, 8, 1, .f32, (some .configure), 1056964608, .floats 1008981770 1101004800, .stored, .immediate⟩,  -- DRUM_R_FIRST
  ⟨0x8400, 0x04, 0x40, 8, 1, .f32, (some .configure), 1017370378, .floats 981668463 1065353216, .stored, .immediate⟩,  -- DRUM_LAYER_PITCH
  ⟨0x8400, 0x05, 0x40, 8, 1, .f32, (some .configure), 1101004800, .floats 1065353216 1148846080, .stored, .immediate⟩,  -- DRUM_TURNS_PER_LAYER
  ⟨0x8400, 0x06, 0x40, 8, 1, .u8, (some .configure), 1, .ints 1 31, .stored, .immediate⟩,  -- DRUM_LAYERS
  ⟨0x8400, 0x07, 0x40, 8, 1, .f32, (some .configure), 1120403456, .floats 1065353216 1203982336, .stored, .immediate⟩,  -- ROPE_LENGTH
  ⟨0x8400, 0x08, 0x40, 8, 1, .u8, (some .operate), 0, .ints 0 2, .volatile, .immediate⟩,  -- WINCH_MODE
  ⟨0x8400, 0x09, 0x40, 8, 1, .f32, (some .operate), 0, .floats 3240099840 1092616192, .volatile, .immediate⟩,  -- ROPE_SPEED_CMD
  ⟨0x8400, 0x0A, 0x40, 8, 1, .f32, (some .operate), 0, .floats 0 1203982336, .volatile, .immediate⟩,  -- TENSION_SET
  ⟨0x8400, 0x0B, 0x40, 8, 1, .u8, (some .configure), 0, .ints 0 1, .stored, .immediate⟩,  -- TENSION_SOURCE
  ⟨0x8400, 0x0C, 0x40, 8, 1, .f32, (some .operate), 0, .floats 0 1203982336, .volatile, .immediate⟩,  -- TENSION_MEAS
  ⟨0x8400, 0x0D, 0x40, 8, 1, .f32, (some .configure), 1008981770, .floats 0 1092616192, .stored, .immediate⟩,  -- TENSION_GAIN
  ⟨0x8400, 0x0E, 0x40, 8, 1, .f32, (some .configure), 1056964608, .floats 0 1092616192, .stored, .immediate⟩,  -- CT_SPEED_MAX
  ⟨0x8400, 0x0F, 0x40, 8, 1, .f32, (some .operate), 0, .floats 3259498496 1112014848, .volatile, .immediate⟩,  -- AHC_HEAVE
  ⟨0x8400, 0x10, 0x40, 8, 1, .f32, (some .operate), 0, .floats 3248488448 1101004800, .volatile, .immediate⟩,  -- AHC_HEAVE_VEL
  ⟨0x8400, 0x11, 0x40, 8, 1, .u64, (some .operate), 0, .all, .volatile, .immediate⟩,  -- AHC_REF_TIME
  ⟨0x8400, 0x12, 0x40, 8, 1, .u16, (some .configure), 0, .ints 0 500, .stored, .immediate⟩,  -- AHC_LEAD
  ⟨0x8400, 0x13, 0x40, 8, 1, .f32, (some .configure), 1065353216, .floats 0 1101004800, .stored, .immediate⟩,  -- AHC_POS_GAIN
  ⟨0x8400, 0x14, 0x40, 8, 1, .u16, (some .configure), 2000, .ints 100 30000, .stored, .immediate⟩,  -- AHC_FADE
  ⟨0x8400, 0x15, 0x40, 8, 1, .u8, (some .operate), 0, .ints 0 1, .volatile, .immediate⟩,  -- WINCH_RELEASE
  ⟨0x8400, 0x16, 0x40, 8, 1, .f32, (some .configure), 1092616192, .floats 0 1203982336, .stored, .immediate⟩,  -- RELEASE_TENSION
  ⟨0x8400, 0x17, 0x40, 8, 1, .f32, (some .configure), 1056964608, .floats 0 1092616192, .stored, .immediate⟩,  -- RELEASE_SPEED
  ⟨0x8400, 0x18, 0x40, 8, 1, .f32, (some .configure), 1101004800, .floats 0 1176256512, .stored, .immediate⟩,  -- RELEASE_RESERVE
  ⟨0x8400, 0x19, 0x40, 8, 1, .u8, (some .configure), 255, .intsOr 0 15 [255], .stored, .immediate⟩]  -- WINCH_BRAKE

/-- Object cards of the indexes 0x8000 to 0x8FFF, part 2. -/
def cards8b : List Card := [
  ⟨0x8400, 0x1A, 0x40, 8, 1, .u8, (some .configure), 255, .intsOr 0 15 [255], .stored, .immediate⟩,  -- SPOOL_AXIS
  ⟨0x8400, 0x1B, 0x40, 8, 1, .u8, (some .configure), 255, .intsOr 0 31 [255], .stored, .immediate⟩,  -- SPOOL_CMP
  ⟨0x8400, 0x1C, 0x40, 8, 1, .i32, (some .configure), 0, .all, .stored, .immediate⟩,  -- SPOOL_FLANGE_A
  ⟨0x8400, 0x1D, 0x40, 8, 1, .i32, (some .configure), 0, .all, .stored, .immediate⟩,  -- SPOOL_FLANGE_B
  ⟨0x8400, 0x1E, 0x40, 8, 1, .u8, (some .operate), 0, .ints 0 1, .volatile, .immediate⟩,  -- SPOOL_ENABLE
  ⟨0x8400, 0x1F, 0x40, 8, 1, .f32, (some .configure), 0, .floats 0 0x7F7FFFFF, .volatile, .immediate⟩,  -- PAYOUT_SET
  ⟨0x8400, 0x20, 0x40, 8, 1, .f32, none, 0, .all, .stored, .immediate⟩,  -- PAYOUT
  ⟨0x8400, 0x21, 0x40, 8, 1, .f32, none, 0, .all, .volatile, .immediate⟩,  -- TENSION_NOW
  ⟨0x8400, 0x22, 0x40, 8, 1, .u32, none, 0, .all, .volatile, .immediate⟩,  -- WINCH_STATUS
  ⟨0x8800, 0x01, 0, 1, 1, .u8, (some .configure), 0, .ints 0 1, .stored, .immediate⟩,  -- REC_ENABLE
  ⟨0x8800, 0x02, 0, 1, 1, .u8, (some .configure), 10, .ints 0 29, .stored, .immediate⟩,  -- REC_POST
  ⟨0x8800, 0x03, 0, 1, 1, .u8, (some .operate), 0, .oneOf [1], .volatile, .immediate⟩,  -- REC_FREEZE
  ⟨0x8800, 0x04, 0, 1, 1, .u8, (some .operate), 0, .oneOf [1], .volatile, .immediate⟩,  -- REC_REARM
  ⟨0x8800, 0x05, 0, 1, 1, .u32, none, 0, .all, .volatile, .immediate⟩,  -- REC_STATUS
  ⟨0x8800, 0x06, 0, 1, 1, .domain, none, 0, .all, .volatile, .immediate⟩,  -- REC_EXTRACT
  ⟨0x8800, 0x07, 0, 1, 1, .domain, none, 0, .all, .volatile, .immediate⟩,  -- REC_HISTORY
  ⟨0x8801, 0x01, 0, 1, 16, .u32, (some .configure), 0, .all, .stored, .immediate⟩,  -- REC_TRIGGER
  ⟨0x8820, 0x01, 0x1, 96, 1, .u32, (some .configure), 0, .custom, .stored, .immediate⟩,  -- REC_SOURCE
  ⟨0x8820, 0x02, 0x1, 96, 1, .f32, (some .configure), 1065353216, .finiteNotZero, .stored, .immediate⟩,  -- REC_SCALE
  ⟨0x8820, 0x03, 0x1, 96, 1, .f32, (some .configure), 0, .finite, .stored, .immediate⟩,  -- REC_OFFSET
  ⟨0x8000, 0x10, 0x40, 8, 1, .u32, none, 0, .all, .volatile, .immediate⟩]  -- THR_STATUS

/-- Object cards of the indexes 0x9000 to 0x9FFF, part 1. -/
def cards9a : List Card := [
  ⟨0x9000, 0x01, 0, 1, 1, .u8, (some .configure), 1, .ints 0 1, .stored, .immediate⟩,  -- TEST_ENABLE
  ⟨0x9000, 0x02, 0, 1, 1, .u32, none, 0, .all, .volatile, .immediate⟩,  -- TEST_STATUS
  ⟨0x9000, 0x03, 0, 1, 1, .u16, (some .configure), 0, .all, .volatile, .immediate⟩,  -- TEST_RERUN
  ⟨0x9000, 0x04, 0, 1, 1, .u32, (some .maker), 0, .oneOf [0, 1], .volatile, .immediate⟩,  -- TEST_CTRL
  ⟨0x9000, 0x05, 0, 1, 1, .u8, (some .configure), 0, .ints 0 1, .volatile, .immediate⟩,  -- BSCAN_ENABLE
  ⟨0x9011, 0x01, 0, 1, 1, .u16, (some .configure), 60, .ints 10 36000, .stored, .immediate⟩,  -- TEST_CYCLE_TARGET
  ⟨0x9012, 0x01, 0, 1, 1, .u16, (some .configure), 600, .ints 10 36000, .stored, .immediate⟩,  -- TEST_CYCLE_TARGET
  ⟨0x9013, 0x01, 0, 1, 1, .u16, (some .configure), 60, .ints 10 36000, .stored, .immediate⟩,  -- TEST_CYCLE_TARGET
  ⟨0x9014, 0x01, 0, 1, 1, .u16, (some .configure), 60, .ints 10 36000, .stored, .immediate⟩,  -- TEST_CYCLE_TARGET
  ⟨0x9015, 0x01, 0, 1, 1, .u16, (some .configure), 60, .ints 10 36000, .stored, .immediate⟩,  -- TEST_CYCLE_TARGET
  ⟨0x9016, 0x01, 0, 1, 1, .u16, (some .configure), 60, .ints 10 36000, .stored, .immediate⟩,  -- TEST_CYCLE_TARGET
  ⟨0x9017, 0x01, 0, 1, 1, .u16, (some .configure), 60, .ints 10 36000, .stored, .immediate⟩,  -- TEST_CYCLE_TARGET
  ⟨0x9018, 0x01, 0, 1, 1, .u16, (some .configure), 60, .ints 10 36000, .stored, .immediate⟩,  -- TEST_CYCLE_TARGET
  ⟨0x9019, 0x01, 0, 1, 1, .u16, (some .configure), 60, .ints 10 36000, .stored, .immediate⟩,  -- TEST_CYCLE_TARGET
  ⟨0x901A, 0x01, 0, 1, 1, .u16, (some .configure), 60, .ints 10 36000, .stored, .immediate⟩,  -- TEST_CYCLE_TARGET
  ⟨0x901B, 0x01, 0, 1, 1, .u16, (some .configure), 60, .ints 10 36000, .stored, .immediate⟩,  -- TEST_CYCLE_TARGET
  ⟨0x901C, 0x01, 0, 1, 1, .u16, (some .configure), 60, .ints 10 36000, .stored, .immediate⟩,  -- TEST_CYCLE_TARGET
  ⟨0x901D, 0x01, 0, 1, 1, .u16, (some .configure), 120, .ints 10 36000, .stored, .immediate⟩,  -- TEST_CYCLE_TARGET
  ⟨0x901E, 0x01, 0, 1, 1, .u16, (some .configure), 120, .ints 10 36000, .stored, .immediate⟩,  -- TEST_CYCLE_TARGET
  ⟨0x901F, 0x01, 0, 1, 1, .u16, (some .configure), 60, .ints 10 36000, .stored, .immediate⟩,  -- TEST_CYCLE_TARGET
  ⟨0x9020, 0x01, 0, 1, 1, .u16, (some .configure), 3600, .ints 10 36000, .stored, .immediate⟩,  -- TEST_CYCLE_TARGET
  ⟨0x9011, 0x02, 0, 1, 1, .u16, none, 972, .all, .factory, .immediate⟩,  -- COVERAGE
  ⟨0x9012, 0x02, 0, 1, 1, .u16, none, 996, .all, .factory, .immediate⟩,  -- COVERAGE
  ⟨0x9013, 0x02, 0, 1, 1, .u16, none, 980, .all, .factory, .immediate⟩,  -- COVERAGE
  ⟨0x9014, 0x02, 0, 1, 1, .u16, none, 955, .all, .factory, .immediate⟩,  -- COVERAGE
  ⟨0x9015, 0x02, 0, 1, 1, .u16, none, 960, .all, .factory, .immediate⟩,  -- COVERAGE
  ⟨0x9016, 0x02, 0, 1, 1, .u16, none, 985, .all, .factory, .immediate⟩,  -- COVERAGE
  ⟨0x9017, 0x02, 0, 1, 1, .u16, none, 940, .all, .factory, .immediate⟩,  -- COVERAGE
  ⟨0x9018, 0x02, 0, 1, 1, .u16, none, 990, .all, .factory, .immediate⟩,  -- COVERAGE
  ⟨0x9019, 0x02, 0, 1, 1, .u16, none, 975, .all, .factory, .immediate⟩,  -- COVERAGE
  ⟨0x901A, 0x02, 0, 1, 1, .u16, none, 980, .all, .factory, .immediate⟩,  -- COVERAGE
  ⟨0x901B, 0x02, 0, 1, 1, .u16, none, 990, .all, .factory, .immediate⟩,  -- COVERAGE
  ⟨0x901C, 0x02, 0, 1, 1, .u16, none, 970, .all, .factory, .immediate⟩,  -- COVERAGE
  ⟨0x901D, 0x02, 0, 1, 1, .u16, none, 930, .all, .factory, .immediate⟩,  -- COVERAGE
  ⟨0x901E, 0x02, 0, 1, 1, .u16, none, 900, .all, .factory, .immediate⟩,  -- COVERAGE
  ⟨0x901F, 0x02, 0, 1, 1, .u16, none, 960, .all, .factory, .immediate⟩,  -- COVERAGE
  ⟨0x9020, 0x02, 0, 1, 1, .u16, none, 995, .all, .factory, .immediate⟩,  -- COVERAGE
  ⟨0x9011, 0x03, 0, 1, 1, .u16, none, 500, .all, .factory, .immediate⟩,  -- SLICES_PER_CYCLE
  ⟨0x9012, 0x03, 0, 1, 1, .u16, none, 768, .all, .factory, .immediate⟩,  -- SLICES_PER_CYCLE
  ⟨0x9013, 0x03, 0, 1, 1, .u16, none, 64, .all, .factory, .immediate⟩]  -- SLICES_PER_CYCLE

/-- Object cards of the indexes 0x9000 to 0x9FFF, part 2. -/
def cards9b : List Card := [
  ⟨0x9014, 0x03, 0, 1, 1, .u16, none, 32, .all, .factory, .immediate⟩,  -- SLICES_PER_CYCLE
  ⟨0x9015, 0x03, 0, 1, 1, .u16, none, 16, .all, .factory, .immediate⟩,  -- SLICES_PER_CYCLE
  ⟨0x9016, 0x03, 0, 1, 1, .u16, none, 24, .all, .factory, .immediate⟩,  -- SLICES_PER_CYCLE
  ⟨0x9017, 0x03, 0, 1, 1, .u16, none, 40, .all, .factory, .immediate⟩,  -- SLICES_PER_CYCLE
  ⟨0x9018, 0x03, 0, 1, 1, .u16, none, 20, .all, .factory, .immediate⟩,  -- SLICES_PER_CYCLE
  ⟨0x9019, 0x03, 0, 1, 1, .u16, none, 16, .all, .factory, .immediate⟩,  -- SLICES_PER_CYCLE
  ⟨0x901A, 0x03, 0, 1, 1, .u16, none, 24, .all, .factory, .immediate⟩,  -- SLICES_PER_CYCLE
  ⟨0x901B, 0x03, 0, 1, 1, .u16, none, 8, .all, .factory, .immediate⟩,  -- SLICES_PER_CYCLE
  ⟨0x901C, 0x03, 0, 1, 1, .u16, none, 32, .all, .factory, .immediate⟩,  -- SLICES_PER_CYCLE
  ⟨0x901D, 0x03, 0, 1, 1, .u16, none, 300, .all, .factory, .immediate⟩,  -- SLICES_PER_CYCLE
  ⟨0x901E, 0x03, 0, 1, 1, .u16, none, 200, .all, .factory, .immediate⟩,  -- SLICES_PER_CYCLE
  ⟨0x901F, 0x03, 0, 1, 1, .u16, none, 40, .all, .factory, .immediate⟩,  -- SLICES_PER_CYCLE
  ⟨0x9020, 0x03, 0, 1, 1, .u16, none, 4096, .all, .factory, .immediate⟩,  -- SLICES_PER_CYCLE
  ⟨0x9041, 0x01, 0, 1, 4, .u32, none, 0, .all, .volatile, .immediate⟩,  -- SLICE_RESULT
  ⟨0x9042, 0x01, 0, 1, 4, .u32, none, 0, .all, .volatile, .immediate⟩,  -- SLICE_RESULT
  ⟨0x9043, 0x01, 0, 1, 1, .u32, none, 0, .all, .volatile, .immediate⟩,  -- SLICE_RESULT
  ⟨0x9044, 0x01, 0, 1, 48, .u32, none, 0, .all, .volatile, .immediate⟩,  -- SLICE_RESULT
  ⟨0x9045, 0x01, 0, 1, 18, .u32, none, 0, .all, .volatile, .immediate⟩,  -- SLICE_RESULT
  ⟨0x9046, 0x01, 0, 1, 54, .u32, none, 0, .all, .volatile, .immediate⟩,  -- SLICE_RESULT
  ⟨0x9047, 0x01, 0, 1, 48, .u32, none, 0, .all, .volatile, .immediate⟩,  -- SLICE_RESULT
  ⟨0x9048, 0x01, 0, 1, 16, .u32, none, 0, .all, .volatile, .immediate⟩,  -- SLICE_RESULT
  ⟨0x9049, 0x01, 0, 1, 16, .u32, none, 0, .all, .volatile, .immediate⟩,  -- SLICE_RESULT
  ⟨0x904A, 0x01, 0, 1, 16, .u32, none, 0, .all, .volatile, .immediate⟩,  -- SLICE_RESULT
  ⟨0x904B, 0x01, 0, 1, 32, .u32, none, 0, .all, .volatile, .immediate⟩,  -- SLICE_RESULT
  ⟨0x904C, 0x01, 0, 1, 1, .u32, none, 0, .all, .volatile, .immediate⟩,  -- SLICE_RESULT
  ⟨0x904D, 0x01, 0, 1, 4, .u32, none, 0, .all, .volatile, .immediate⟩,  -- SLICE_RESULT
  ⟨0x904E, 0x01, 0, 1, 1, .u32, none, 0, .all, .volatile, .immediate⟩,  -- SLICE_RESULT
  ⟨0x904F, 0x01, 0, 1, 2, .u32, none, 0, .all, .volatile, .immediate⟩,  -- SLICE_RESULT
  ⟨0x9050, 0x01, 0, 1, 1, .u32, none, 0, .all, .volatile, .immediate⟩,  -- SLICE_RESULT
  ⟨0x9061, 0x01, 0, 1, 4, .u32, none, 0, .all, .volatile, .immediate⟩,  -- FULL_CYCLE_LAST
  ⟨0x9062, 0x01, 0, 1, 4, .u32, none, 0, .all, .volatile, .immediate⟩,  -- FULL_CYCLE_LAST
  ⟨0x9063, 0x01, 0, 1, 1, .u32, none, 0, .all, .volatile, .immediate⟩,  -- FULL_CYCLE_LAST
  ⟨0x9064, 0x01, 0, 1, 48, .u32, none, 0, .all, .volatile, .immediate⟩,  -- FULL_CYCLE_LAST
  ⟨0x9065, 0x01, 0, 1, 18, .u32, none, 0, .all, .volatile, .immediate⟩,  -- FULL_CYCLE_LAST
  ⟨0x9066, 0x01, 0, 1, 54, .u32, none, 0, .all, .volatile, .immediate⟩,  -- FULL_CYCLE_LAST
  ⟨0x9067, 0x01, 0, 1, 48, .u32, none, 0, .all, .volatile, .immediate⟩,  -- FULL_CYCLE_LAST
  ⟨0x9068, 0x01, 0, 1, 16, .u32, none, 0, .all, .volatile, .immediate⟩,  -- FULL_CYCLE_LAST
  ⟨0x9069, 0x01, 0, 1, 16, .u32, none, 0, .all, .volatile, .immediate⟩,  -- FULL_CYCLE_LAST
  ⟨0x906A, 0x01, 0, 1, 16, .u32, none, 0, .all, .volatile, .immediate⟩,  -- FULL_CYCLE_LAST
  ⟨0x906B, 0x01, 0, 1, 32, .u32, none, 0, .all, .volatile, .immediate⟩]  -- FULL_CYCLE_LAST

/-- Object cards of the indexes 0x9000 to 0x9FFF, part 3. -/
def cards9c : List Card := [
  ⟨0x906C, 0x01, 0, 1, 1, .u32, none, 0, .all, .volatile, .immediate⟩,  -- FULL_CYCLE_LAST
  ⟨0x906D, 0x01, 0, 1, 4, .u32, none, 0, .all, .volatile, .immediate⟩,  -- FULL_CYCLE_LAST
  ⟨0x906E, 0x01, 0, 1, 1, .u32, none, 0, .all, .volatile, .immediate⟩,  -- FULL_CYCLE_LAST
  ⟨0x906F, 0x01, 0, 1, 2, .u32, none, 0, .all, .volatile, .immediate⟩,  -- FULL_CYCLE_LAST
  ⟨0x9070, 0x01, 0, 1, 1, .u32, none, 0, .all, .volatile, .immediate⟩,  -- FULL_CYCLE_LAST
  ⟨0x9081, 0x01, 0, 1, 4, .u32, (some .operate), 0, .oneOf [0], .volatile, .immediate⟩,  -- ABORT_COUNT
  ⟨0x9082, 0x01, 0, 1, 4, .u32, (some .operate), 0, .oneOf [0], .volatile, .immediate⟩,  -- ABORT_COUNT
  ⟨0x9083, 0x01, 0, 1, 1, .u32, (some .operate), 0, .oneOf [0], .volatile, .immediate⟩,  -- ABORT_COUNT
  ⟨0x9084, 0x01, 0, 1, 48, .u32, (some .operate), 0, .oneOf [0], .volatile, .immediate⟩,  -- ABORT_COUNT
  ⟨0x9085, 0x01, 0, 1, 18, .u32, (some .operate), 0, .oneOf [0], .volatile, .immediate⟩,  -- ABORT_COUNT
  ⟨0x9086, 0x01, 0, 1, 54, .u32, (some .operate), 0, .oneOf [0], .volatile, .immediate⟩,  -- ABORT_COUNT
  ⟨0x9087, 0x01, 0, 1, 48, .u32, (some .operate), 0, .oneOf [0], .volatile, .immediate⟩,  -- ABORT_COUNT
  ⟨0x9088, 0x01, 0, 1, 16, .u32, (some .operate), 0, .oneOf [0], .volatile, .immediate⟩,  -- ABORT_COUNT
  ⟨0x9089, 0x01, 0, 1, 16, .u32, (some .operate), 0, .oneOf [0], .volatile, .immediate⟩,  -- ABORT_COUNT
  ⟨0x908A, 0x01, 0, 1, 16, .u32, (some .operate), 0, .oneOf [0], .volatile, .immediate⟩,  -- ABORT_COUNT
  ⟨0x908B, 0x01, 0, 1, 32, .u32, (some .operate), 0, .oneOf [0], .volatile, .immediate⟩,  -- ABORT_COUNT
  ⟨0x908C, 0x01, 0, 1, 1, .u32, (some .operate), 0, .oneOf [0], .volatile, .immediate⟩,  -- ABORT_COUNT
  ⟨0x908D, 0x01, 0, 1, 4, .u32, (some .operate), 0, .oneOf [0], .volatile, .immediate⟩,  -- ABORT_COUNT
  ⟨0x908E, 0x01, 0, 1, 1, .u32, (some .operate), 0, .oneOf [0], .volatile, .immediate⟩,  -- ABORT_COUNT
  ⟨0x908F, 0x01, 0, 1, 2, .u32, (some .operate), 0, .oneOf [0], .volatile, .immediate⟩,  -- ABORT_COUNT
  ⟨0x9090, 0x01, 0, 1, 1, .u32, (some .operate), 0, .oneOf [0], .volatile, .immediate⟩,  -- ABORT_COUNT
  ⟨0x9110, 0x01, 0x1, 3, 1, .domain, (some .configure), 0, .all, .stored, .immediate⟩,  -- FW_IMAGE
  ⟨0x9110, 0x02, 0x1, 3, 1, .u8, (some .configure), 0, .oneOf [1], .volatile, .immediate⟩,  -- FW_ACTIVATE
  ⟨0x9110, 0x03, 0x1, 3, 1, .u32, none, 0, .all, .volatile, .immediate⟩,  -- FW_STATUS
  ⟨0x9110, 0x04, 0x1, 3, 1, .u32, none, 0, .all, .stored, .immediate⟩,  -- FW_VERSION_A
  ⟨0x9110, 0x05, 0x1, 3, 1, .u32, none, 0, .all, .stored, .immediate⟩]  -- FW_VERSION_B

/-- Object cards of the indexes 0xA000 to 0xAFFF, part 1. -/
def cardsAa : List Card := [
  ⟨0xA000, 0x01, 0, 1, 1, .u16, none, 0, .all, .keep, .immediate⟩,  -- EVENT_HEAD
  ⟨0xA000, 0x02, 0, 1, 1, .u16, none, 0, .all, .keep, .immediate⟩,  -- ANNOUNCED_UNREAD
  ⟨0xA000, 0x03, 0, 1, 1, .u32, (some .operate), 0, .oneOf [0], .volatile, .immediate⟩,  -- EVENT_LOST
  ⟨0xA000, 0x04, 0, 1, 1, .u8, (some .configure), 0, .oneOf [1], .volatile, .immediate⟩,  -- EVENT_ACK_ALL
  ⟨0xA010, 0x01, 0x1, 1008, 1, .u16, none, 0, .all, .volatile, .immediate⟩,  -- EVENT_CODE
  ⟨0xA010, 0x02, 0x1, 1008, 1, .u16, none, 0, .all, .volatile, .immediate⟩,  -- EVENT_INSTANCE
  ⟨0xA010, 0x03, 0x1, 1008, 1, .u64, none, 0, .all, .volatile, .immediate⟩]  -- EVENT_TIME

/-- The cards by the highest digit of their indexes. -/
def cardsAt : Nat → List Card
  | 0x1 => cards1a ++ cards1b ++ cards1c
  | 0x2 => cards2a
  | 0x3 => cards3a
  | 0x4 => cards4a ++ cards4b ++ cards4c ++ cards4d
  | 0x5 => cards5a ++ cards5b
  | 0x6 => cards6a
  | 0x7 => cards7a ++ cards7b
  | 0x8 => cards8a ++ cards8b
  | 0x9 => cards9a ++ cards9b ++ cards9c
  | 0xA => cardsAa
  | _ => []

/-- Every object card of the manual. -/
def cards : List Card :=
  (List.range 16).flatMap cardsAt

/-- The card of an address; none = the object does not exist. -/
def cardOf (a : Nat) : Option Card := (cardsAt (a / 0x100000)).find? (·.covers a)

/-- The default of an address. -/
def defaultOf (a : Nat) : Int := ((cardOf a).map (·.dflt)).getD 0

namespace O
/-- ORDER_VARIANT (Table 0.3) -/
def orderVariant : Nat := 0x100003
/-- REF_STATUS (Table 1.1) -/
def refStatus : Nat := 0x200001
/-- REF_TIME (Table 1.3) -/
def refTime : Nat := 0x200003
/-- REF_DISCIPLINE (Table 1.4) -/
def refDiscipline : Nat := 0x200002
/-- CREST_LOAD (Table 1.5) -/
def crestLoad (i : Nat) : Nat := 0x201005 + 0x1000 * i
/-- MARGIN_FLOOR (Table 1.6) -/
def marginFloor (i : Nat) : Nat := 0x201001 + 0x1000 * i
/-- VCREST_LIMIT (Table 1.7) -/
def vcrestLimit (i : Nat) : Nat := 0x201002 + 0x1000 * i
/-- MARGIN_NOW (Table 1.8) -/
def marginNow (i : Nat) : Nat := 0x201003 + 0x1000 * i
/-- VCREST_NOW (Table 1.8) -/
def vcrestNow (i : Nat) : Nat := 0x201004 + 0x1000 * i
/-- CHECK_FAIL_COUNT (Table 1.10) -/
def checkFailCount (k : Nat) : Nat := 0x205001 + k
/-- CREST_RETIRE_COUNT (Table 1.18) -/
def crestRetireCount : Nat := 0x207001
/-- CREST_RETIRE_WINDOW (Table 1.18) -/
def crestRetireWindow : Nat := 0x207002
/-- CREST_CLASS_COUNTS (Table 1.18) -/
def crestClassCounts : Nat := 0x207003
/-- CREST_REINSTATE (Table 1.19) -/
def crestReinstate (i : Nat) : Nat := 0x201007 + 0x1000 * i
/-- CREST_STATUS (Table 1.11) -/
def crestStatus (i : Nat) : Nat := 0x201006 + 0x1000 * i
/-- GATE_STATUS (Table 1.14) -/
def gateStatus : Nat := 0x206001
/-- DEADTIME (Table 2.2) -/
def deadtime (i : Nat) : Nat := 0x300101 + 0x4000 * i
/-- DEADTIME_EFFECTIVE (Table 2.2) -/
def deadtimeEffective (i : Nat) : Nat := 0x300102 + 0x4000 * i
/-- GATE_OFF_TIMEOUT (Table 2.3) -/
def gateOffTimeout (i : Nat) : Nat := 0x300103 + 0x4000 * i
/-- MIN_ON (Table 2.3) -/
def minOn (i : Nat) : Nat := 0x300104 + 0x4000 * i
/-- GROUP_STATUS (Table 2.4) -/
def groupStatus (i : Nat) : Nat := 0x3C0001 + 0x1000 * i
/-- VGP_NOW (Table 2.4) -/
def vgpNow (i : Nat) : Nat := 0x3C0002 + 0x1000 * i
/-- VGN_NOW (Table 2.4) -/
def vgnNow (i : Nat) : Nat := 0x3C0003 + 0x1000 * i
/-- VGN_EXPECTED (Table 2.4) -/
def vgnExpected (i : Nat) : Nat := 0x3C0004 + 0x1000 * i
/-- BLANKING (Table 2.6) -/
def blanking (i : Nat) : Nat := 0x300201 + 0x4000 * i
/-- DESAT_THRESHOLD (Table 2.6) -/
def desatThreshold (i : Nat) : Nat := 0x300202 + 0x4000 * i
/-- MILLER_TIMEOUT (Table 2.6) -/
def millerTimeout (i : Nat) : Nat := 0x300203 + 0x4000 * i
/-- SOFT_OFF_CURRENT (Table 2.6) -/
def softOffCurrent (i : Nat) : Nat := 0x300204 + 0x4000 * i
/-- ASC_SPEED (Table 2.9) -/
def ascSpeed (i : Nat) : Nat := 0x403801 + 0x10000 * i
/-- ASC_HOLD (Table 2.9) -/
def ascHold (i : Nat) : Nat := 0x403802 + 0x10000 * i
/-- LEG_FAULT_RESUME (Table 2.9) -/
def legFaultResume (i : Nat) : Nat := 0x403803 + 0x10000 * i
/-- REACTION_STATUS (Table 2.10) -/
def reactionStatus (i : Nat) : Nat := 0x40F801 + 0x10000 * i
/-- LEG_FRACTION (Table 2.10) -/
def legFraction (i : Nat) : Nat := 0x40F802 + 0x10000 * i
/-- LEG_STATUS (Table 2.13) -/
def legStatus (i : Nat) : Nat := 0x300001 + 0x4000 * i
/-- VBS_NOW (Table 2.13) -/
def vbsNow (i : Nat) : Nat := 0x300002 + 0x4000 * i
/-- LEG_REINSTATE (Table 2.13) -/
def legReinstate (i : Nat) : Nat := 0x300301 + 0x4000 * i
/-- RETIRE_COUNT (Table 2.15) -/
def retireCount : Nat := 0x3C6001
/-- RETIRE_WINDOW (Table 2.15) -/
def retireWindow : Nat := 0x3C6002
/-- AUTOCLEAR_WAIT (Table 2.15) -/
def autoclearWait : Nat := 0x3C6003
/-- AUTOCLEAR_MAX (Table 2.15) -/
def autoclearMax : Nat := 0x3C6004
/-- BS_PRECHARGE (Table 2.15) -/
def bsPrecharge : Nat := 0x3C6005
/-- CI_MODE (Table 3.2) -/
def ciMode (i : Nat) : Nat := 0x300801 + 0x4000 * i
/-- CI_GAIN (Table 3.2) -/
def ciGain (i : Nat) : Nat := 0x300802 + 0x4000 * i
/-- CI_OFFSET (Table 3.2) -/
def ciOffset (i : Nat) : Nat := 0x300803 + 0x4000 * i
/-- OC_LEVEL (Table 3.2) -/
def ocLevel (i : Nat) : Nat := 0x300804 + 0x4000 * i
/-- OC_FILTER (Table 3.2) -/
def ocFilter (i : Nat) : Nat := 0x300805 + 0x4000 * i
/-- CI_STATUS (Table 3.3) -/
def ciStatus (i : Nat) : Nat := 0x300901 + 0x4000 * i
/-- CI_NOW (Table 3.3) -/
def ciNow (i : Nat) : Nat := 0x300902 + 0x4000 * i
/-- CI_ZERO_MEASURED (Table 3.3) -/
def ciZeroMeasured (i : Nat) : Nat := 0x300903 + 0x4000 * i
/-- CI_REINSTATE (Table 3.3) -/
def ciReinstate (i : Nat) : Nat := 0x300904 + 0x4000 * i
/-- SD_ROLE (Table 3.5) -/
def sdRole (i : Nat) : Nat := 0x3D0001 + 0x1000 * i
/-- SD_AXIS (Table 3.5) -/
def sdAxis (i : Nat) : Nat := 0x3D0002 + 0x1000 * i
/-- SD_OSR (Table 3.5) -/
def sdOsr (i : Nat) : Nat := 0x3D0003 + 0x1000 * i
/-- SD_CLOCK (Table 3.5) -/
def sdClock (i : Nat) : Nat := 0x3D0004 + 0x1000 * i
/-- SD_GAIN (Table 3.5) -/
def sdGain (i : Nat) : Nat := 0x3D0005 + 0x1000 * i
/-- SD_OFFSET (Table 3.5) -/
def sdOffset (i : Nat) : Nat := 0x3D0006 + 0x1000 * i
/-- SD_NOW (Table 3.5) -/
def sdNow (i : Nat) : Nat := 0x3D0007 + 0x1000 * i
/-- SETTLE_TIME (Table 3.6) -/
def settleTime (i : Nat) : Nat := 0x403001 + 0x10000 * i
/-- PREDICT_MAX (Table 3.6) -/
def predictMax (i : Nat) : Nat := 0x403002 + 0x10000 * i
/-- LIMIT_RELEASE (Table 3.6) -/
def limitRelease (i : Nat) : Nat := 0x403003 + 0x10000 * i
/-- BAL_GAIN (Table 3.6) -/
def balGain (i : Nat) : Nat := 0x403004 + 0x10000 * i
/-- BAL_TRIM_MAX (Table 3.6) -/
def balTrimMax (i : Nat) : Nat := 0x403005 + 0x10000 * i
/-- LEG_INDUCTANCE (Table 3.6) -/
def legInductance (i : Nat) : Nat := 0x403006 + 0x10000 * i
/-- CIRC_WARN (Table 3.7) -/
def circWarn (i : Nat) : Nat := 0x403007 + 0x10000 * i
/-- CI_AUTOZERO (Table 3.7) -/
def ciAutozero (i : Nat) : Nat := 0x403008 + 0x10000 * i
/-- ZERO_TOL (Table 3.7) -/
def zeroTol (i : Nat) : Nat := 0x403009 + 0x10000 * i
/-- SUM_TOL (Table 3.7) -/
def sumTol (i : Nat) : Nat := 0x40300A + 0x10000 * i
/-- LEG_DEV_TOL (Table 3.7) -/
def legDevTol (i : Nat) : Nat := 0x40300B + 0x10000 * i
/-- SADDLE_STATUS (Table 3.8) -/
def saddleStatus (i : Nat) : Nat := 0x40F001 + 0x10000 * i
/-- DEPTH_LIMIT (Table 3.8) -/
def depthLimit (i : Nat) : Nat := 0x40F002 + 0x10000 * i
/-- DEPTH_DEMAND (Table 3.8) -/
def depthDemand (i : Nat) : Nat := 0x40F003 + 0x10000 * i
/-- SPEED_UNLIMITED (Table 3.8) -/
def speedUnlimited (i : Nat) : Nat := 0x40F004 + 0x10000 * i
/-- SPEED_AT_LIMIT (Table 3.8) -/
def speedAtLimit (i : Nat) : Nat := 0x40F005 + 0x10000 * i
/-- TORQUE_COST (Table 3.8) -/
def torqueCost (i : Nat) : Nat := 0x40F006 + 0x10000 * i
/-- FB_STATUS (Table 4.5) -/
def fbStatus (i : Nat) : Nat := 0x500001 + 0x4000 * i
/-- FB_POSITION (Table 4.5) -/
def fbPosition (i : Nat) : Nat := 0x500002 + 0x4000 * i
/-- SPEED_NOW (Table 4.5) -/
def speedNow (i : Nat) : Nat := 0x500003 + 0x4000 * i
/-- GLITCH_COUNT (Table 4.5) -/
def glitchCount (i : Nat) : Nat := 0x500004 + 0x4000 * i
/-- INDEX_MISMATCH_COUNT (Table 4.6) -/
def indexMismatchCount (i : Nat) : Nat := 0x500005 + 0x4000 * i
/-- INDEX_CORRECTION (Table 4.6) -/
def indexCorrection (i : Nat) : Nat := 0x500006 + 0x4000 * i
/-- DIR_CHANGE_COUNT (Table 4.6) -/
def dirChangeCount (i : Nat) : Nat := 0x500007 + 0x4000 * i
/-- FB_TYPE (Table 4.8) -/
def fbType (i : Nat) : Nat := 0x500101 + 0x4000 * i
/-- FB_INVERT (Table 4.8) -/
def fbInvert (i : Nat) : Nat := 0x500102 + 0x4000 * i
/-- COUNTS_PER_REV (Table 4.8) -/
def countsPerRev (i : Nat) : Nat := 0x500103 + 0x4000 * i
/-- MIN_EDGE (Table 4.8) -/
def minEdge (i : Nat) : Nat := 0x500104 + 0x4000 * i
/-- INDEX_MODE (Table 4.9) -/
def indexMode (i : Nat) : Nat := 0x500201 + 0x4000 * i
/-- INDEX_VALUE (Table 4.9) -/
def indexValue (i : Nat) : Nat := 0x500202 + 0x4000 * i
/-- INDEX_TOL (Table 4.9) -/
def indexTol (i : Nat) : Nat := 0x500203 + 0x4000 * i
/-- INDEX_GATE (Table 4.9) -/
def indexGate (i : Nat) : Nat := 0x500204 + 0x4000 * i
/-- INDEX_ARM (Table 4.9) -/
def indexArm (i : Nat) : Nat := 0x500205 + 0x4000 * i
/-- SPEED_WINDOW (Table 4.10) -/
def speedWindow (i : Nat) : Nat := 0x500301 + 0x4000 * i
/-- STANDSTILL_TIME (Table 4.10) -/
def standstillTime (i : Nat) : Nat := 0x500302 + 0x4000 * i
/-- SPEED_SWITCH (Table 4.10) -/
def speedSwitch (i : Nat) : Nat := 0x500303 + 0x4000 * i
/-- SPEED_HYST (Table 4.10) -/
def speedHyst (i : Nat) : Nat := 0x500304 + 0x4000 * i
/-- PERIOD_EDGES (Table 4.10) -/
def periodEdges (i : Nat) : Nat := 0x500305 + 0x4000 * i
/-- DIR_HYST (Table 4.10) -/
def dirHyst (i : Nat) : Nat := 0x500306 + 0x4000 * i
/-- GT_PITCHES (Table 4.11) -/
def gtPitches (i : Nat) : Nat := 0x500401 + 0x4000 * i
/-- GT_REF (Table 4.11) -/
def gtRef (i : Nat) : Nat := 0x500402 + 0x4000 * i
/-- GT_TOL (Table 4.11) -/
def gtTol (i : Nat) : Nat := 0x500403 + 0x4000 * i
/-- GT_ACCEL (Table 4.11) -/
def gtAccel (i : Nat) : Nat := 0x500404 + 0x4000 * i
/-- GT_DIR_SOURCE (Table 4.11) -/
def gtDirSource (i : Nat) : Nat := 0x500405 + 0x4000 * i
/-- SSI_POS_BITS (Table 4.12) -/
def ssiPosBits (i : Nat) : Nat := 0x500501 + 0x4000 * i
/-- SSI_CLOCK_DIV (Table 4.12) -/
def ssiClockDiv (i : Nat) : Nat := 0x500502 + 0x4000 * i
/-- SSI_ERR_BIT (Table 4.12) -/
def ssiErrBit (i : Nat) : Nat := 0x500503 + 0x4000 * i
/-- SSI_CRC_BITS (Table 4.12) -/
def ssiCrcBits (i : Nat) : Nat := 0x500504 + 0x4000 * i
/-- SSI_CRC_POLY (Table 4.12) -/
def ssiCrcPoly (i : Nat) : Nat := 0x500505 + 0x4000 * i
/-- SSI_CRC_INIT (Table 4.12) -/
def ssiCrcInit (i : Nat) : Nat := 0x500506 + 0x4000 * i
/-- SSI_TIMEOUT (Table 4.13) -/
def ssiTimeout (i : Nat) : Nat := 0x500507 + 0x4000 * i
/-- SSI_MONO (Table 4.13) -/
def ssiMono (i : Nat) : Nat := 0x500508 + 0x4000 * i
/-- SSI_BAD_MAX (Table 4.13) -/
def ssiBadMax (i : Nat) : Nat := 0x500509 + 0x4000 * i
/-- SSI_LINE_DELAY (Table 4.13) -/
def ssiLineDelay (i : Nat) : Nat := 0x50050A + 0x4000 * i
/-- SSI_BAD_COUNT (Table 4.13) -/
def ssiBadCount (i : Nat) : Nat := 0x50050B + 0x4000 * i
/-- AN_INTERP_BITS (Table 4.14) -/
def anInterpBits (i : Nat) : Nat := 0x500601 + 0x4000 * i
/-- AN_PERIODS (Table 4.14) -/
def anPeriods (i : Nat) : Nat := 0x500602 + 0x4000 * i
/-- AN_TRACK_BW (Table 4.14) -/
def anTrackBw (i : Nat) : Nat := 0x500603 + 0x4000 * i
/-- AN_AMPL_NOM (Table 4.14) -/
def anAmplNom (i : Nat) : Nat := 0x500604 + 0x4000 * i
/-- FB_REINSTATE (Table 4.14) -/
def fbReinstate (i : Nat) : Nat := 0x500701 + 0x4000 * i
/-- FB_RETIRE_COUNT (Table 4.15) -/
def fbRetireCount : Nat := 0x5E0001
/-- FB_RETIRE_WINDOW (Table 4.15) -/
def fbRetireWindow : Nat := 0x5E0002
/-- GLITCH_LIMIT (Table 4.15) -/
def glitchLimit : Nat := 0x5E0003
/-- PT_SOURCE (Table 4.15) -/
def ptSource (i : Nat) : Nat := 0x5E1001 + 0x1000 * i
/-- PT_MODE (Table 4.15) -/
def ptMode (i : Nat) : Nat := 0x5E1002 + 0x1000 * i
/-- EXC_FREQ (Table 4.15) -/
def excFreq (i : Nat) : Nat := 0x5EA001 + 0x1000 * i
/-- EXC_AMPL (Table 4.15) -/
def excAmpl (i : Nat) : Nat := 0x5EA002 + 0x1000 * i
/-- AXIS_TYPE (Table 5.1) -/
def axisType (i : Nat) : Nat := 0x400001 + 0x10000 * i
/-- FIRST_LEG (Table 5.1) -/
def firstLeg (i : Nat) : Nat := 0x400002 + 0x10000 * i
/-- LEGS_PER_PHASE (Table 5.1) -/
def legsPerPhase (i : Nat) : Nat := 0x400003 + 0x10000 * i
/-- CARRIER_FREQ (Table 5.1) -/
def carrierFreq (i : Nat) : Nat := 0x400004 + 0x10000 * i
/-- UPDATE_MODE (Table 5.1) -/
def updateMode (i : Nat) : Nat := 0x400005 + 0x10000 * i
/-- MOD_MODE (Table 5.1) -/
def modMode (i : Nat) : Nat := 0x400006 + 0x10000 * i
/-- FB_CHANNEL (Table 5.1) -/
def fbChannel (i : Nat) : Nat := 0x400007 + 0x10000 * i
/-- POLE_PAIRS (Table 5.2) -/
def polePairs (i : Nat) : Nat := 0x400101 + 0x10000 * i
/-- RS (Table 5.2) -/
def rs (i : Nat) : Nat := 0x400102 + 0x10000 * i
/-- LD (Table 5.2) -/
def ld (i : Nat) : Nat := 0x400103 + 0x10000 * i
/-- LQ (Table 5.2) -/
def lq (i : Nat) : Nat := 0x400104 + 0x10000 * i
/-- KE_NOM (Table 5.2) -/
def keNom (i : Nat) : Nat := 0x400105 + 0x10000 * i
/-- I_RATED (Table 5.2) -/
def iRated (i : Nat) : Nat := 0x400106 + 0x10000 * i
/-- I_MAX (Table 5.2) -/
def iMax (i : Nat) : Nat := 0x400107 + 0x10000 * i
/-- SPEED_RATED (Table 5.3) -/
def speedRated (i : Nat) : Nat := 0x400201 + 0x10000 * i
/-- F_ELEC_MAX (Table 5.3) -/
def fElecMax (i : Nat) : Nat := 0x400202 + 0x10000 * i
/-- VDC_NOM (Table 5.3) -/
def vdcNom (i : Nat) : Nat := 0x400203 + 0x10000 * i
/-- COMM_OFFSET (Table 5.3) -/
def commOffset (i : Nat) : Nat := 0x400204 + 0x10000 * i
/-- REGEN_LIMIT (Table 5.3) -/
def regenLimit (i : Nat) : Nat := 0x400205 + 0x10000 * i
/-- MIGRATE_RANK (Table 5.3) -/
def migrateRank (i : Nat) : Nat := 0x400206 + 0x10000 * i
/-- LM (Table 5.4) -/
def lm (i : Nat) : Nat := 0x400301 + 0x10000 * i
/-- LSIGMA (Table 5.4) -/
def lsigma (i : Nat) : Nat := 0x400302 + 0x10000 * i
/-- TAU_R (Table 5.4) -/
def tauR (i : Nat) : Nat := 0x400303 + 0x10000 * i
/-- ID_MAG (Table 5.4) -/
def idMag (i : Nat) : Nat := 0x400304 + 0x10000 * i
/-- CUR_BW (Table 5.5) -/
def curBw (i : Nat) : Nat := 0x404001 + 0x10000 * i
/-- FW_MARGIN (Table 5.5) -/
def fwMargin (i : Nat) : Nat := 0x404002 + 0x10000 * i
/-- FW_ID_MAX (Table 5.5) -/
def fwIdMax (i : Nat) : Nat := 0x404003 + 0x10000 * i
/-- DT_COMP_BAND (Table 5.5) -/
def dtCompBand (i : Nat) : Nat := 0x404004 + 0x10000 * i
/-- CONTROL_MODE (Table 5.5) -/
def controlMode (i : Nat) : Nat := 0x404005 + 0x10000 * i
/-- TORQUE_SET (Table 5.5) -/
def torqueSet (i : Nat) : Nat := 0x404006 + 0x10000 * i
/-- SPEED_BW (Table 5.6) -/
def speedBw (i : Nat) : Nat := 0x404101 + 0x10000 * i
/-- INERTIA (Table 5.6) -/
def inertia (i : Nat) : Nat := 0x404102 + 0x10000 * i
/-- POS_BW (Table 5.6) -/
def posBw (i : Nat) : Nat := 0x404103 + 0x10000 * i
/-- STOP_DECEL (Table 5.6) -/
def stopDecel (i : Nat) : Nat := 0x404104 + 0x10000 * i
/-- STOP_SPEED (Table 5.6) -/
def stopSpeed (i : Nat) : Nat := 0x404105 + 0x10000 * i
/-- OBS_BW (Table 5.7) -/
def obsBw (i : Nat) : Nat := 0x404201 + 0x10000 * i
/-- OBS_INNOV_MAX (Table 5.7) -/
def obsInnovMax (i : Nat) : Nat := 0x404202 + 0x10000 * i
/-- OBS_MIN_SPEED (Table 5.7) -/
def obsMinSpeed (i : Nat) : Nat := 0x404203 + 0x10000 * i
/-- RIDE_THROUGH (Table 5.7) -/
def rideThrough (i : Nat) : Nat := 0x404204 + 0x10000 * i
/-- ENC_CHECK_ANGLE (Table 5.7) -/
def encCheckAngle (i : Nat) : Nat := 0x404205 + 0x10000 * i
/-- ENC_CHECK_TIME (Table 5.7) -/
def encCheckTime (i : Nat) : Nat := 0x404206 + 0x10000 * i
/-- OBS_LOSS_RESUME (Table 5.7) -/
def obsLossResume (i : Nat) : Nat := 0x404207 + 0x10000 * i
/-- CATCH_LIMIT (Table 5.11) -/
def catchLimit (i : Nat) : Nat := 0x404301 + 0x10000 * i
/-- CATCH_MEASURE (Table 5.11) -/
def catchMeasure (i : Nat) : Nat := 0x404302 + 0x10000 * i
/-- CATCH_PULSE (Table 5.11) -/
def catchPulse (i : Nat) : Nat := 0x404303 + 0x10000 * i
/-- SEARCH_RATE (Table 5.11) -/
def searchRate (i : Nat) : Nat := 0x404304 + 0x10000 * i
/-- SEARCH_CURRENT (Table 5.11) -/
def searchCurrent (i : Nat) : Nat := 0x404305 + 0x10000 * i
/-- IF_CURRENT (Table 5.11) -/
def ifCurrent (i : Nat) : Nat := 0x404306 + 0x10000 * i
/-- CATCH_TIMEOUT (Table 5.11) -/
def catchTimeout (i : Nat) : Nat := 0x404307 + 0x10000 * i
/-- AXIS_COMMAND (Table 5.15) -/
def axisCommand (i : Nat) : Nat := 0x40C001 + 0x10000 * i
/-- AXIS_STATUS (Table 5.15) -/
def axisStatus (i : Nat) : Nat := 0x40C002 + 0x10000 * i
/-- SPEED_EST (Table 5.15) -/
def speedEst (i : Nat) : Nat := 0x40C003 + 0x10000 * i
/-- TORQUE_NOW (Table 5.15) -/
def torqueNow (i : Nat) : Nat := 0x40C004 + 0x10000 * i
/-- KE_EST (Table 5.15) -/
def keEst (i : Nat) : Nat := 0x40C005 + 0x10000 * i
/-- KE_ACK (Table 5.15) -/
def keAck (i : Nat) : Nat := 0x40C006 + 0x10000 * i
/-- STEP_CURRENT (Table 6.5) -/
def stepCurrent (i : Nat) : Nat := 0x404801 + 0x10000 * i
/-- HOLD_CURRENT (Table 6.5) -/
def holdCurrent (i : Nat) : Nat := 0x404802 + 0x10000 * i
/-- HOLD_DELAY (Table 6.5) -/
def holdDelay (i : Nat) : Nat := 0x404803 + 0x10000 * i
/-- CHOP_HYST (Table 6.5) -/
def chopHyst (i : Nat) : Nat := 0x404804 + 0x10000 * i
/-- CHOP_ADAPT (Table 6.5) -/
def chopAdapt (i : Nat) : Nat := 0x404805 + 0x10000 * i
/-- CHOP_OFFSET_MAX (Table 6.5) -/
def chopOffsetMax (i : Nat) : Nat := 0x404806 + 0x10000 * i
/-- DECAY_MODE (Table 6.6) -/
def decayMode (i : Nat) : Nat := 0x404807 + 0x10000 * i
/-- CHOP_FAST_TIME (Table 6.6) -/
def chopFastTime (i : Nat) : Nat := 0x404808 + 0x10000 * i
/-- CHOP_MIN_TIME (Table 6.6) -/
def chopMinTime (i : Nat) : Nat := 0x404809 + 0x10000 * i
/-- CHOP_DRIVE_MAX (Table 6.6) -/
def chopDriveMax (i : Nat) : Nat := 0x40480A + 0x10000 * i
/-- STEP_SENSE (Table 6.6) -/
def stepSense (i : Nat) : Nat := 0x40480B + 0x10000 * i
/-- STEP_TABLE (Table 6.7) -/
def stepTable (i : Nat) : Nat := 0x404901 + 0x10000 * i
/-- STEP_POWER (Table 6.7) -/
def stepPower (i : Nat) : Nat := 0x404902 + 0x10000 * i
/-- STEP_ALIGN_TIME (Table 6.7) -/
def stepAlignTime (i : Nat) : Nat := 0x404903 + 0x10000 * i
/-- STALL_ANGLE (Table 6.7) -/
def stallAngle (i : Nat) : Nat := 0x404A01 + 0x10000 * i
/-- STALL_RATIO (Table 6.7) -/
def stallRatio (i : Nat) : Nat := 0x404A02 + 0x10000 * i
/-- STALL_MIN_SPEED (Table 6.7) -/
def stallMinSpeed (i : Nat) : Nat := 0x404A03 + 0x10000 * i
/-- STALL_ACTION (Table 6.7) -/
def stallAction (i : Nat) : Nat := 0x404A04 + 0x10000 * i
/-- STEP_TABLE_DATA (Table 6.8) -/
def stepTableData (i : Nat) : Nat := 0x5F0001 + 0x1000 * i
/-- STEP_TABLE_COMMIT (Table 6.8) -/
def stepTableCommit (i : Nat) : Nat := 0x5F0002 + 0x1000 * i
/-- STEP_TABLE_STATUS (Table 6.8) -/
def stepTableStatus (i : Nat) : Nat := 0x5F0003 + 0x1000 * i
/-- STEP_TABLE_RESTORE (Table 6.8) -/
def stepTableRestore (i : Nat) : Nat := 0x5F0004 + 0x1000 * i
/-- STEP_TABLE_CRC (Table 6.8) -/
def stepTableCrc (i : Nat) : Nat := 0x5F0005 + 0x1000 * i
/-- ACTIVE_TABLE_CRC (Table 6.8) -/
def activeTableCrc (i : Nat) : Nat := 0x5F0006 + 0x1000 * i
/-- STEP_STATUS (Table 6.10) -/
def stepStatus (i : Nat) : Nat := 0x40C401 + 0x10000 * i
/-- CHOP_OFFSET_A (Table 6.10) -/
def chopOffsetA (i : Nat) : Nat := 0x40C402 + 0x10000 * i
/-- CHOP_OFFSET_B (Table 6.10) -/
def chopOffsetB (i : Nat) : Nat := 0x40C403 + 0x10000 * i
/-- TARGET_POS (Table 7.2) -/
def targetPos (i : Nat) : Nat := 0x408001 + 0x10000 * i
/-- VELOCITY_SET (Table 7.2) -/
def velocitySet (i : Nat) : Nat := 0x408002 + 0x10000 * i
/-- MOVE_MODE (Table 7.2) -/
def moveMode (i : Nat) : Nat := 0x408003 + 0x10000 * i
/-- STAGED_TARGET (Table 7.2) -/
def stagedTarget (i : Nat) : Nat := 0x408004 + 0x10000 * i
/-- TRIGGER_UNIT (Table 7.2) -/
def triggerUnit (i : Nat) : Nat := 0x408005 + 0x10000 * i
/-- PROFILE_SPEED (Table 7.3) -/
def profileSpeed (i : Nat) : Nat := 0x408101 + 0x10000 * i
/-- PROFILE_ACCEL (Table 7.3) -/
def profileAccel (i : Nat) : Nat := 0x408102 + 0x10000 * i
/-- PROFILE_DECEL (Table 7.3) -/
def profileDecel (i : Nat) : Nat := 0x408103 + 0x10000 * i
/-- PROFILE_JERK (Table 7.3) -/
def profileJerk (i : Nat) : Nat := 0x408104 + 0x10000 * i
/-- LIMIT_MIN (Table 7.4) -/
def limitMin (i : Nat) : Nat := 0x408201 + 0x10000 * i
/-- LIMIT_MAX (Table 7.4) -/
def limitMax (i : Nat) : Nat := 0x408202 + 0x10000 * i
/-- FOLLOW_MAX (Table 7.4) -/
def followMax (i : Nat) : Nat := 0x408203 + 0x10000 * i
/-- FOLLOW_ACTION (Table 7.4) -/
def followAction (i : Nat) : Nat := 0x408204 + 0x10000 * i
/-- PROFILE_STATUS (Table 7.5) -/
def profileStatus (i : Nat) : Nat := 0x408301 + 0x10000 * i
/-- PROFILE_POS (Table 7.5) -/
def profilePos (i : Nat) : Nat := 0x408302 + 0x10000 * i
/-- PROFILE_POS_RAW (Table 7.5) -/
def profilePosRaw (i : Nat) : Nat := 0x408303 + 0x10000 * i
/-- PROFILE_VEL_RAW (Table 7.5) -/
def profileVelRaw (i : Nat) : Nat := 0x408304 + 0x10000 * i
/-- SWITCHBACK_COUNT (Table 7.5) -/
def switchbackCount (i : Nat) : Nat := 0x408305 + 0x10000 * i
/-- OVERSHOOT_DIST (Table 7.5) -/
def overshootDist (i : Nat) : Nat := 0x408306 + 0x10000 * i
/-- HOME_OFFSET_NOW (Table 7.5) -/
def homeOffsetNow (i : Nat) : Nat := 0x408307 + 0x10000 * i
/-- CMP_ENABLE (Table 7.8) -/
def cmpEnable (i : Nat) : Nat := 0x5C0001 + 0x1000 * i
/-- CMP_SOURCE (Table 7.8) -/
def cmpSource (i : Nat) : Nat := 0x5C0002 + 0x1000 * i
/-- CMP_POSITION (Table 7.8) -/
def cmpPosition (i : Nat) : Nat := 0x5C0003 + 0x1000 * i
/-- CMP_DIRECTION (Table 7.8) -/
def cmpDirection (i : Nat) : Nat := 0x5C0004 + 0x1000 * i
/-- CMP_MODE (Table 7.8) -/
def cmpMode (i : Nat) : Nat := 0x5C0005 + 0x1000 * i
/-- CMP_INTERVAL (Table 7.8) -/
def cmpInterval (i : Nat) : Nat := 0x5C0006 + 0x1000 * i
/-- CMP_ACTION (Table 7.8) -/
def cmpAction (i : Nat) : Nat := 0x5C0007 + 0x1000 * i
/-- CMP_OUTPUT (Table 7.9) -/
def cmpOutput (i : Nat) : Nat := 0x5C0008 + 0x1000 * i
/-- CMP_PULSE (Table 7.9) -/
def cmpPulse (i : Nat) : Nat := 0x5C0009 + 0x1000 * i
/-- CMP_STATUS (Table 7.9) -/
def cmpStatus (i : Nat) : Nat := 0x5C0101 + 0x1000 * i
/-- CMP_FIRE_COUNT (Table 7.9) -/
def cmpFireCount (i : Nat) : Nat := 0x5C0102 + 0x1000 * i
/-- CMP_FIRE_TIME (Table 7.9) -/
def cmpFireTime (i : Nat) : Nat := 0x5C0103 + 0x1000 * i
/-- CMP_MISSED_COUNT (Table 7.9) -/
def cmpMissedCount (i : Nat) : Nat := 0x5C0104 + 0x1000 * i
/-- HOME_METHOD (Table 7.12) -/
def homeMethod (i : Nat) : Nat := 0x408401 + 0x10000 * i
/-- HOME_DIR (Table 7.12) -/
def homeDir (i : Nat) : Nat := 0x408402 + 0x10000 * i
/-- HOME_SPEED (Table 7.12) -/
def homeSpeed (i : Nat) : Nat := 0x408403 + 0x10000 * i
/-- HOME_SPEED_SLOW (Table 7.12) -/
def homeSpeedSlow (i : Nat) : Nat := 0x408404 + 0x10000 * i
/-- HOME_POSITION (Table 7.12) -/
def homePosition (i : Nat) : Nat := 0x408405 + 0x10000 * i
/-- HOME_BACKOFF (Table 7.12) -/
def homeBackoff (i : Nat) : Nat := 0x408406 + 0x10000 * i
/-- HOME_DISTANCE (Table 7.12) -/
def homeDistance (i : Nat) : Nat := 0x408407 + 0x10000 * i
/-- HOME_SWITCH (Table 7.13) -/
def homeSwitch (i : Nat) : Nat := 0x408501 + 0x10000 * i
/-- HOME_EDGE (Table 7.13) -/
def homeEdge (i : Nat) : Nat := 0x408502 + 0x10000 * i
/-- HOME_TORQUE (Table 7.13) -/
def homeTorque (i : Nat) : Nat := 0x408503 + 0x10000 * i
/-- HOME_STALL_TIME (Table 7.13) -/
def homeStallTime (i : Nat) : Nat := 0x408504 + 0x10000 * i
/-- HOME_RETURN (Table 7.13) -/
def homeReturn (i : Nat) : Nat := 0x408505 + 0x10000 * i
/-- HOME_COMMAND (Table 7.13) -/
def homeCommand (i : Nat) : Nat := 0x408506 + 0x10000 * i
/-- GROUP_NUMBER (Table 8.2) -/
def groupNumber (i : Nat) : Nat := 0x610001 + 0x1000 * i
/-- GROUP_PORT (Table 8.2) -/
def groupPort (i : Nat) : Nat := 0x610002 + 0x1000 * i
/-- GROUP_RATE (Table 8.2) -/
def groupRate (i : Nat) : Nat := 0x610003 + 0x1000 * i
/-- GROUP_MODE (Table 8.2) -/
def groupMode (i : Nat) : Nat := 0x610004 + 0x1000 * i
/-- GROUP_TORQUE_SET (Table 8.2) -/
def groupTorqueSet (i : Nat) : Nat := 0x610005 + 0x1000 * i
/-- GROUP_INERTIA (Table 8.2) -/
def groupInertia (i : Nat) : Nat := 0x610006 + 0x1000 * i
/-- GROUP_SPEED_BW (Table 8.2) -/
def groupSpeedBw (i : Nat) : Nat := 0x610007 + 0x1000 * i
/-- GROUP_POS_BW (Table 8.2) -/
def groupPosBw (i : Nat) : Nat := 0x610008 + 0x1000 * i
/-- GROUP_COUNTS_PER_REV (Table 8.2) -/
def groupCountsPerRev (i : Nat) : Nat := 0x610009 + 0x1000 * i
/-- MEMBER_ENTRY (Table 8.5) -/
def memberEntry (i k : Nat) : Nat := 0x610101 + 0x1000 * i + k
/-- GROUP_CHECK (Table 8.5) -/
def groupCheck (i : Nat) : Nat := 0x610201 + 0x1000 * i
/-- GROUP_SLOT (Table 8.6) -/
def groupSlot (i : Nat) : Nat := 0x40D001 + 0x10000 * i
/-- MEMBER_RATIO (Table 8.6) -/
def memberRatio (i : Nat) : Nat := 0x40D002 + 0x10000 * i
/-- DROOP_GAIN (Table 8.6) -/
def droopGain (i : Nat) : Nat := 0x40D003 + 0x10000 * i
/-- ISOLATED_MAX (Table 8.6) -/
def isolatedMax (i : Nat) : Nat := 0x40D004 + 0x10000 * i
/-- SHARE_STATUS (Table 8.7) -/
def shareStatus (i : Nat) : Nat := 0x40D801 + 0x10000 * i
/-- SHARE_NOW (Table 8.7) -/
def shareNow (i : Nat) : Nat := 0x40D802 + 0x10000 * i
/-- T_GROUP (Table 8.7) -/
def tGroup (i : Nat) : Nat := 0x40D803 + 0x10000 * i
/-- CAP_NOW (Table 8.7) -/
def capNow (i : Nat) : Nat := 0x40D804 + 0x10000 * i
/-- BUDGET_SOURCE (Table 8.12) -/
def budgetSource : Nat := 0x600001
/-- POWER_BUDGET (Table 8.12) -/
def powerBudget : Nat := 0x600002
/-- BUDGET_TIMEOUT (Table 8.12) -/
def budgetTimeout : Nat := 0x600003
/-- BUDGET_FALLBACK (Table 8.12) -/
def budgetFallback : Nat := 0x600004
/-- BUDGET_RISE (Table 8.12) -/
def budgetRise : Nat := 0x600005
/-- POWER_QUANTUM (Table 8.12) -/
def powerQuantum : Nat := 0x600006
/-- FREQ_SOURCE (Table 8.13) -/
def freqSource : Nat := 0x600101
/-- SHIP_FREQ (Table 8.13) -/
def shipFreq : Nat := 0x600102
/-- FREQ_TIMEOUT (Table 8.13) -/
def freqTimeout : Nat := 0x600103
/-- FREQ_NOM (Table 8.13) -/
def freqNom : Nat := 0x600104
/-- FREQ_DEADBAND (Table 8.13) -/
def freqDeadband : Nat := 0x600105
/-- FREQ_SPAN (Table 8.13) -/
def freqSpan : Nat := 0x600106
/-- FREQ_MIN_FACTOR (Table 8.13) -/
def freqMinFactor : Nat := 0x600107
/-- DEFER_LIMIT_HOLD (Table 8.14) -/
def deferLimitHold : Nat := 0x600201
/-- DEFER_LIMIT_WORK (Table 8.14) -/
def deferLimitWork : Nat := 0x600202
/-- DEFER_LIMIT_AUX (Table 8.14) -/
def deferLimitAux : Nat := 0x600203
/-- ARBITER_STATUS (Table 8.14) -/
def arbiterStatus : Nat := 0x600801
/-- BUDGET_EFFECTIVE (Table 8.14) -/
def budgetEffective : Nat := 0x600802
/-- STOP_DEMAND (Table 8.14) -/
def stopDemand : Nat := 0x600803
/-- POWER_CLASS (Table 8.16) -/
def powerClass (i : Nat) : Nat := 0x40E001 + 0x10000 * i
/-- POWER_REQUEST (Table 8.16) -/
def powerRequest (i : Nat) : Nat := 0x40E002 + 0x10000 * i
/-- POWER_RATED (Table 8.16) -/
def powerRated (i : Nat) : Nat := 0x40E003 + 0x10000 * i
/-- GRANT_WORD (Table 8.16) -/
def grantWord (i : Nat) : Nat := 0x601001 + 0x100 * i
/-- GRANT_POWER (Table 8.16) -/
def grantPower (i : Nat) : Nat := 0x601002 + 0x100 * i
/-- DEMAND_NOW (Table 8.16) -/
def demandNow (i : Nat) : Nat := 0x601003 + 0x100 * i
/-- CAN_STATUS (Table 9.11) -/
def canStatus (i : Nat) : Nat := 0x130001 + 0x4000 * i
/-- TDC_MEASURED (Table 9.11) -/
def tdcMeasured (i : Nat) : Nat := 0x130002 + 0x4000 * i
/-- RX_DISCARD_COUNT (Table 9.11) -/
def rxDiscardCount (i : Nat) : Nat := 0x130003 + 0x4000 * i
/-- RX_OVERRUN_COUNT (Table 9.11) -/
def rxOverrunCount (i : Nat) : Nat := 0x130004 + 0x4000 * i
/-- CAN_TX_PENDING (Table 9.11) -/
def canTxPending (i : Nat) : Nat := 0x130005 + 0x4000 * i
/-- CAN_MODE (Table 9.13) -/
def canMode (i : Nat) : Nat := 0x130101 + 0x4000 * i
/-- CAN_TERM (Table 9.13) -/
def canTerm (i : Nat) : Nat := 0x130102 + 0x4000 * i
/-- BUSOFF_RECOVERY (Table 9.13) -/
def busoffRecovery (i : Nat) : Nat := 0x130103 + 0x4000 * i
/-- CAN_RELEASE (Table 9.13) -/
def canRelease (i : Nat) : Nat := 0x130104 + 0x4000 * i
/-- CAN_ABORT (Table 9.13) -/
def canAbort (i : Nat) : Nat := 0x130105 + 0x4000 * i
/-- CAN_REINSTATE (Table 9.13) -/
def canReinstate (i : Nat) : Nat := 0x130106 + 0x4000 * i
/-- NOM_PRESC (Table 9.14) -/
def nomPresc (i : Nat) : Nat := 0x130201 + 0x4000 * i
/-- NOM_PROP (Table 9.14) -/
def nomProp (i : Nat) : Nat := 0x130202 + 0x4000 * i
/-- NOM_PHASE1 (Table 9.14) -/
def nomPhase1 (i : Nat) : Nat := 0x130203 + 0x4000 * i
/-- NOM_PHASE2 (Table 9.14) -/
def nomPhase2 (i : Nat) : Nat := 0x130204 + 0x4000 * i
/-- NOM_SJW (Table 9.14) -/
def nomSjw (i : Nat) : Nat := 0x130205 + 0x4000 * i
/-- DATA_PRESC (Table 9.15) -/
def dataPresc (i : Nat) : Nat := 0x130301 + 0x4000 * i
/-- DATA_PROP (Table 9.15) -/
def dataProp (i : Nat) : Nat := 0x130302 + 0x4000 * i
/-- DATA_PHASE1 (Table 9.15) -/
def dataPhase1 (i : Nat) : Nat := 0x130303 + 0x4000 * i
/-- DATA_PHASE2 (Table 9.15) -/
def dataPhase2 (i : Nat) : Nat := 0x130304 + 0x4000 * i
/-- DATA_SJW (Table 9.15) -/
def dataSjw (i : Nat) : Nat := 0x130305 + 0x4000 * i
/-- TDC_MODE (Table 9.15) -/
def tdcMode (i : Nat) : Nat := 0x130306 + 0x4000 * i
/-- TDC_OFFSET (Table 9.15) -/
def tdcOffset (i : Nat) : Nat := 0x130307 + 0x4000 * i
/-- CAN_RETIRE_COUNT (Table 9.16) -/
def canRetireCount : Nat := 0x138001
/-- CAN_RETIRE_WINDOW (Table 9.16) -/
def canRetireWindow : Nat := 0x138002
/-- CAN_SESSION_IDLE (Table 9.16) -/
def canSessionIdle : Nat := 0x138003
/-- CAN_CLASS_COUNTS (Table 9.16) -/
def canClassCounts : Nat := 0x138004
/-- SEGMENT (Table 10.13) -/
def segment : Nat := 0x120001
/-- NODE (Table 10.13) -/
def node : Nat := 0x120002
/-- ORHAM_ETHERTYPE (Table 10.13) -/
def orhamEthertype : Nat := 0x120003
/-- ORHAM_VID (Table 10.13) -/
def orhamVid : Nat := 0x120004
/-- ETH_MAC (Table 10.13) -/
def ethMac : Nat := 0x120005
/-- DICT_DESCRIPTION (Table 10.13) -/
def dictDescription : Nat := 0x101001
/-- ETH_STATUS (Table 10.14) -/
def ethStatus (i : Nat) : Nat := 0x121001 + 0x800 * i
/-- ETH_SPEED (Table 10.14) -/
def ethSpeed (i : Nat) : Nat := 0x121002 + 0x800 * i
/-- ETH_EXPECT_LINK (Table 10.14) -/
def ethExpectLink (i : Nat) : Nat := 0x121003 + 0x800 * i
/-- ETH_REINSTATE (Table 10.14) -/
def ethReinstate (i : Nat) : Nat := 0x121004 + 0x800 * i
/-- RX_POLICED_COUNT (Table 10.14) -/
def rxPolicedCount (i : Nat) : Nat := 0x121005 + 0x800 * i
/-- END_CHECK_FAIL_COUNT (Table 10.14) -/
def endCheckFailCount (i : Nat) : Nat := 0x121006 + 0x800 * i
/-- BAD_FORM_COUNT (Table 10.14) -/
def badFormCount (i : Nat) : Nat := 0x121007 + 0x800 * i
/-- PTP_ROLE (Table 10.16) -/
def ptpRole : Nat := 0x122001
/-- PTP_TC (Table 10.16) -/
def ptpTc : Nat := 0x122002
/-- PTP_DOMAIN (Table 10.16) -/
def ptpDomain : Nat := 0x122003
/-- PTP_OFFSET (Table 10.16) -/
def ptpOffset : Nat := 0x122004
/-- PORT_MAX_LEVEL (Table 10.16) -/
def portMaxLevel (k : Nat) : Nat := 0x123001 + k
/-- SESSION_IDLE (Table 10.16) -/
def sessionIdle : Nat := 0x123101
/-- ORHAM_RX_LIMIT (Table 10.16) -/
def orhamRxLimit : Nat := 0x123102
/-- SESSION_LEVEL (Table 10.17) -/
def sessionLevel : Nat := 0x123801
/-- SESSION_CREDENTIAL (Table 10.17) -/
def sessionCredential : Nat := 0x123802
/-- ETH_RETIRE_COUNT (Table 10.17) -/
def ethRetireCount : Nat := 0x125001
/-- ETH_RETIRE_WINDOW (Table 10.17) -/
def ethRetireWindow : Nat := 0x125002
/-- EVENT_DEST (Table 10.17) -/
def eventDest : Nat := 0x124001
/-- EVENT_REPEAT (Table 10.17) -/
def eventRepeat : Nat := 0x124002
/-- CYC_ENABLE (Table 10.18) -/
def cycEnable (i : Nat) : Nat := 0x150001 + 0x100 * i
/-- CYC_DIR (Table 10.18) -/
def cycDir (i : Nat) : Nat := 0x150002 + 0x100 * i
/-- CYC_PERIOD (Table 10.18) -/
def cycPeriod (i : Nat) : Nat := 0x150003 + 0x100 * i
/-- CYC_PHASE (Table 10.18) -/
def cycPhase (i : Nat) : Nat := 0x150004 + 0x100 * i
/-- CYC_PEER (Table 10.18) -/
def cycPeer (i : Nat) : Nat := 0x150005 + 0x100 * i
/-- CYC_PEER_FRAME (Table 10.18) -/
def cycPeerFrame (i : Nat) : Nat := 0x150006 + 0x100 * i
/-- CYC_WATCHDOG (Table 10.18) -/
def cycWatchdog (i : Nat) : Nat := 0x150007 + 0x100 * i
/-- WATCHDOG_ACTION (Table 10.18) -/
def watchdogAction (i : Nat) : Nat := 0x150008 + 0x100 * i
/-- EVENT_HEAD (Table 10.19) -/
def eventHead : Nat := 0xA00001
/-- ANNOUNCED_UNREAD (Table 10.19) -/
def announcedUnread : Nat := 0xA00002
/-- EVENT_LOST (Table 10.19) -/
def eventLost : Nat := 0xA00003
/-- EVENT_ACK_ALL (Table 10.19) -/
def eventAckAll : Nat := 0xA00004
/-- EVENT_CODE (Table 10.19) -/
def eventCode (i : Nat) : Nat := 0xA01001 + 0x100 * i
/-- EVENT_INSTANCE (Table 10.19) -/
def eventInstance (i : Nat) : Nat := 0xA01002 + 0x100 * i
/-- EVENT_TIME (Table 10.19) -/
def eventTime (i : Nat) : Nat := 0xA01003 + 0x100 * i
/-- SAFETY_STATUS (Table 11.6) -/
def safetyStatus : Nat := 0x700001
/-- LOCKOUT_STATUS (Table 11.6) -/
def lockoutStatus : Nat := 0x700002
/-- SI_FUNCTION (Table 11.8) -/
def siFunction (i : Nat) : Nat := 0x710001 + 0x800 * i
/-- SI_AXES (Table 11.8) -/
def siAxes (i : Nat) : Nat := 0x710002 + 0x800 * i
/-- SI_FILTER (Table 11.8) -/
def siFilter (i : Nat) : Nat := 0x710003 + 0x800 * i
/-- SI_DISCREPANCY (Table 11.8) -/
def siDiscrepancy (i : Nat) : Nat := 0x710004 + 0x800 * i
/-- SI_STATUS (Table 11.8) -/
def siStatus (i : Nat) : Nat := 0x710005 + 0x800 * i
/-- SS1_MODE (Table 11.10) -/
def ss1Mode (i : Nat) : Nat := 0x720001 + 0x1000 * i
/-- SS1_TIME (Table 11.10) -/
def ss1Time (i : Nat) : Nat := 0x720002 + 0x1000 * i
/-- SS1_MON_DECEL (Table 11.10) -/
def ss1MonDecel (i : Nat) : Nat := 0x720003 + 0x1000 * i
/-- SS1_MON_DELAY (Table 11.10) -/
def ss1MonDelay (i : Nat) : Nat := 0x720004 + 0x1000 * i
/-- SS1_STANDSTILL (Table 11.10) -/
def ss1Standstill (i : Nat) : Nat := 0x720005 + 0x1000 * i
/-- SS1_BRAKE_SPEED (Table 11.10) -/
def ss1BrakeSpeed (i : Nat) : Nat := 0x720006 + 0x1000 * i
/-- SLS_LIMIT (Table 11.11) -/
def slsLimit (i : Nat) : Nat := 0x720007 + 0x1000 * i
/-- SLS_RAMP_TIME (Table 11.11) -/
def slsRampTime (i : Nat) : Nat := 0x720008 + 0x1000 * i
/-- SDI_TOL (Table 11.11) -/
def sdiTol (i : Nat) : Nat := 0x720009 + 0x1000 * i
/-- SAFE_SRC1 (Table 11.11) -/
def safeSrc1 (i : Nat) : Nat := 0x72000A + 0x1000 * i
/-- SAFE_SRC2 (Table 11.11) -/
def safeSrc2 (i : Nat) : Nat := 0x72000B + 0x1000 * i
/-- SAFE_SRC2_RATIO (Table 11.11) -/
def safeSrc2Ratio (i : Nat) : Nat := 0x72000C + 0x1000 * i
/-- SAFE_SPEED_TOL (Table 11.11) -/
def safeSpeedTol (i : Nat) : Nat := 0x72000D + 0x1000 * i
/-- SAFE_SPEED_WINDOW (Table 11.11) -/
def safeSpeedWindow (i : Nat) : Nat := 0x72000E + 0x1000 * i
/-- VIOLATION_STOP (Table 11.11) -/
def violationStop (i : Nat) : Nat := 0x72000F + 0x1000 * i
/-- AXIS_SAFE_STATUS (Table 11.12) -/
def axisSafeStatus (i : Nat) : Nat := 0x720101 + 0x1000 * i
/-- SAFE_SPEED (Table 11.12) -/
def safeSpeed (i : Nat) : Nat := 0x720102 + 0x1000 * i
/-- SBC_AXIS (Table 11.14) -/
def sbcAxis (i : Nat) : Nat := 0x740001 + 0x800 * i
/-- SBC_WITH_STO (Table 11.14) -/
def sbcWithSto (i : Nat) : Nat := 0x740002 + 0x800 * i
/-- TEST_PERIOD (Table 11.14) -/
def testPeriod (i : Nat) : Nat := 0x740003 + 0x800 * i
/-- TEST_WIDTH (Table 11.14) -/
def testWidth (i : Nat) : Nat := 0x740004 + 0x800 * i
/-- BRAKE_RELEASE_TIME (Table 11.14) -/
def brakeReleaseTime (i : Nat) : Nat := 0x740005 + 0x800 * i
/-- BRAKE_CMD (Table 11.14) -/
def brakeCmd (i : Nat) : Nat := 0x740006 + 0x800 * i
/-- SBC_STATUS (Table 11.14) -/
def sbcStatus (i : Nat) : Nat := 0x740007 + 0x800 * i
/-- THODAR_MEDIUM (Table 12.8) -/
def thodarMedium (i : Nat) : Nat := 0x760001 + 0x1000 * i
/-- THODAR_PEER (Table 12.8) -/
def thodarPeer (i : Nat) : Nat := 0x760002 + 0x1000 * i
/-- ID_IN (Table 12.8) -/
def idIn (i : Nat) : Nat := 0x760003 + 0x1000 * i
/-- ID_OUT (Table 12.8) -/
def idOut (i : Nat) : Nat := 0x760004 + 0x1000 * i
/-- THODAR_WATCHDOG (Table 12.9) -/
def thodarWatchdog (i : Nat) : Nat := 0x760005 + 0x1000 * i
/-- THODAR_LEN (Table 12.9) -/
def thodarLen (i : Nat) : Nat := 0x760006 + 0x1000 * i
/-- THODAR_STATUS_PERIOD (Table 12.9) -/
def thodarStatusPeriod (i : Nat) : Nat := 0x760007 + 0x1000 * i
/-- THODAR_STATUS (Table 12.9) -/
def thodarStatus (i : Nat) : Nat := 0x760008 + 0x1000 * i
/-- THODAR_COUNT (Table 12.11) -/
def thodarCount (i k : Nat) : Nat := 0x760101 + 0x1000 * i + k
/-- VI_FUNCTION (Table 12.11) -/
def viFunction (i : Nat) : Nat := 0x780001 + 0x800 * i
/-- VI_AXES (Table 12.11) -/
def viAxes (i : Nat) : Nat := 0x780002 + 0x800 * i
/-- SAFETY_PASSWORD_NEW (Table 12.12) -/
def safetyPasswordNew : Nat := 0x7F0001
/-- CONFIG_SEAL (Table 12.12) -/
def configSeal : Nat := 0x7F0002
/-- SEAL_STATUS (Table 12.12) -/
def sealStatus : Nat := 0x7F0003
/-- SEAL_CHECK_STAGED (Table 12.12) -/
def sealCheckStaged : Nat := 0x7F0004
/-- SEAL_CHECK_ACTIVE (Table 12.12) -/
def sealCheckActive : Nat := 0x7F0005
/-- CHANGE_LOG (Table 12.12) -/
def changeLog : Nat := 0x7F0006
/-- CHANGE_HEAD (Table 12.12) -/
def changeHead : Nat := 0x7F0007
/-- SVC_OWNER (Table 13.3) -/
def svcOwner (i : Nat) : Nat := 0x40E801 + 0x10000 * i
/-- SVC_ALIVE (Table 13.3) -/
def svcAlive (i : Nat) : Nat := 0x40E802 + 0x10000 * i
/-- SVC_LOSS_ACTION (Table 13.3) -/
def svcLossAction (i : Nat) : Nat := 0x40E803 + 0x10000 * i
/-- THR_AXIS (Table 13.5) -/
def thrAxis (i : Nat) : Nat := 0x800001 + 0x4000 * i
/-- THR_MODE (Table 13.5) -/
def thrMode (i : Nat) : Nat := 0x800002 + 0x4000 * i
/-- THR_CLASS (Table 13.5) -/
def thrClass (i : Nat) : Nat := 0x800003 + 0x4000 * i
/-- THR_SPEED_MAX (Table 13.5) -/
def thrSpeedMax (i : Nat) : Nat := 0x800004 + 0x4000 * i
/-- THR_TORQUE_MAX (Table 13.5) -/
def thrTorqueMax (i : Nat) : Nat := 0x800005 + 0x4000 * i
/-- THR_POWER_MAX (Table 13.5) -/
def thrPowerMax (i : Nat) : Nat := 0x800006 + 0x4000 * i
/-- THR_RAMP (Table 13.5) -/
def thrRamp (i : Nat) : Nat := 0x800007 + 0x4000 * i
/-- THR_ENABLE (Table 13.6) -/
def thrEnable (i : Nat) : Nat := 0x800008 + 0x4000 * i
/-- THR_COMMAND (Table 13.6) -/
def thrCommand (i : Nat) : Nat := 0x800009 + 0x4000 * i
/-- THR_CRASH (Table 13.6) -/
def thrCrash (i : Nat) : Nat := 0x80000A + 0x4000 * i
/-- THR_CRASH_LEVEL (Table 13.6) -/
def thrCrashLevel (i : Nat) : Nat := 0x80000B + 0x4000 * i
/-- THR_CRASH_ACCEL (Table 13.6) -/
def thrCrashAccel (i : Nat) : Nat := 0x80000C + 0x4000 * i
/-- THR_SHED_LEVEL (Table 13.6) -/
def thrShedLevel (i : Nat) : Nat := 0x80000D + 0x4000 * i
/-- THR_SHED_PERCENT (Table 13.6) -/
def thrShedPercent (i : Nat) : Nat := 0x80000E + 0x4000 * i
/-- THR_SHED_FREQ (Table 13.6) -/
def thrShedFreq (i : Nat) : Nat := 0x80000F + 0x4000 * i
/-- WINCH_AXIS (Table 13.8) -/
def winchAxis (i : Nat) : Nat := 0x840001 + 0x4000 * i
/-- DRUM_COUNTS_PER_REV (Table 13.8) -/
def drumCountsPerRev (i : Nat) : Nat := 0x840002 + 0x4000 * i
/-- DRUM_R_FIRST (Table 13.8) -/
def drumRFirst (i : Nat) : Nat := 0x840003 + 0x4000 * i
/-- DRUM_LAYER_PITCH (Table 13.8) -/
def drumLayerPitch (i : Nat) : Nat := 0x840004 + 0x4000 * i
/-- DRUM_TURNS_PER_LAYER (Table 13.8) -/
def drumTurnsPerLayer (i : Nat) : Nat := 0x840005 + 0x4000 * i
/-- DRUM_LAYERS (Table 13.8) -/
def drumLayers (i : Nat) : Nat := 0x840006 + 0x4000 * i
/-- ROPE_LENGTH (Table 13.8) -/
def ropeLength (i : Nat) : Nat := 0x840007 + 0x4000 * i
/-- WINCH_MODE (Table 13.9) -/
def winchMode (i : Nat) : Nat := 0x840008 + 0x4000 * i
/-- ROPE_SPEED_CMD (Table 13.9) -/
def ropeSpeedCmd (i : Nat) : Nat := 0x840009 + 0x4000 * i
/-- TENSION_SET (Table 13.9) -/
def tensionSet (i : Nat) : Nat := 0x84000A + 0x4000 * i
/-- TENSION_SOURCE (Table 13.9) -/
def tensionSource (i : Nat) : Nat := 0x84000B + 0x4000 * i
/-- TENSION_MEAS (Table 13.9) -/
def tensionMeas (i : Nat) : Nat := 0x84000C + 0x4000 * i
/-- TENSION_GAIN (Table 13.9) -/
def tensionGain (i : Nat) : Nat := 0x84000D + 0x4000 * i
/-- CT_SPEED_MAX (Table 13.9) -/
def ctSpeedMax (i : Nat) : Nat := 0x84000E + 0x4000 * i
/-- AHC_HEAVE (Table 13.10) -/
def ahcHeave (i : Nat) : Nat := 0x84000F + 0x4000 * i
/-- AHC_HEAVE_VEL (Table 13.10) -/
def ahcHeaveVel (i : Nat) : Nat := 0x840010 + 0x4000 * i
/-- AHC_REF_TIME (Table 13.10) -/
def ahcRefTime (i : Nat) : Nat := 0x840011 + 0x4000 * i
/-- AHC_LEAD (Table 13.10) -/
def ahcLead (i : Nat) : Nat := 0x840012 + 0x4000 * i
/-- AHC_POS_GAIN (Table 13.10) -/
def ahcPosGain (i : Nat) : Nat := 0x840013 + 0x4000 * i
/-- AHC_FADE (Table 13.10) -/
def ahcFade (i : Nat) : Nat := 0x840014 + 0x4000 * i
/-- WINCH_RELEASE (Table 13.10) -/
def winchRelease (i : Nat) : Nat := 0x840015 + 0x4000 * i
/-- RELEASE_TENSION (Table 13.11) -/
def releaseTension (i : Nat) : Nat := 0x840016 + 0x4000 * i
/-- RELEASE_SPEED (Table 13.11) -/
def releaseSpeed (i : Nat) : Nat := 0x840017 + 0x4000 * i
/-- RELEASE_RESERVE (Table 13.11) -/
def releaseReserve (i : Nat) : Nat := 0x840018 + 0x4000 * i
/-- WINCH_BRAKE (Table 13.11) -/
def winchBrake (i : Nat) : Nat := 0x840019 + 0x4000 * i
/-- SPOOL_AXIS (Table 13.11) -/
def spoolAxis (i : Nat) : Nat := 0x84001A + 0x4000 * i
/-- SPOOL_CMP (Table 13.11) -/
def spoolCmp (i : Nat) : Nat := 0x84001B + 0x4000 * i
/-- SPOOL_FLANGE_A (Table 13.11) -/
def spoolFlangeA (i : Nat) : Nat := 0x84001C + 0x4000 * i
/-- SPOOL_FLANGE_B (Table 13.11) -/
def spoolFlangeB (i : Nat) : Nat := 0x84001D + 0x4000 * i
/-- SPOOL_ENABLE (Table 13.12) -/
def spoolEnable (i : Nat) : Nat := 0x84001E + 0x4000 * i
/-- PAYOUT_SET (Table 13.12) -/
def payoutSet (i : Nat) : Nat := 0x84001F + 0x4000 * i
/-- PAYOUT (Table 13.12) -/
def payout (i : Nat) : Nat := 0x840020 + 0x4000 * i
/-- TENSION_NOW (Table 13.12) -/
def tensionNow (i : Nat) : Nat := 0x840021 + 0x4000 * i
/-- WINCH_STATUS (Table 13.12) -/
def winchStatus (i : Nat) : Nat := 0x840022 + 0x4000 * i
/-- REC_ENABLE (Table 13.15) -/
def recEnable : Nat := 0x880001
/-- REC_POST (Table 13.15) -/
def recPost : Nat := 0x880002
/-- REC_FREEZE (Table 13.15) -/
def recFreeze : Nat := 0x880003
/-- REC_REARM (Table 13.15) -/
def recRearm : Nat := 0x880004
/-- REC_STATUS (Table 13.15) -/
def recStatus : Nat := 0x880005
/-- REC_EXTRACT (Table 13.15) -/
def recExtract : Nat := 0x880006
/-- REC_HISTORY (Table 13.15) -/
def recHistory : Nat := 0x880007
/-- REC_TRIGGER (Table 13.16) -/
def recTrigger (k : Nat) : Nat := 0x880101 + k
/-- REC_SOURCE (Table 13.16) -/
def recSource (i : Nat) : Nat := 0x882001 + 0x100 * i
/-- REC_SCALE (Table 13.16) -/
def recScale (i : Nat) : Nat := 0x882002 + 0x100 * i
/-- REC_OFFSET (Table 13.16) -/
def recOffset (i : Nat) : Nat := 0x882003 + 0x100 * i
/-- TEST_ENABLE (Table 14.4) -/
def testEnable : Nat := 0x900001
/-- TEST_STATUS (Table 14.4) -/
def testStatus : Nat := 0x900002
/-- TEST_RERUN (Table 14.4) -/
def testRerun : Nat := 0x900003
/-- TEST_CTRL (Table 14.4) -/
def testCtrl : Nat := 0x900004
/-- BSCAN_ENABLE (Table 14.4) -/
def bscanEnable : Nat := 0x900005
/-- TEST_CYCLE_TARGET (Table 14.6) -/
def testCycleTarget (t : Nat) : Nat := 0x901001 + 0x100 * t
/-- COVERAGE (Table 14.6) -/
def coverage (t : Nat) : Nat := 0x901002 + 0x100 * t
/-- SLICES_PER_CYCLE (Table 14.6) -/
def slicesPerCycle (t : Nat) : Nat := 0x901003 + 0x100 * t
/-- SLICE_RESULT (Table 14.6) -/
def sliceResult (t i : Nat) : Nat := 0x904001 + 0x100 * t + i
/-- FULL_CYCLE_LAST (Table 14.6) -/
def fullCycleLast (t i : Nat) : Nat := 0x906001 + 0x100 * t + i
/-- ABORT_COUNT (Table 14.6) -/
def abortCount (t i : Nat) : Nat := 0x908001 + 0x100 * t + i
/-- POWER_MODE (Table 15.8) -/
def powerMode : Nat := 0x110001
/-- DOMAIN_STATUS (Table 15.8) -/
def domainStatus : Nat := 0x110002
/-- DOMAIN_CTRL (Table 15.8) -/
def domainCtrl : Nat := 0x110003
/-- POWER_CONFIG (Table 15.8) -/
def powerConfig : Nat := 0x110004
/-- SUPPLY_NOW (Table 15.10) -/
def supplyNow : Nat := 0x110005
/-- VKEEP_NOW (Table 15.10) -/
def vkeepNow : Nat := 0x110006
/-- LAST_START (Table 15.10) -/
def lastStart : Nat := 0x110007
/-- RTC_TIME (Table 15.10) -/
def rtcTime : Nat := 0x110008
/-- LC_STATE (Table 15.11) -/
def lcState : Nat := 0x102001
/-- LC_NONCE (Table 15.11) -/
def lcNonce : Nat := 0x102002
/-- LC_CONSENT (Table 15.11) -/
def lcConsent : Nat := 0x102003
/-- LC_TOKEN (Table 15.11) -/
def lcToken : Nat := 0x102004
/-- LC_ADVANCE (Table 15.11) -/
def lcAdvance : Nat := 0x102005
/-- FW_IMAGE (Table 15.12) -/
def fwImage (i : Nat) : Nat := 0x911001 + 0x100 * i
/-- FW_ACTIVATE (Table 15.12) -/
def fwActivate (i : Nat) : Nat := 0x911002 + 0x100 * i
/-- FW_STATUS (Table 15.12) -/
def fwStatus (i : Nat) : Nat := 0x911003 + 0x100 * i
/-- FW_VERSION_A (Table 15.12) -/
def fwVersionA (i : Nat) : Nat := 0x911004 + 0x100 * i
/-- FW_VERSION_B (Table 15.12) -/
def fwVersionB (i : Nat) : Nat := 0x911005 + 0x100 * i
/-- BASEPLATE_TEMP (Table 16.3) -/
def baseplateTemp : Nat := 0x110009
/-- THR_STATUS (Table 13.7) -/
def thrStatus (i : Nat) : Nat := 0x800010 + 0x4000 * i
/-- ENDPOINT_ENTRY (Table 10.18) -/
def endpointEntry (i k : Nat) : Nat := 0x140001 + 0x100 * i + k
/-- MAP_ENTRY (Table 10.18) -/
def mapEntry (i k : Nat) : Nat := 0x160001 + 0x100 * i + k
end O

end Sys2Proof.Machine
end

