-- ==== Sys2Proof/Machine/SineTable.lean ====
section
/-! DEFINITION. The factory microstep table: table[k] = round(2,047 × sin(2πk / 1,024)) (R218), written out for the
first quarter and continued by the symmetry of the sine. -/

namespace Sys2Proof.Machine

/-- round(2,047 × sin(2πk / 1,024)) for k = 0 to 31. -/
def sineQuarter0 : List Int :=
  [0, 13, 25, 38, 50, 63, 75, 88, 100, 113, 126, 138, 151, 163, 176, 188, 201, 213, 226, 238, 251, 263, 275, 288, 300, 313, 325, 338, 350, 362, 375, 387]

/-- round(2,047 × sin(2πk / 1,024)) for k = 32 to 63. -/
def sineQuarter1 : List Int :=
  [399, 412, 424, 436, 449, 461, 473, 485, 497, 510, 522, 534, 546, 558, 570, 582, 594, 606, 618, 630, 642, 654, 666, 678, 690, 701, 713, 725, 737, 748, 760, 772]

/-- round(2,047 × sin(2πk / 1,024)) for k = 64 to 95. -/
def sineQuarter2 : List Int :=
  [783, 795, 807, 818, 830, 841, 852, 864, 875, 887, 898, 909, 920, 932, 943, 954, 965, 976, 987, 998, 1009, 1020, 1031, 1042, 1052, 1063, 1074, 1085, 1095, 1106, 1116, 1127]

/-- round(2,047 × sin(2πk / 1,024)) for k = 96 to 127. -/
def sineQuarter3 : List Int :=
  [1137, 1148, 1158, 1168, 1179, 1189, 1199, 1209, 1219, 1229, 1239, 1249, 1259, 1269, 1279, 1289, 1299, 1308, 1318, 1328, 1337, 1347, 1356, 1365, 1375, 1384, 1393, 1402, 1411, 1421, 1430, 1439]

/-- round(2,047 × sin(2πk / 1,024)) for k = 128 to 159. -/
def sineQuarter4 : List Int :=
  [1447, 1456, 1465, 1474, 1483, 1491, 1500, 1508, 1517, 1525, 1533, 1542, 1550, 1558, 1566, 1574, 1582, 1590, 1598, 1606, 1614, 1621, 1629, 1637, 1644, 1652, 1659, 1666, 1674, 1681, 1688, 1695]

/-- round(2,047 × sin(2πk / 1,024)) for k = 160 to 191. -/
def sineQuarter5 : List Int :=
  [1702, 1709, 1716, 1723, 1729, 1736, 1743, 1749, 1756, 1762, 1769, 1775, 1781, 1787, 1793, 1799, 1805, 1811, 1817, 1823, 1828, 1834, 1840, 1845, 1850, 1856, 1861, 1866, 1871, 1876, 1881, 1886]

/-- round(2,047 × sin(2πk / 1,024)) for k = 192 to 223. -/
def sineQuarter6 : List Int :=
  [1891, 1896, 1901, 1905, 1910, 1914, 1919, 1923, 1927, 1932, 1936, 1940, 1944, 1948, 1951, 1955, 1959, 1962, 1966, 1969, 1973, 1976, 1979, 1983, 1986, 1989, 1992, 1994, 1997, 2000, 2003, 2005]

/-- round(2,047 × sin(2πk / 1,024)) for k = 224 to 255. -/
def sineQuarter7 : List Int :=
  [2008, 2010, 2012, 2015, 2017, 2019, 2021, 2023, 2025, 2027, 2028, 2030, 2032, 2033, 2035, 2036, 2037, 2038, 2039, 2040, 2041, 2042, 2043, 2044, 2045, 2045, 2046, 2046, 2046, 2047, 2047, 2047]

/-- round(2,047 × sin(2πk / 1,024)) for k = 256 to 256. -/
def sineQuarter8 : List Int :=
  [2047]

/-- The first quarter of the factory table, k = 0 to 256. -/
def sineQuarter : List Int :=
  sineQuarter0 ++ sineQuarter1 ++ sineQuarter2 ++ sineQuarter3 ++ sineQuarter4 ++ sineQuarter5 ++ sineQuarter6 ++ sineQuarter7 ++ sineQuarter8

/-- Entry k of the factory table (R218). -/
def factoryEntry (k : Nat) : Int :=
  let k := k % 1024
  let r := k % 512
  let q := if r ≤ 256 then r else 512 - r
  let v := sineQuarter.getD q 0
  if k < 512 then v else -v

/-- A 16-bit two's-complement value as two bytes, least significant first (R9). -/
def entryBytes (v : Int) : List Byte :=
  let n := (v % 0x10000).toNat
  [BitVec.ofNat 8 n, BitVec.ofNat 8 (n / 256)]

/-- The factory table as the 2,048 bytes of STEP_TABLE_DATA (R218, R219). -/
def factoryBytes : List Byte := (List.range 1024).flatMap fun k => entryBytes (factoryEntry k)

/-- Entry k of a table's bytes, signed (R219). -/
def tableEntry (t : List Byte) (k : Nat) : Int :=
  let n := (t.getD (2 * k) 0).toNat + 256 * (t.getD (2 * k + 1) 0).toNat
  if n < 0x8000 then n else (n : Int) - 0x10000

end Sys2Proof.Machine
end

