-- ==== Sys2Proof/Machine/State.lean ====
section
/-! DEFINITION. The state of the GL4816 as plain data: every register, counter, latch, buffer, mode and pin
level the manual names, the dictionary's stores, the outputs that have left the module, and the queue of
waiting commands. Status words of the dictionary are read from these fields (Flags.lean). -/

namespace Sys2Proof.Machine

/-! ### Dictionary stores, event log, outputs (10) -/

/-- A sparse store of object values: (address, value) pairs, addresses strictly rising. -/
abbrev Store := List (Nat × Int)

/-- One entry of the event log (R356). -/
structure Event where
  code : Nat
  inst : Nat
  time : Nat
  unread : Bool
  announced : Bool
  /-- ring entry 0 to 1,007 it was written to -/
  entry : Nat
  deriving DecidableEq, Repr

/-- Reply codes of requests (Table 10.7). -/
inductive Reply where
  | ok | busy | notAvailable | accessDenied | outOfRange | typeMismatch | unknownObject | superseded | locked | updating
  | checkFailed | deferred | refused
  deriving DecidableEq, Repr

/-- The fabric events that rules raise (R144, R225, R253). -/
inductive FabricEvent where
  /-- FB_DIR of a channel, STEP_STALL of an axis, CMP of a compare unit -/
  | fbDir | stepStall | cmp
  deriving DecidableEq, Repr

/-- What leaves the module. -/
inductive Output where
  /-- a fabric event of an instance, at its consumers -/
  | fabric (e : FabricEvent) (inst : Nat)
  /-- the levels of a pass-through output have become A, B, Z (R148) -/
  | passThrough (p : PtN) (a b z : Bool)
  /-- the reply to a write taken from a source: its code and reason (0 = none) -/
  | written (r : Ref) (code : Reply) (reason : Nat)
  /-- an Orham packet out of a port: on ETH-A and ETH-B the Ethernet frame up to its FCS, on the service port the packet (R335,
  R336, R342) -/
  | packet (port : Port) (bytes : List Byte)
  /-- a frame of a CAN port's mailbox started on the bus -/
  | canFrame (p : CanN) (f : CanFrame)
  /-- an Ethernet frame passed out of a switch port -/
  | ethFrame (p : EthN) (f : EthFrame)
  /-- a Delay_Req of an IEEE 1588 domain out of a port (R331) -/
  | delayReq (p : EthN) (domain seq : Nat)
  deriving DecidableEq, Repr

/-- The event log (R355, R356). -/
structure EventLog where
  /-- the last 1,008 entries, newest first -/
  entries : List Event := []
  /-- EVENT_HEAD -/
  head : Nat := 0
  /-- an entry has been made since the start of KEEP -/
  made : Bool := false
  /-- ANNOUNCED_UNREAD -/
  announcedUnread : Nat := 0
  /-- the announcements whose entry has not been read, newest first: they are sent again (R355), also once the ring or MEM has
  lost the entry -/
  unheard : List Event := []
  /-- unread entries that the ring or MEM has lost: the latches that wait on them stand until EVENT_ACK_ALL (R356) -/
  passed : List Event := []
  /-- the ATTN output of X5 -/
  attn : Bool := false
  deriving DecidableEq, Repr

/-! ### Time reference, crests, gatekeepers (01) -/

/-- The 400 MHz reference and its discipline (Table 1.2, R19 to R21). -/
structure RefClock where
  /-- REF_TIME, in ticks of 2.5 ns since the start of domain KEEP (R19) -/
  time : Nat := 0
  /-- REF_STATUS.LOCKED: the PLL is locked (R20) -/
  locked : Bool := false
  /-- IEEE 1588 servo steers the TCXO (R21) -/
  disciplined : Bool := false
  /-- REF_STATUS.TCXO_FAULT -/
  tcxoFault : Bool := false
  /-- REF_STATUS.LOSS_LATCH -/
  lossLatch : Bool := false
  /-- IEEE 1588 time has been acquired and not lost since (R21) -/
  ptpAvailable : Bool := false
  /-- steered TCXO frequency offset, in 0.001 ppm, as it stood at `steerAt`, and the offset that the servo aims at (R21) -/
  steer : Int := 0
  steerAt : Nat := 0
  aim : Int := 0
  /-- SLEW_LIMITED: a larger correction is being spread out (R21) -/
  slewLimited : Bool := false
  /-- reference tick since which every measured offset has been within ±1 µs (R332) -/
  closeSince : Option Nat := none
  /-- IEEE 1588 time in ns as it was set last, and the reference tick of it (R331) -/
  ptpTime : Rat := 0
  ptpAt : Nat := 0
  /-- a two-step Sync that waits for its Follow_Up: sequence number, tick of arrival and correctionField (R331) -/
  ptpWait : Option (Nat × Nat × Int) := none
  /-- the last complete Sync: the reference tick of its arrival and the master's time in ns at its departure (R331) -/
  syncAt : Nat := 0
  syncTime : Rat := 0
  /-- sequence number of the Delay_Req that waits for its answer (R331) -/
  delaySeq : Option Nat := none
  /-- sequence number of the next Delay_Req -/
  delayNext : Nat := 0
  /-- measured path delay, ns (R331) -/
  pathDelay : Rat := 0
  /-- corrected single-bit DRAM errors (R30) -/
  eccCount : Nat := 0
  deriving DecidableEq, Repr

/-- A counted fault: its retirement class and the reference tick of its count (R86). -/
structure Stamp where
  cls : Nat
  time : Nat
  deriving DecidableEq, Repr

/-- CREST_STATUS.STATE (Table 1.12). -/
inductive CrestState where
  | active | quiet | migrating | retired
  deriving DecidableEq, Repr

/-- One crest (Tables 1.5 to 1.12, R24 to R34). -/
structure Crest where
  state : CrestState := .active
  marginWarn : Bool := false
  deadlineLatch : Bool := false
  checkLatch : Bool := false
  /-- longest execution of the running 1 ms window, ns (R24) -/
  longest : Nat := 0
  /-- consecutive windows with MARGIN_NOW above MARGIN_FLOOR + 15, up to 100 (R25) -/
  above : Nat := 0
  /-- consecutive windows at or above the floor, up to 10 (R26) -/
  atFloor : Nat := 0
  /-- counted faults of the classes CHECK = 0 and DEADLINE = 1 (R33) -/
  faults : List Stamp := []
  /-- reinstatement under way: R34 steps 1 to 3 -/
  reinstating : Bool := false
  deriving DecidableEq, Repr

/-- The state of a power domain (Table 15.9). -/
inductive DomState where
  | off | starting | run | stopping | failed
  deriving DecidableEq, Repr

/-- GATE_STATUS of the gatekeepers of a domain (Table 1.15). -/
inductive GateState where
  | open | draining | closed
  deriving DecidableEq, Repr

/-- Why a gatekeeper closed (R41). -/
inductive CloseReason where
  | reset | update | powerDown | retired
  deriving DecidableEq, Repr

/-- A request accepted before its gatekeeper closed, whose reply is still missing (R41). -/
structure Outstanding where
  port : Port
  session : Nat
  seq : Nat
  deriving DecidableEq, Repr

/-- One power domain and its gatekeepers (R41 to R44, R465 to R475). -/
structure Domain where
  state : DomState := .off
  gate : GateState := .open
  reason : CloseReason := .reset
  /-- requests whose replies are awaited while DRAINING -/
  drain : List Outstanding := []
  /-- what follows the drain: the domain starts again (RESET, UPDATE) or stays off -/
  restart : Bool := false
  /-- reference tick of the last loss of supply (R467) -/
  lostAt : Option Nat := none
  /-- a crest power-gated by QUIET, which RUN returns (R469) -/
  gated : Bool := false
  deriving DecidableEq, Repr

/-! ### Leg cells and leg groups (02) -/

/-- LEG_STATUS.STATE (Table 2.14). -/
inductive LegState where
  | off | inService | latched | recharging | retired | notAssigned
  deriving DecidableEq, Repr

/-- The leg faults of Table 2.12, in the order of their specific numbers 0x01 to 0x07. -/
inductive LegFault where
  | desat | hardShort | bootstrapUv | noAck | gateTimeout | gateRise | rechargeFailed
  deriving DecidableEq, Repr

/-- A turn-on a leg cell has pending (R53, R54). -/
inductive TurnOn where
  /-- the other side was commanded off at a PULSE edge or by the reaction -/
  | side (sd : Side)
  /-- the enables rose: the side last selected, none in an interval that is dropped, when dead time and both monitors allow
  it -/
  | risen (sd : Option Side)
  deriving DecidableEq, Repr

/-- A PULSE edge of an edge set: its instant in 156.25 ps after the update point, the level of PULSE after it, and
whether it bounds a 1.2 µs low-side pulse (R51, R64, R65). -/
structure Edge where
  time : Int
  level : Bool
  refresh : Bool
  deriving DecidableEq, Repr

/-- One commit word of a leg: the edge set of a cycle (R36, R51). The edges are formed from it in the interval it governs
(R96, R162). -/
structure EdgeSet where
  /-- the cycle it was committed for -/
  cycle : Nat := 0
  /-- the phase duty, dead-time compensation included, and the balancing trim in ns (R109, R164, R166) -/
  duty : Rat := 0
  trim : Rat := 0
  /-- the part of the duty that compensates dead time (R166) -/
  comp : Rat := 0
  /-- it holds a refresh pulse (R64) -/
  refresh : Bool := false
  /-- the commit word that carries it, and the check of that word (R28) -/
  word : Int := 0
  check : BitVec 8 := 0
  deriving DecidableEq, Repr

/-- One leg and its leg cell. -/
structure Leg where
  state : LegState := .notAssigned
  /-- LEG_STATUS.LAST_SPECIFIC, 0 = none -/
  lastSpecific : Nat := 0
  /-- counted faults: class 0 SHORT, 1 SUPPLY, 2 GATE (Table 2.12) -/
  faults : List Stamp := []
  /-- the fault latched, with its side where it has one -/
  latch : Option (LegFault × Side) := none
  retireLatch : Bool := false
  refreshActive : Bool := false
  vbsWarn : Bool := false
  hsInhibit : Bool := false
  /-- control EN, SEN-P and SEN-L at the leg cell (R50) -/
  en : Bool := false
  enP : Bool := false
  enL : Bool := false
  /-- left out of a commit (R37), until a shadow write is acknowledged again (R52) -/
  leftOut : Bool := false
  /-- has not acknowledged the shadow write of the running cycle (R37) -/
  silent : Bool := false
  /-- a 1.2 µs refresh or recharge pulse of the low side is running (R64, R71) -/
  inRefresh : Bool := false
  /-- the level of PULSE (R51) -/
  pulse : Bool := false
  /-- sides commanded on -/
  highCmd : Bool := false
  lowCmd : Bool := false
  /-- gate monitors: the gate is above the off threshold (R56) -/
  highOn : Bool := false
  lowOn : Bool := false
  turnOn : Option TurnOn := none
  /-- DEADTIME_EFFECTIVE has elapsed for the pending turn-on -/
  deadTimeUp : Bool := false
  /-- the side whose soft turn-off stage is engaged (R68) -/
  softOff : Option Side := none
  /-- the shadow registers, for even and for odd cycles (R35, R36) -/
  shadow : Vector EdgeSet 2 := Vector.replicate 2 {}
  /-- the active edge set, and the one that governed the interval before the last update point (R51, R162) -/
  active : EdgeSet := {}
  last : EdgeSet := {}
  /-- the PULSE edges still to come in the running interval, earliest first (R51, R162) -/
  edges : List Edge := []
  /-- every PULSE edge of the running interval and of the one before it, from which the sample instants are taken (R97, R162) -/
  interval : List Edge := []
  before : List Edge := []
  /-- automatic clears used in the present start-up, self-test or recovery period (R85) -/
  autoclears : Nat := 0
  /-- reference tick at which its latched fault came or its present RECHARGING began (R65, R85) -/
  faultAt : Nat := 0
  /-- latched while a self-test slice ran on the leg cell of the DISABLED axis (R85) -/
  sliceLatch : Bool := false
  /-- class digit of the BOOTSTRAP_UV of the present undervoltage episode (R65) -/
  uvDigit : Option Nat := none
  /-- its group has lost VGP and it has not rejoined its phase since; the next precharge or start of the axis brings it back
  (R60) -/
  vgpOut : Bool := false
  rejoin : Bool := false
  /-- reinstated: the axis's next start precharges (R89) -/
  precharge : Bool := false
  deriving DecidableEq, Repr

/-- One leg group (Table 2.5). -/
structure LegGroup where
  powered : Bool := false
  vgpUv : Bool := false
  vgnHigh : Bool := false
  vgpHigh : Bool := false
  deriving DecidableEq, Repr

/-- REACTION_STATUS.GATE_STATE (Table 2.11). -/
inductive Reaction where
  | normal | ascLow | ascHigh | allOff
  deriving DecidableEq, Repr

/-- REACTION_STATUS.CAUSE (Table 2.11). -/
inductive ReactionCause where
  | none | leg | other | safety
  deriving DecidableEq, Repr

/-- Causes that must be gone before a held reaction can end (Table 2.16). -/
inductive HoldCause where
  | deadline | refLost | crestFailed | feedLost | overcurrent | currentLost | currentImplausible | overspeed
  deriving DecidableEq, Repr

/-- The axis reaction logic of one axis (R72 to R83). -/
structure ReactionLogic where
  gate : Reaction := .normal
  cause : ReactionCause := .none
  firstLeg : Option LegN := none
  secondLeg : Option LegN := none
  /-- side of the first leg fault of the reaction -/
  firstSide : Side := .low
  /-- side that the speed rule shorts (R76, R78, R82) -/
  ascSide : Side := .low
  /-- the gate state was reached by the speed rule and follows ABOVE_ASC (R79) -/
  follows : Bool := false
  /-- the reaction window of the first fault is open: no reaction-side gate has risen (R78) -/
  window : Bool := false
  /-- reference tick at which the reaction began -/
  began : Nat := 0
  /-- a reaction is held and has not ended (R83) -/
  held : Bool := false
  causes : List HoldCause := []
  resumePending : Bool := false
  /-- the axis was STOPPING when the reaction began (R83) -/
  resumeStopping : Bool := false
  /-- ABOVE_ASC as last written by the crest (R74) -/
  aboveAsc : Bool := false
  /-- the axis has run: with ASC_SPEED 0 the flag is always set (R74) -/
  hasRun : Bool := false
  /-- consecutive in-time commits toward R513, up to 8 -/
  inTime : Nat := 0
  /-- consecutive valid samples on which the sum check passed (R513) -/
  sumPassed : Nat := 0
  /-- consecutive cycles with f_e at or below F_ELEC_MAX (R513) -/
  slow : Nat := 0
  deriving DecidableEq, Repr

/-! ### Current sensing (03) -/

/-- One current input CIl (Table 3.4, R90 to R114). -/
structure CurrentInput where
  ocLatch : Bool := false
  substituted : Bool := false
  satLast : Bool := false
  zeroFailed : Bool := false
  implausible : Bool := false
  validLast : Bool := false
  /-- consecutive saturated conversions (R112) -/
  satRun : Nat := 0
  /-- consecutive valid samples with |c_j| above CIRC_WARN (R111) -/
  circRun : Nat := 0
  /-- the reading that the crest last used, A: ripple-corrected or substituted where a rule says so (R91, R110, R112,
  R114) -/
  reading : Rat := 0
  /-- CI_ZERO_MEASURED, V -/
  zero : Rat := 0
  /-- balancing trim, ns (R109) -/
  trim : Rat := 0
  deriving DecidableEq, Repr

/-- One sigma-delta input (R94, R95). -/
structure SdInput where
  /-- SD_NOW, V -/
  value : Rat := 0
  /-- its timestamp, in reference ticks: the output tick less the group delay (R94) -/
  stamp : Rat := 0
  /-- the check that the value received at the decimator (R28, R94) -/
  check : BitVec 8 := 0
  stale : Bool := false
  /-- the 1 ms hold of a lost DC-link input has passed (R95) -/
  holdOver : Bool := false
  deriving DecidableEq, Repr

/-- SADDLE_STATUS.MODE (Table 3.9). -/
inductive SaddleMode where
  | fixed | search | limited
  deriving DecidableEq, Repr

/-- Sampling state of one axis (Table 3.9, R97 to R113). -/
structure Saddle where
  /-- held in LIMITED mode (R102) -/
  limited : Bool := false
  predicted : Bool := false
  predictCount : Nat := 0
  limitActive : Bool := false
  /-- depth the current loop asked for in the last cycle, per mille -/
  depth : Rat := 0
  gap : Nat := 0
  /-- phase currents U, V, W of the last cycle, A -/
  phase : Rat × Rat × Rat := (0, 0, 0)
  /-- consecutive failures of the sum check (R113) -/
  sumFails : Nat := 0
  /-- reference tick at which DEPTH_DEMAND went at or below DEPTH_LIMIT; none = above (R108) -/
  depthBelow : Option Nat := some 0
  /-- TORQUE_COST, N·m -/
  torqueCost : Rat := 0
  deriving DecidableEq, Repr

/-! ### Position and speed feedback (04) -/

/-- FB_STATUS.STATE of a configured channel (Table 4.7). -/
inductive FbState where
  | starting | valid | faulted | retired
  deriving DecidableEq, Repr

/-- One feedback channel (R116 to R153). -/
structure Channel where
  state : FbState := .starting
  /-- the 32-bit position counter, signed (R119) -/
  position : Int := 0
  /-- counted faults: class 0 SIGNAL, 1 INDEX, 2 SERIAL, 3 WIRE (R152) -/
  faults : List Stamp := []
  /-- faults latched (R150) -/
  latched : List FbFault := []
  /-- pairs found open (R149) -/
  openPairs : List Pair := []
  retireLatch : Bool := false
  extrapolated : Bool := false
  armed : Bool := false
  referenced : Bool := false
  gapPending : Bool := false
  /-- METHOD: true = period (R146) -/
  period : Bool := false
  standstill : Bool := false
  dirLatch : Bool := false
  /-- DIR: true = reverse (R144) -/
  reverse : Bool := false
  glitchLatch : Bool := false
  validLast : Bool := false
  /-- accepted levels of lines A, B and Z (R123) -/
  a : Bool := false
  b : Bool := false
  z : Bool := false
  /-- place of the last valid Hall state in the forward sequence (R127) -/
  hallPrev : Option Nat := none
  /-- reference ticks of the glitches of the last 10 ms, newest first (R124) -/
  glitches : List Nat := []
  /-- reference ticks of the last 0x3101 and 0x300A entries (R123, R144) -/
  glitchLogged : Option Nat := none
  dirLogged : Option Nat := none
  /-- run of consecutive index mismatches (R142) -/
  mismatchRun : Nat := 0
  /-- extreme position reached since the last direction change (R144) -/
  extreme : Int := 0
  /-- accepted counts as (timestamp, signed counts), newest first, without corrections (R143, R145) -/
  counts : List (Nat × Rat) := []
  /-- entries of `counts` made since the last direction change (R146) -/
  sinceDir : Nat := 0
  /-- 16-bit fraction below the count of types 6 and 7 (R138) -/
  frac : Nat := 0
  /-- reference tick at which INDEX_ARM was written (R141) -/
  armedAt : Nat := 0
  /-- timestamp of the last accepted edge (R120), and of the last count (R145) -/
  lastEdge : Nat := 0
  lastCount : Nat := 0
  /-- gear-tooth wheel: timestamp of the last rising A edge and the periods P1, P2 before it (R128) -/
  rise : Option Nat := none
  p1 : Option Nat := none
  p2 : Option Nat := none
  /-- rising A edges counted in the present direction since it changed or the shaft stood (R129) -/
  cleanEdges : Nat := 0
  /-- a gap awaiting confirmation: its period, the count held at the gap edge, and whether it was counted in
  reverse (R130) -/
  gap : Option (Nat × Int × Bool) := none
  /-- a held edge: period P of the possible extra tooth, the edge's timestamp and its direction (R131) -/
  heldEdge : Option (Nat × Nat × Bool) := none
  /-- last direction used by a gear-tooth channel: true = reverse (R128) -/
  gearReverse : Bool := false
  /-- SSI: a frame is running, with its latch tick (R132, R133) -/
  frame : Option Nat := none
  /-- previous good serial word (R135, R136) -/
  word : Option Nat := none
  badRun : Nat := 0
  goodRun : Nat := 0
  /-- speed, counts/s (R145 to R147) -/
  speed : Rat := 0
  /-- consecutive failed snapshot checks (R150) -/
  snapFails : Nat := 0
  /-- last good position and its reference tick, and the last good speed, for extrapolation (R150) -/
  lastGood : Rat := 0
  lastGoodAt : Nat := 0
  goodSpeed : Rat := 0
  /-- type 4: position with its fraction in the last good snapshot, from which the next difference is taken (R147) -/
  shown : Rat := 0
  deriving DecidableEq, Repr

/-- A snapshot as an axis holds it (R120). -/
structure Snapshot where
  position : Int := 0
  fraction : Nat := 0
  speed : Rat := 0
  valid : Bool := false
  /-- FB_STATUS as it stood (R120) -/
  flags : Nat := 0
  stamp : Nat := 0
  /-- the checks that its words received at the feedback front end (R28) -/
  checks : List (BitVec 8) := []
  deriving DecidableEq, Repr

/-- A pass-through output: the levels it repeats, or high-impedance (R148). -/
structure PassThrough where
  driven : Bool := false
  a : Bool := false
  b : Bool := false
  z : Bool := false
  deriving DecidableEq, Repr

/-! ### Field control (05) -/

/-- The eight axis states (R195). -/
inductive AxisState where
  | disabled | ready | running | stopping | holdAsc | fault | safeOff | lockedOut
  deriving DecidableEq, Repr

/-- AXIS_STATUS.ANGLE_SOURCE (Table 5.16). -/
inductive AngleSource where
  | channel | rideThrough | observer | currentFrequency
  deriving DecidableEq, Repr

/-- AXIS_STATUS.CATCH_PHASE (Table 5.16). -/
inductive CatchPhase where
  | none | measuring | precharge | braking | magnetising
  deriving DecidableEq, Repr

/-- Flying-start methods (Table 5.9). -/
inductive CatchMethod where
  | sensor | voltage | pulse | search
  deriving DecidableEq, Repr

/-- Why the observer supplies the angle in ride-through (R180 to R182). -/
inductive RideCause where
  | loss | disagreement
  deriving DecidableEq, Repr

/-- A flying start under way (R189 to R194). -/
structure Catch where
  /-- a start was accepted and control EN has not risen yet -/
  running : Bool := false
  method : Option CatchMethod := none
  phase : CatchPhase := .none
  /-- angle (electrical revolutions) and speed (counts/s) found, and the reference tick they hold for -/
  angle : Rat := 0
  speed : Rat := 0
  angleAt : Nat := 0
  /-- PULSE: the length of the running pulse, µs (R190, R191) -/
  pulse : Nat := 0
  /-- VOLTAGE: the phase-voltage vectors of the measurement, newest first: reference tick, α and β in V (R190) -/
  volts : List (Nat × Rat × Rat) := []
  /-- PULSE: the second pulse runs, and what the first one gave: its reference tick, the back-EMF angle in electrical
  revolutions and |ω| in electrical revolutions per second (R190) -/
  secondPulse : Bool := false
  first : Option (Nat × Rat × Rat) := none
  /-- SEARCH: the sweep runs; its frequency in Hz, the angle of the vector, whether it is the second sweep and turns in
  reverse, and the speed found in counts/s (R190) -/
  sweeping : Bool := false
  sweepHz : Rat := 0
  sweepAngle : Rat := 0
  sweepAgain : Bool := false
  sweepReverse : Bool := false
  found : Option Rat := none
  /-- the precharge has ended: control EN rises at the next update point (R191) -/
  ready : Bool := false
  /-- STOP was given during the catch (R199) -/
  stopAfter : Bool := false
  /-- resume into STOPPING (R83) -/
  intoStopping : Bool := false
  deriving DecidableEq, Repr

/-- A set-point token: profile position before HOME_OFFSET_NOW and velocity, in 2^−96 counts and counts per tick, and the checks its
words received at the profile generator (R28, R35, R265). -/
structure SetPoint where
  pos : Int := 0
  vel : Int := 0
  checks : List (BitVec 8) := []
  deriving DecidableEq, Repr

/-- GRANT_WORD.CODE (Table 8.11). -/
inductive GrantCode where
  | full | scaled | deferred | refused
  deriving DecidableEq, Repr

/-- GRANT_WORD.REASON. -/
inductive GrantReason where
  | none | budget | deferExpired | sliceLimit | notRequesting
  deriving DecidableEq, Repr

/-- GRANT_WORD.CLASS, in the order served (R290). -/
inductive PowerClass where
  | stop | hold | work | aux
  deriving DecidableEq, Repr

/-- One requester of the arbiter (Tables 8.9 to 8.11). -/
structure Requester where
  code : GrantCode := .full
  tieLost : Bool := false
  cls : PowerClass := .stop
  reason : GrantReason := .notRequesting
  /-- GRANT_POWER and DEMAND_NOW, W -/
  power : Rat := 0
  demand : Rat := 0
  /-- reference tick of the first deferral, while queued (R292) -/
  queuedAt : Option Nat := Option.none
  /-- REFUSED: asks again at the axis's next START, or the slot's next request (R292) -/
  refused : Bool := false
  /-- reference tick at which the demand that the grant answers was sampled (R293, Table 8.10 step 1) -/
  sampledAt : Nat := 0
  deriving DecidableEq, Repr

/-- The buffers of one cycle (R35): one for even and one for odd cycles. -/
structure Cycle where
  /-- the cycle's number; 0 = none held -/
  number : Nat := 0
  /-- reference tick of its sample instant, the ticks from the nominal instant to it, and whether that is the peak (R99,
  R162) -/
  sampledAt : Nat := 0
  offset : Int := 0
  peak : Bool := false
  /-- reference tick at which its commit flag was set (R36) -/
  committed : Option Nat := none
  /-- its deadline has been missed (R27); its update point has passed -/
  late : Bool := false
  past : Bool := false
  /-- the latched snapshot, the current samples and the set-point (R39); `answered` is false where FEED answered the request
  for the snapshot NOT_AVAILABLE (R122) -/
  answered : Bool := true
  snapshot : Snapshot := {}
  samples : List (LegN × Conversion) := []
  /-- the ripple of each leg at the instant, A (R110) -/
  ripple : List (LegN × Rat) := []
  setPoint : SetPoint := {}
  /-- the grant published by then: it acts from this cycle on (R226, R293) -/
  grant : Requester := {}
  /-- the instant was valid (R97), and the edge-free interval that holds it, in ticks (Table 3.9) -/
  valid : Bool := false
  gap : Nat := 0
  deriving DecidableEq, Repr

/-- The crest's working state of one axis: what its loops carry from cycle to cycle (R35). -/
structure Loop where
  /-- electrical angle of the control frame, in electrical revolutions (R160, R173, R192) -/
  theta : Rat := 0
  /-- measured d and q currents, A -/
  idq : Rat × Rat := (0, 0)
  /-- integrators of the current loops, V, and of the speed loop, N·m (R167, R176) -/
  vInt : Rat × Rat := (0, 0)
  speedInt : Rat := 0
  /-- what the voltage regulator has taken from the d reference, at most 0, and from |q| at the field limit, A (R169,
  R174) -/
  fieldCut : Rat := 0
  iqCut : Rat := 0
  /-- the voltage references of the last cycle on d and q, V (R167, R169) -/
  vdq : Rat × Rat := (0, 0)
  /-- the volts of dropped intervals, to be added to the next edge set (R58, R166) -/
  carry : Rat × Rat × Rat := (0, 0, 0)
  /-- the references that ramp from the measured currents after a catch; none = no ramp (R191) -/
  ramp : Option (Rat × Rat) := none
  /-- the last set-point used (Table 1.9 kind 0x04) -/
  setPoint : SetPoint := {}
  deriving DecidableEq, Repr

/-- The rotation by which the crest knows the speed while the gates are held (R186). -/
structure Turning where
  /-- the last vector taken: the square of its magnitude, its angle in electrical revolutions, its reference tick -/
  last : Option (Rat × Rat × Nat) := none
  /-- diode conduction: the magnitude was rising, and the last crest's angle and reference tick -/
  rising : Bool := false
  crest : Option (Rat × Nat) := none
  deriving DecidableEq, Repr

/-- Field control of one axis (R155 to R204). -/
structure Field where
  state : AxisState := .disabled
  lastCommand : Nat := 0
  /-- the zero measurement of an accepted ENABLE runs (R196) -/
  zeroing : Bool := false
  angleSource : AngleSource := .channel
  catching : Catch := {}
  obsHealthy : Bool := false
  encDisagree : Bool := false
  fieldWeakening : Bool := false
  voltLimit : Bool := false
  curLimit : Bool := false
  powerLimit : Bool := false
  keLatch : Bool := false
  /-- COMPUTE_CREST -/
  crest : CrestN := 0
  /-- no crest computes the axis (R201) -/
  unplaced : Bool := false
  /-- NO_CREST has been reported for the present wait (R201) -/
  noCrest : Bool := false
  /-- DISABLE was given in RUNNING or STOPPING (Table 5.12) -/
  disableAtStop : Bool := false
  /-- KE_ABNORMAL stops the axis (R188) -/
  keStop : Bool := false
  /-- number of the newest cycle begun and of the last one whose loop was executed, and the buffers of even and odd
  cycles (R35, R36) -/
  cycle : Nat := 0
  executed : Nat := 0
  /-- reference tick of the last update point (R103, R162) -/
  updatedAt : Nat := 0
  cycles : Vector Cycle 2 := Vector.replicate 2 {}
  work : Vector Loop 2 := Vector.replicate 2 {}
  /-- the next nominal instant is the peak of the reference carrier (R162) -/
  peakNext : Bool := false
  /-- run of missed deadlines (R27) -/
  missRun : Nat := 0
  /-- the snapshot that the last executed cycle used (R39) -/
  snapshot : Snapshot := {}
  /-- consecutive snapshots that were not valid (R181) -/
  snapBad : Nat := 0
  /-- run of evaluated cycles above OBS_INNOV_MAX, and of those at or below it since a loss (R179, R183) -/
  innovRun : Nat := 0
  innovGood : Nat := 0
  /-- a loss has been declared and 64 good cycles have not followed (R179) -/
  obsLost : Bool := false
  obs : Observer := {}
  rideCause : Option RideCause := none
  /-- the loss of the encoder has been reported and the channel has not come back since (R181) -/
  encLost : Bool := false
  /-- the observer's angle less the channel's in the last cycle; reference ticks since which, with the channel VALID, the two
  have stayed apart with a healthy observer (R180), together, and with agreeing speeds (R182) -/
  apart : Rat := 0
  apartSince : Option Nat := none
  angleSince : Option Nat := none
  speedSince : Option Nat := none
  turning : Turning := {}
  /-- realigned since the last ENABLE (R182) -/
  realigned : Bool := false
  /-- working commutation offset, 2^−16 of an electrical revolution (R160, R182) -/
  commOffset : Int := 0
  /-- cycles left of the 16-cycle angle blend (R182) -/
  blend : Nat := 0
  overspeedRun : Nat := 0
  fwReported : Bool := false
  /-- consecutive counted windows above 250 per mille (R188) -/
  keRun : Nat := 0
  keLogged : Option Nat := none
  /-- the induced-voltage window: its conditions have held so far, sum of ψ in Wb, and its cycles (R187) -/
  keWhole : Bool := true
  keSum : Rat := 0
  keCycles : Nat := 0
  /-- SPEED_EST, counts/s -/
  speed : Rat := 0
  /-- the estimates of the last executions up to one at least 50 µs old, newest first: reference tick and counts/s (R238) -/
  speeds : List (Nat × Rat) := []
  /-- the grant that acts on the axis: that of the cycle executed last (R226, R293) -/
  grant : Requester := {}
  /-- the state before the present one, and the reference tick of the change (Table 8.10 step 1) -/
  stateBefore : AxisState := .disabled
  stateAt : Nat := 0
  /-- TORQUE_NOW, N·m -/
  torque : Rat := 0
  /-- current references and the modelled rotor flux (R168, R173, R174) -/
  idRef : Rat := 0
  iqRef : Rat := 0
  psiR : Rat := 0
  slipAngle : Rat := 0
  /-- drawn power of the last cycle, W (R171), and its sum and the cycles since the last arbiter tick (Table 8.9) -/
  power : Rat := 0
  drawnSum : Rat := 0
  drawnCycles : Nat := 0
  /-- reference tick since which |speed| has been below STOP_SPEED in STOPPING (R196) -/
  slowSince : Option Nat := none
  /-- speed stored at the last stop; none = none stored (R190) -/
  storedSpeed : Option Rat := none
  /-- ENABLE sent the axis to READY and control EN has not risen since: start-up (R85) -/
  enRose : Option Nat := none
  /-- from the end of a reaction until RUNNING (R85) -/
  recovering : Bool := false
  /-- a precharge of the running axis after a leg group has regained VGP (R66) -/
  regain : Bool := false
  deriving DecidableEq, Repr

/-! ### Stepper axes (06) -/

/-- State of a stepper bridge (Table 6.1, Table 6.11). -/
inductive BridgeState where
  | drive | slow | fast | off
  deriving DecidableEq, Repr

/-- The decay that DECAY_MODE selects for the intervals of a cycle (R212). -/
inductive Decay where
  | slow | mixed | fast
  deriving DecidableEq, Repr

/-- One bridge of a stepper axis and its chopper logic (R206 to R215). -/
structure BridgeSt where
  state : BridgeState := .off
  /-- sign of the target driven toward: true = negative -/
  negative : Bool := false
  /-- it was driving when that sign changed, and still drives against it (R209, R211) -/
  against : Bool := false
  /-- coil target in force, A (R208), and the decay that DECAY_MODE selects with it (R212) -/
  target : Rat := 0
  decay : Decay := .slow
  /-- the target and the decay selection committed for the next update point (R209) -/
  next : Rat := 0
  nextDecay : Decay := .slow
  /-- the coil current of the last compared conversion, A -/
  current : Rat := 0
  /-- adaptive offset, A (R214) -/
  offset : Rat := 0
  /-- the state has lasted less than CHOP_MIN_TIME, and the state a decision waits to enter, with what goes into `fastTimed`
  and `catchDown` (R211) -/
  minTime : Bool := false
  waiting : Option (BridgeState × Bool × Bool) := none
  /-- reference tick at which the state was entered -/
  since : Nat := 0
  /-- mixed decay: the CHOP_FAST_TIME interval runs (R212) -/
  fastTimed : Bool := false
  /-- a VBS_WARN of its legs forced SLOW for this decay interval (R212) -/
  forcedSlow : Bool := false
  /-- fast decay entered after a falling target, until i' ≤ U (R211) -/
  catchDown : Bool := false
  /-- start of the running chopping cycle, and whether it is usable (R214) -/
  cycleStart : Option Nat := none
  cycleUsable : Bool := true
  /-- consecutive conversions beyond the two-input sum check (R210) -/
  sumRun : Nat := 0
  /-- of the running chopping cycle: sum over its conversion ticks of i', their number, the tick of the last compared
  conversion, and the integral of |i*| up to `targetAt` (R214) -/
  convSum : Rat := 0
  convCount : Nat := 0
  convAt : Option Nat := none
  targetSum : Rat := 0
  targetAt : Nat := 0
  /-- ticks in DRIVE toward the coil current less those against it since the last commit, counted up to `driveAt`; the
  current at that commit (R224) -/
  driveTicks : Int := 0
  driveAt : Nat := 0
  lastCurrent : Rat := 0
  deriving DecidableEq, Repr

/-- Stepper state of one axis (Table 6.11). -/
structure Stepper where
  a : BridgeSt := {}
  b : BridgeSt := {}
  /-- the running scale k (R216, R227) -/
  k : Rat := 1
  /-- the 10 ms ramp of k: where it started, when, and its end value (R216, R227) -/
  kFrom : Rat := 1
  kSince : Nat := 0
  kTo : Rat := 1
  /-- reference tick at which the profile velocity became zero; none = moving (R216) -/
  restSince : Option Nat := none
  holding : Bool := false
  /-- reference tick at which HOLDING last changed (R226, Table 8.10 step 1) -/
  holdingAt : Nat := 0
  unpowered : Bool := false
  /-- the last published grant acts on the axis as DEFERRED or REFUSED (Table 6.3) -/
  stopped : Bool := false
  /-- consecutive cycles beyond STALL_ANGLE (R223), or electrical cycles below STALL_RATIO (R224), up to 2 -/
  stallRun : Nat := 0
  /-- of the cycles of the last two electrical revolutions, newest first: the electrical revolutions commanded in the cycle, and
  √(eA² + eB²) less its limit, V (R224) -/
  emfTrail : List (Rat × Rat) := []
  auxReduced : Bool := false
  stallLatch : Bool := false
  coilOpen : Bool := false
  /-- coils energised for STEP_ALIGN_TIME (R217) -/
  aligning : Bool := false
  /-- reference tick at which that began (R217) -/
  alignAt : Nat := 0
  /-- CHOP_FREQ -/
  chopFreq : Nat := 0
  /-- microstep index m -/
  index : Nat := 0
  /-- the axis still uses the previous version of its table (R220) -/
  tablePending : Bool := false
  /-- the new version was committed before the running cycle's sample instant (R220) -/
  tableSeen : Bool := false
  deriving DecidableEq, Repr

/-- One shared microstep table (R218 to R221). -/
structure MicroTable where
  /-- active, previous and staging contents, and the version in flash -/
  active : List Byte := factoryBytes
  previous : List Byte := factoryBytes
  staging : List Byte := factoryBytes
  flash : List Byte := factoryBytes
  version : Nat := 0
  deriving DecidableEq, Repr

/-! ### Motion profiles, compare units, homing (07) -/

/-- The limits of a plan (R235), in the generator's units: PROFILE_SPEED, PROFILE_ACCEL, PROFILE_DECEL, PROFILE_JERK, and
STOP_DECEL (R249). -/
structure Bounds where
  speed : Int
  acc : Int
  dec : Int
  jerk : Int
  stop : Int
  deriving DecidableEq, Repr

/-- What the planner heads for: rest at a position in counts, or a velocity in the generator's units. -/
inductive Aim where
  | position (target : Int)
  | velocity (v : Int)
  deriving DecidableEq, Repr

/-- PROFILE_STATUS.MOVE_STATE (Table 7.6). -/
inductive MoveState where
  | tracking | idle | moving | stopRamp
  deriving DecidableEq, Repr

/-- The profile generator of one axis. P, V, A and J are held exactly, in 2^−96 counts, counts/tick,
counts/tick² and counts/tick³ (R229: carried fractions are never discarded). -/
structure Profile where
  p : Int := 0
  v : Int := 0
  a : Int := 0
  j : Int := 0
  move : MoveState := .tracking
  /-- the target planned for: TARGET_POS, clamped to a soft limit (R249), or a homing move's -/
  target : Int := 0
  /-- the planner brings the axis to rest, and TARGET_POS becomes the position reached (R227, R266) -/
  halting : Bool := false
  switchback : Bool := false
  /-- the plan is a stop that ends at its target: the limits under which it was made (R248) -/
  stopping : Option Bounds := none
  /-- OVERSHOOT_PLANNED: the plan passes the target (R246) -/
  overshoot : Bool := false
  /-- what the last plan headed for under which limits; none where the next tick replans (R241, R252), and whether it takes V
  through zero to the opposite sign (R244) -/
  planned : Option (Aim × Bounds) := none
  turning : Bool := false
  accelOver : Bool := false
  clamped : Bool := false
  limitBrake : Bool := false
  followWarn : Bool := false
  grantScaled : Bool := false
  /-- DIR: sign of V or of the last non-zero V; true = reverse -/
  reverse : Bool := false
  planLate : Bool := false
  lateRun : Nat := 0
  eta : Nat := 0xFFFF
  /-- reference tick since which FOLLOW_WARN has been set (R251) -/
  followSince : Option Nat := none
  /-- reference tick of the last 0x5001 entry (R244) -/
  switchLogged : Option Nat := none
  /-- reference tick of the firing that releases STAGED_TARGET (R260) -/
  triggered : Option Nat := none
  /-- HOME_OFFSET_NOW -/
  homeOffset : Int := 0
  deriving DecidableEq, Repr

/-- The homing phases of Table 7.11, with the move away from an active switch (R264). -/
inductive HomePhase where
  | stall | leave | edge | stopping | toTarget
  deriving DecidableEq, Repr

/-- PROFILE_STATUS.HOME_STATE (Table 7.6). -/
inductive HomeState where
  | none | running | done | failed
  deriving DecidableEq, Repr

/-- The homing settings in use, taken when HOME_COMMAND 1 is accepted (Table 7.12, Table 7.13). -/
structure HomeCfg where
  method : Nat := 0
  reverse : Bool := false
  speed : Nat := 0
  slow : Nat := 0
  position : Int := 0
  backoff : Nat := 0
  distance : Nat := 0
  torque : Nat := 0
  stallTime : Nat := 0
  goBack : Bool := false
  deriving DecidableEq, Repr

/-- Homing of one axis (R261 to R267). -/
structure Homing where
  state : HomeState := .none
  homed : Bool := false
  phase : HomePhase := .stall
  cfg : HomeCfg := {}
  /-- profile position at the start of the phase, counts (R266) -/
  startPos : Int := 0
  /-- axis position latched at the stall or edge, awaiting the planner tick (R265) -/
  latched : Option Int := none
  /-- the current limit of the stall phase is in force (R263) -/
  torqueLimit : Bool := false
  /-- reference tick since which CUR_LIMIT has been set and |SPEED_EST| below 0.1 × HOME_SPEED (R263) -/
  slowSince : Option Nat := none
  /-- the move that ends homing heads for this target -/
  target : Int := 0
  deriving DecidableEq, Repr

/-- One compare unit (Table 7.10). -/
structure Compare where
  armed : Bool := false
  behind : Bool := false
  firedAtWrite : Bool := false
  fired : Bool := false
  jumpFire : Bool := false
  missed : Bool := false
  sourceInvalid : Bool := false
  /-- CMP_FIRE_TIME -/
  fireTime : Nat := 0
  /-- reference tick of the last firing: one tick sees at most one (R254) -/
  firedAt : Option Nat := none
  /-- position of the source when the unit last evaluated it (R254) -/
  seen : Int := 0
  /-- a crossing of this tick that has not fired yet: forward, the REF_TIME of the crossing, by an index correction (R254, R257) -/
  crossed : Option (Bool × Nat × Bool) := none
  missedLogged : Option Nat := none
  deriving DecidableEq, Repr

/-- One compare output CO0 to CO7 (R253, R258). -/
structure CompareOut where
  /-- driven, or high-impedance while FEED is not in RUN -/
  driven : Bool := false
  level : Bool := false
  /-- unit whose pulse is running -/
  pulse : Option UnitN := none
  /-- the units that have acted on it in the tick `actedAt`, and what level and pulse were before the first of them (R258) -/
  acted : List UnitN := []
  actedAt : Nat := 0
  base : Bool × Option UnitN := (false, none)
  deriving DecidableEq, Repr

/-! ### Ridge groups and the power arbiter (08) -/

/-- SHARE_STATUS.ROLE (Table 8.8). -/
inductive Role where
  | none | follower | leader | isolated | rejoining | outOfService
  deriving DecidableEq, Repr

/-- A member axis of a ridge group (R271 to R284). -/
structure Member where
  role : Role := .none
  shortfall : Bool := false
  inherited : Bool := false
  mismatch : Bool := false
  dualLeader : Bool := false
  takeover : Bool := false
  /-- STOP_REQUEST of its MEMBER_STATUS, and the in-service flag last sent (R284, R285) -/
  stopRequest : Bool := false
  sentService : Bool := false
  /-- sequence number of its MEMBER_STATUS frames -/
  seq : Nat := 0
  /-- CAP_NOW and the drum torque applied, N·m (R278, R280) -/
  cap : Rat := 0
  applied : Rat := 0
  /-- isolation: share, last T_g, droop reference, Σcap at the cut (R282) -/
  isoShare : Nat := 0
  isoTorque : Rat := 0
  isoRef : Rat := 0
  isoCap : Rat := 0
  /-- consecutive GROUP_REF frames of one leader while isolated (R283) -/
  goodRefs : Nat := 0
  goodFrom : Option MemberN := Option.none
  /-- reference tick since which it follows a higher-numbered leader (R277), is isolated (R282) or rejoins (R283) -/
  since : Nat := 0
  deriving DecidableEq, Repr

/-- What a device knows of one member of a group (R272). -/
structure Peer where
  /-- in service by its newest frame -/
  service : Bool := false
  /-- reference tick of its newest MEMBER_STATUS or GROUP_REF; none = aged out or never heard -/
  heardAt : Option Nat := Option.none
  /-- reference tick of its newest sharing frame of any kind (R281) -/
  frameAt : Option Nat := Option.none
  /-- reference tick of its newest MEMBER_STATUS (R275) -/
  statusAt : Option Nat := Option.none
  /-- reference tick since which it has been known in service without a break (R277) -/
  knownSince : Option Nat := Option.none
  refSeq : Option Nat := Option.none
  statusSeq : Option Nat := Option.none
  shareVersion : Option Nat := Option.none
  cap : Rat := 0
  stopRequest : Bool := false
  deriving DecidableEq, Repr

/-- One group slot (R269 to R285). -/
structure Group where
  peers : Vector Peer 8 := Vector.replicate 8 {}
  /-- the present leader -/
  leader : Option MemberN := Option.none
  /-- reference tick of the newest GROUP_REF taken from the leader (R272, R275) -/
  refAt : Option Nat := Option.none
  /-- T_g and the leader's group speed, as last received or formed -/
  tG : Rat := 0
  vG : Rat := 0
  /-- |T_g| of each cycle of the last 1 ms, newest first, with its reference tick (R279) -/
  torques : List (Nat × Rat) := []
  /-- shares in force, 2^−15, by entry (R280) -/
  shares : Vector Nat 8 := Vector.replicate 8 0
  /-- SHARE_VERSION of the newest GROUP_SHARE taken or sent (R319) -/
  shareVersion : Nat := 0
  velocityMode : Bool := false
  setPoint : Int := 0
  /-- GROUP_REF sequence number as sender -/
  seq : Nat := 0
  /-- the leader ramps the group to a stop (R284) -/
  stopping : Bool := false
  /-- integrator of the group loop (R273) -/
  integrator : Rat := 0
  /-- shares computed and sent by their versions, newest first, whose frame has not been acknowledged on the bus (R280) -/
  waitingShares : List (Nat × List Nat) := []
  /-- version of the shares in force (R319, Table 9.5) -/
  applied : Nat := 0
  /-- Σcap as it stood at the newest frame of another member (R282) -/
  lastCap : Rat := 0
  deriving DecidableEq, Repr

/-- The power arbiter (R286 to R297). -/
structure Arbiter where
  reqs : Vector Requester 18 := Vector.replicate 18 {}
  pointer : Nat := 0
  /-- B_src is BUDGET_FALLBACK for want of a write (R286) -/
  fallback : Bool := true
  freqStale : Bool := false
  /-- SHIP_FREQ has been written since the start of FEED (R287) -/
  freqWritten : Bool := false
  /-- a write of POWER_BUDGET or SHIP_FREQ that restores its source waits for its tick (R286, R287, Table 8.10) -/
  budgetNew : Bool := false
  freqNew : Bool := false
  kf : Rat := 1
  droop : Bool := false
  stopOver : Bool := false
  riseLimited : Bool := false
  /-- BUDGET_EFFECTIVE and STOP_DEMAND, W -/
  budget : Rat := 0
  stopDemand : Rat := 0
  deriving DecidableEq, Repr

/-! ### CAN ports (09) -/

/-- CAN_STATUS.STATE (Table 9.12). -/
inductive CanState where
  | off | integrating | errorActive | errorPassive | busOff | retired | listen
  deriving DecidableEq, Repr

/-- A transmit mailbox (R308 to R311). -/
structure Mailbox where
  /-- the pending frame -/
  frame : Option CanFrame := none
  /-- a newer frame that waits for the end of the attempt in progress (R311) -/
  next : Option CanFrame := none
  /-- an abort waits for the end of the attempt (R310) -/
  abort : Bool := false
  deriving DecidableEq, Repr

/-- One CAN port (R299 to R325). -/
structure CanPort where
  state : CanState := .off
  tec : Nat := 0
  recCount : Nat := 0
  lone : Bool := false
  /-- consecutive acknowledgement errors, up to 16 (R316) -/
  ackRun : Nat := 0
  busOffWait : Bool := false
  retireLatch : Bool := false
  overrunLatch : Bool := false
  driverFault : Bool := false
  /-- reference tick at which the bus-off recovery count began (R314) -/
  countFrom : Nat := 0
  /-- CAN_MODE is CLASSICAL: FD frames are not offered (R300) -/
  classical : Bool := false
  /-- counted faults: class 0 BUSOFF, 1 DRIVER (R324) -/
  faults : List Stamp := []
  overrunLogged : Option Nat := none
  /-- receive queue, oldest first (R312) -/
  rx : List CanFrame := []
  boxes : Vector Mailbox 32 := Vector.replicate 32 {}
  /-- the mailbox whose frame is offered to the bus or being sent (R309) -/
  offered : Option MailboxN := none
  deriving DecidableEq, Repr

/-! ### Network, sessions, claims (10) -/

/-- What a request asked for: a repetition is recognised by its SEQ and these contents (R343). -/
inductive Asked where
  | read (refs : List Ref)
  | write (refs : List WriteRef)
  | domainRead (r : Ref) (offset maxLen : Nat)
  | domainWrite (r : Ref) (offset : Nat) (data : List Byte)
  | level (v : Int)
  | other (command : Nat)
  deriving DecidableEq, Repr

/-- A final reply: one code and reason per reference, and the values. -/
structure Answer where
  codes : List (Reply × Nat)
  values : List (List Byte) := []
  deriving DecidableEq, Repr

/-- A kept reply (R343). -/
structure Kept where
  seq : Nat
  /-- the form of the request (R321) -/
  form : Nat := 0
  asked : Asked
  answer : Answer
  deriving DecidableEq, Repr

/-- A request accepted whose final reply has not been sent: a flash write of an image piece or a seal (R347). -/
structure Unfinished where
  port : Port
  seq : Nat
  asked : Asked
  ref : Ref
  /-- on CAN: the CLIENT and the form (0 short, 1 long) its reply takes (R321) -/
  client : Nat := 0
  form : Nat := 0
  /-- reference tick of its acceptance or of its last progress reply -/
  since : Nat
  answer : Answer
  deriving DecidableEq, Repr

/-- A session: 0 to 5 Orham, 6 CAN, 7 the service port (R342). -/
structure Session where
  bound : Bool := false
  src : Nat := 0
  level : Level := .read
  lastAt : Nat := 0
  /-- SESSION_CREDENTIAL and the reference tick of its last piece (R515) -/
  credential : Option (List Byte × Nat) := none
  /-- final replies to the last four accepted requests, newest first -/
  kept : List Kept := []
  outstanding : List Unfinished := []
  deriving DecidableEq, Repr

/-- A DOMAIN write claim (R346). -/
structure Claim where
  ref : Ref
  session : Nat
  data : List Byte
  lastAt : Nat
  deriving DecidableEq, Repr

/-- ETH_STATUS.STATE (Table 10.15). -/
inductive EthState where
  | down | up1000 | up100 | retired
  deriving DecidableEq, Repr

/-- A frame in an egress queue: what leaves, its bytes with the FCS, and the reference tick at which it came (R329). -/
structure Queued where
  out : Output
  length : Nat
  since : Nat
  deriving DecidableEq, Repr

/-- One Ethernet port (R327 to R330, R357). -/
structure EthPort where
  state : EthState := .down
  /-- the four egress queues, oldest first (R329) -/
  queues : Vector (List Queued) 4 := Vector.replicate 4 []
  /-- reference tick until which a frame of each queue is being sent (R329) -/
  sending : Vector Nat 4 := Vector.replicate 4 0
  /-- residence times in 2^-16 ns of two-step Syncs that left, by sending port and sequence number: for the Follow_Up (R331) -/
  residence : List (Nat × Nat × Int) := []
  /-- residence times measured so far (model's own: the argument of `Config.residenceError`) -/
  measured : Nat := 0
  /-- the last Delay_Req that left: sequence number and reference tick (R331) -/
  delayLeft : Option (Nat × Nat) := none
  /-- counted faults: class 0 LINK, 1 FRAME -/
  faults : List Stamp := []
  retireLatch : Bool := false
  policedLatch : Bool := false
  conflict : Bool := false
  /-- reference tick of the last 0x8104 entry -/
  policeLogged : Option Nat := none
  /-- tokens of the policer in units of 1/400,000,000 packet, and the tick they were counted at (R330) -/
  tokens : Nat := 64 * 400000000
  tokensAt : Nat := 0
  deriving DecidableEq, Repr

/-- A learned address of the switch (R328). -/
structure MacEntry where
  mac : Nat
  port : EthN
  time : Nat
  deriving DecidableEq, Repr

/-- A cyclic frame's buffers and watchdog (R38, R350). -/
structure Cyclic where
  /-- buffered packets, at most two: cycle number, port of arrival and payload, oldest first -/
  buffers : List (Nat × EthN × List Byte) := []
  applied : Option Nat := none
  /-- cycle number of the last application instant -/
  instant : Option Nat := none
  overruns : Nat := 0
  discarded : Nat := 0
  /-- consecutive cycles without a packet applied -/
  missed : Nat := 0
  timedOut : Bool := false
  deriving DecidableEq, Repr

/-- The network side of the module. -/
structure Network where
  sessions : Vector Session 8 := Vector.replicate 8 {}
  claims : List Claim := []
  ports : Vector EthPort 2 := Vector.replicate 2 {}
  macs : List MacEntry := []
  cyclic : Vector Cyclic 16 := Vector.replicate 16 {}
  /-- reference tick of the last 0x8107 entry -/
  conflictLogged : Option Nat := none
  /-- writes of the newest arrival tick: address, arrival tick and precedence of the source (R351) -/
  tied : List (Nat × Nat × Nat) := []
  /-- rejected credentials: reference ticks, newest first; requests for SAFETY and MAKER are refused (R345) -/
  rejections : List Nat := []
  credLocked : Bool := false
  /-- IDENTIFYs that wait for their node × 20 µs: port, SRC, SEQ and the bits turned over in the check of the answer (R334) -/
  identify : List (Port × Nat × Nat × BitVec 8) := []
  deriving DecidableEq, Repr

/-! ### Safety (11) -/

/-- One channel of a safety input as a path samples it (R367). -/
structure SiChannel where
  /-- the level at the last sample: 24 V present -/
  energised : Bool := false
  /-- consecutive samples that show this level -/
  run : Nat := 0
  /-- recognised as demanding -/
  demand : Bool := false
  deriving DecidableEq, Repr

/-- A safety input in one path. -/
structure SiPath where
  a : SiChannel := {}
  b : SiChannel := {}
  /-- it has shown no demand on both channels since the path started (R364) -/
  shown : Bool := false
  deriving DecidableEq, Repr

/-- A safety input (R366, R367). -/
structure SafeInput where
  p : SiPath := {}
  l : SiPath := {}
  deriving DecidableEq, Repr

/-- What one path holds for one axis (R361, R373 to R375). -/
structure PathAxis where
  /-- STO and SS1 demanded, from the recognised inputs -/
  sto : Bool := false
  ss1 : Bool := false
  /-- an SS1 started and has not yet led to STO (R375) -/
  ss1Run : Bool := false
  /-- ss1_time_expired of R361 -/
  timeOver : Bool := false
  deriving DecidableEq, Repr

/-- The safety side of one axis. -/
structure SafeAxis where
  /-- SEN-P and SEN-L granted (R360, R361) -/
  senP : Bool := false
  senL : Bool := false
  p : PathAxis := {}
  l : PathAxis := {}
  /-- the running SS1 is that of a violation (R383) -/
  violation : Bool := false
  /-- ss1_standstill_reached of R361 -/
  standstill : Bool := false
  /-- SAFE-P cycle t0 of the SS1 demand and the safe speed then (R374) -/
  t0 : Nat := 0
  v0 : Rat := 0
  /-- SAFE-P cycle since which |v| has stayed at or below SS1_STANDSTILL -/
  stillSince : Option Nat := none
  /-- the brake outputs have been opened in this SS1 (R375) -/
  braked : Bool := false
  /-- SAFE-P cycle of the activation of SLS (R381) -/
  slsSince : Option Nat := none
  /-- speed of the axis at that activation, counts/s (R381) -/
  slsFrom : Rat := 0
  /-- SDI in force: 0 off, 1 positive only, 2 negative only, 3 none; travel from the recorded position (R382) -/
  sdi : Nat := 0
  sdiTravel : Int := 0
  /-- SAFE_SPEED (R379) -/
  speed : Rat := 0
  /-- counts of each source in the newest safety cycles, newest first, as many as SAFE_SPEED_WINDOW holds (R379) -/
  moves1 : List Rat := []
  moves2 : List Rat := []
  /-- SAFE-P cycles since the last whole window, consecutive windows of disagreement, and of agreement (R380, R399) -/
  windowCycles : Nat := 0
  disagreeRun : Nat := 0
  agreed : Bool := false
  /-- a safe counter's signal is at fault -/
  sourceFault : Bool := false
  disagreeLatch : Bool := false
  aboveAscLatch : Bool := false
  deriving DecidableEq, Repr

/-- The scope of a lock-out's cause (Table 11.4). -/
inductive LockScope where
  | input (i : SiN)
  | output (k : SbcN)
  | axis (a : AxisN)
  | device
  deriving DecidableEq, Repr

/-- A latched lock-out (R396, R397). -/
structure Lockout where
  code : Nat
  inst : Nat
  scope : LockScope
  /-- latched or adopted in SAFE-P and in SAFE-L (R363) -/
  p : Bool
  l : Bool
  /-- a violation whose SS1 still brakes: the enables stay (R361, R383) -/
  braking : Bool
  /-- SAFE-P cycle of its newest cause since the path started (R395) -/
  causedAt : Option Nat := none
  /-- SAFE-P and SAFE-L have restarted since the latch (R399) -/
  pRestarted : Bool := false
  lRestarted : Bool := false
  deriving DecidableEq, Repr

/-- SBC_STATUS.STATE but LOCKED_OUT (Table 11.15). -/
inductive BrakeState where
  | off | releasing | on
  deriving DecidableEq, Repr

/-- A brake output SBC0 to SBC15 (R388 to R391). -/
structure Brake where
  state : BrakeState := .off
  /-- the high-side and low-side switch are closed -/
  hs : Bool := false
  ls : Bool := false
  /-- coil current, mA (R391) -/
  coil : Nat := 0
  /-- pins SBCk+ and SBCk− read on at the last sample of each path, and the samples in a row in which a pin disagreed with its
  command outside a test, at most 20 (R388, R391) -/
  pinsP : Bool × Bool := (false, false)
  pinsL : Bool × Bool := (false, false)
  wrongP : Nat := 0
  wrongL : Nat := 0
  /-- SAFE-P cycle in which an off demand last ended a dark test (R390) -/
  cutAt : Option Nat := none
  /-- the dark test under way -/
  testing : Option Side := none
  pendingTest : Bool := false
  openLoad : Bool := false
  /-- SAFE-P cycle in which a dark test last started (R389) -/
  startedAt : Option Nat := none
  /-- LAST_TEST_SIDE (none: no test yet), TEST_COUNT -/
  lastSide : Option Side := none
  tests : Nat := 0
  /-- SAFE-P cycle of the end of the last test or of the first release (R389) -/
  testedAt : Nat := 0
  /-- a test has been completed, or the first release has -/
  released : Bool := false
  deriving DecidableEq, Repr

/-- THODAR_STATUS.STATE (Table 12.10). -/
inductive ConnState where
  | off | starting | run | expired
  deriving DecidableEq, Repr

/-- One Thodar connection (R402 to R411). -/
structure Conn where
  state : ConnState := .off
  /-- last accepted SEQ; none until the first envelope of a start -/
  lastSeq : Option Nat := none
  /-- safety cycle of SAFE-P in which the last DATA envelope since the start or expiry was accepted (R408) -/
  dataAt : Option Nat := none
  /-- demand bits of VI(24j) to VI(24j + 23): true = demands -/
  demand : BitVec 24 := BitVec.allOnes 24
  /-- SEQ of the next STATUS, and the payload last sent -/
  txSeq : Nat := 0
  sent : List Byte := []
  /-- reference tick of the last 0x9112 entry -/
  discardLogged : Option Nat := none
  deriving DecidableEq, Repr

/-- An entry of the change log (Table 12.6). -/
structure Change where
  entryNo : Nat
  time : Nat
  index : Nat
  sub : Nat
  source : Nat
  event : Nat
  old : Int
  new : Int
  deriving DecidableEq, Repr

/-- LOCKRST as one path reads it: as last sampled, stuck, and low samples since it was stuck (R359, R398). -/
structure Lockrst where
  high : Bool := false
  stuck : Bool := false
  lowRun : Nat := 0
  deriving DecidableEq, Repr

/-- The safety part of the module. -/
structure Safety where
  inputs : Vector SafeInput 20 := Vector.replicate 20 {}
  brakes : Vector Brake 16 := Vector.replicate 16 {}
  conns : Vector Conn 4 := Vector.replicate 4 {}
  lockouts : List Lockout := []
  /-- the lock-outs in flash (R397) -/
  storedLockouts : List Lockout := []
  /-- safety cycles since the start of each path -/
  cyclesP : Nat := 0
  cyclesL : Nat := 0
  /-- SAFE-P's status word is heard by SAFE-L, and SAFE-L's by SAFE-P (R362) -/
  heardP : Bool := false
  heardL : Bool := false
  /-- LOCKRST in SAFE-P and in SAFE-L (R359, R398) -/
  lockrstP : Lockrst := {}
  lockrstL : Lockrst := {}
  /-- SEAL_STATUS.SEALED: 0 never sealed, 1 sealed, 2 check failed (R416, R417) -/
  sealed : Nat := 0
  sealCount : Nat := 0
  /-- SEAL_CHECK_ACTIVE -/
  sealCheck : Nat := 0
  /-- the safety password (R412) -/
  password : Option (List Byte) := none
  changes : List Change := []
  /-- ENTRY_NO of the newest change-log entry -/
  changeHead : Nat := 0
  /-- the SOURCE and the staged set of an accepted CONFIG_SEAL on its way to flash (R416) -/
  sealing : Option (Nat × Store) := none
  /-- the active set of the safety configuration (R413) -/
  active : Store := []
  deriving DecidableEq, Repr

/-! ### Services and recorder (13) -/

/-- THR_STATUS.STATE (Table 13.7). -/
inductive ThrState where
  | off | armed | active | paused | crash | crashHold
  deriving DecidableEq, Repr

/-- A thruster service (R427 to R430). -/
structure Thruster where
  state : ThrState := .off
  /-- the ramped command c_r, per mille -/
  cmd : Rat := 0
  /-- the crash target c_x, per mille; a crash has been accepted and acts from the next tick (R428) -/
  crashTo : Rat := 0
  crashDue : Bool := false
  /-- PROFILE_ACCEL and PROFILE_DECEL saved by a crash in speed mode -/
  saved : Option (Int × Int) := none
  /-- the automatic shed level acts, and the level in force at the last tick -/
  auto : Bool := false
  level : Nat := 0
  deriving DecidableEq, Repr

/-- WINCH_STATUS.STATE (Table 13.13); a winch never reads PAUSED (R422). -/
inductive WinchState where
  | off | armed | active | releasing
  deriving DecidableEq, Repr

/-- The heave factor's direction of change (R438). -/
inductive Fade where
  | steady | falling | rising
  deriving DecidableEq, Repr

/-- A winch service (R431 to R443). -/
structure Winch where
  state : WinchState := .off
  /-- N_c in turns and x_c in counts (R432); none = never calibrated -/
  nC : Option Rat := none
  xC : Int := 0
  payoutValid : Bool := false
  /-- N as last stored (R432) -/
  storedN : Option Rat := none
  /-- p_0, h_0 and the integral of ROPE_SPEED_CMD (R437) -/
  p0 : Rat := 0
  h0 : Rat := 0
  integral : Rat := 0
  /-- the newest triple taken: h, h′, the time it counts as measured at in s, and the reference tick at which it was taken (R436) -/
  heave : Rat := 0
  heaveVel : Rat := 0
  measuredAt : Rat := 0
  takenAt : Option Nat := none
  /-- AHC_REF_TIME of the last triple seen and of the last one taken, and the tick of the write now in AHC_REF_TIME -/
  seen : Nat := 0
  lastTaken : Option Nat := none
  refWritten : Nat := 0
  /-- the heave factor and its change (R438) -/
  factor : Rat := 1
  fade : Fade := .steady
  tensionStale : Bool := false
  atLimit : Bool := false
  /-- RELEASING: the brake has been released; the release has ended and waits for the brake (R439, R440) -/
  released : Bool := false
  ending : Bool := false
  releaseEnd : Bool := false
  /-- TENSION_NOW, kN -/
  tension : Rat := 0
  /-- SPOOL_DIR: true = towards flange B; the direction for which SPOOL_CMP was last armed; the lag has exceeded g/2 for
  1 s (R441 to R443) -/
  spoolB : Bool := false
  armedFor : Option Bool := none
  lagLost : Bool := false
  deriving DecidableEq, Repr

/-- The services in HOST. -/
structure Services where
  thr : Vector Thruster 8 := Vector.replicate 8 {}
  winch : Vector Winch 8 := Vector.replicate 8 {}
  /-- a planned closure of HOST waits for drums in mode 2 to fade (R424): its reason, and whether HOST starts again -/
  closing : Option (CloseReason × Bool) := none
  deriving DecidableEq, Repr

/-- REC_STATUS.STATE (Table 13.17). -/
inductive RecPhase where
  | off | recording | postTrigger | frozen
  deriving DecidableEq, Repr

/-- A stored frame: its number n and its 21 sample rows (R446). -/
structure RecFrame where
  number : Nat
  rows : List (List Int)
  deriving DecidableEq, Repr

/-- A history record: its second, and minimum, maximum and mean of each signal (R447). -/
structure RecSecond where
  second : Nat
  values : List (Int × Int × Int)
  deriving DecidableEq, Repr

/-- The scree recorder (R444 to R449). -/
structure Recorder where
  phase : RecPhase := .off
  triggerTime : Nat := 0
  triggerCode : Nat := 0
  triggerInst : Nat := 0
  /-- REC_POST as it stood at the trigger, s -/
  post : Nat := 0
  missed : Nat := 0
  /-- freezes since the start of MEM -/
  freezes : Nat := 0
  gapSeen : Bool := false
  /-- the frame being filled, oldest row first -/
  filling : Option RecFrame := none
  /-- the ring, newest first -/
  frames : List RecFrame := []
  /-- running minimum, maximum, sum and number of the present second, by signal; none = no sample in it yet -/
  acc : Option (List (Int × Int × Int × Nat)) := none
  /-- the history, newest first -/
  history : List RecSecond := []
  deriving DecidableEq, Repr

/-! ### Periodic self-test (14) -/

/-- SLICE_RESULT.RESULT (Table 14.7). -/
inductive SliceResult where
  | notRun | pass | fail | aborted
  deriving DecidableEq, Repr

/-- One tested block (Table 14.1). -/
structure TestBlock where
  result : SliceResult := .notRun
  confirmed : Bool := false
  late : Bool := false
  /-- CYCLE_LATE has been reported in the present full cycle (R459) -/
  lateLogged : Bool := false
  /-- index and patterns of the last slice -/
  slice : Nat := 0
  patterns : Nat := 0
  /-- index of the next slice of the cycle -/
  next : Nat := 0
  /-- the next slice repeats one that failed (R460) -/
  repeating : Bool := false
  /-- the wait after misses, ms; 0 = none; and that it runs (R455) -/
  wait : Nat := 0
  waiting : Bool := false
  /-- start of the present full cycle -/
  cycleStart : Option Nat := none
  /-- the present cycle is one that TEST_RERUN or the full-device test started, and every slice of it has passed -/
  rerun : Bool := false
  clean : Bool := true
  /-- regions mapped out, or the lane taken out of use (R451) -/
  mappedOut : Nat := 0
  deriving DecidableEq, Repr

/-- The engine beside its blocks. -/
structure Engine where
  blocks : Vector TestBlock 266 := Vector.replicate 266 {}
  lastBlock : Nat := 0
  /-- the block each slot chose at the last arbiter tick (R452) -/
  chosen : Vector (Option Nat) 2 := Vector.replicate 2 none
  /-- a slice has started since the last arbiter tick (R296) -/
  started : Bool := false
  /-- the full-device test runs (R463) -/
  fullTest : Bool := false
  deriving DecidableEq, Repr

/-! ### Power, life cycle, firmware (15) -/

/-- POWER_MODE and OFF (R469). -/
inductive PowerMode where
  | run | quiet | dormant | off
  deriving DecidableEq, Repr

/-- FW_STATUS.STATE (Table 15.13). -/
inductive FwState where
  | idle | receiving | verifying | verified | activating | tentative | rejected | reverted
  deriving DecidableEq, Repr

/-- One firmware image kind (R482 to R486). -/
structure Firmware where
  state : FwState := .idle
  /-- ACTIVE_SLOT: false = A, true = B -/
  slot : Bool := false
  reason : Nat := 0
  /-- bytes of the image in the inactive slot -/
  image : List Byte := []
  /-- VERSION of the slots; 0 = invalid -/
  versionA : Nat := 1
  versionB : Nat := 0
  /-- reference tick at which the last of its domains reached RUN from the new slot -/
  ranSince : Option Nat := none
  deriving DecidableEq, Repr

/-- What a closure of every domain except KEEP leads to (R470, R476, R479, R463, R485). -/
inductive Closing where
  | dormant | restart (lastStart : Nat)
  deriving DecidableEq, Repr

/-- Supply, modes and life cycle. -/
structure Power where
  mode : PowerMode := .off
  /-- a supply failure has been declared and the hold-up runs (R476) -/
  failing : Bool := false
  /-- the supply returned during the hold-up (R477) -/
  returned : Bool := false
  /-- DORMANT was entered by supply loss (R474) -/
  bySupply : Bool := false
  /-- the closure of every domain except KEEP under way -/
  closing : Option Closing := none
  /-- the target of an accepted life-cycle transition (R479) -/
  lcPending : Option Nat := none
  /-- ticks of 2.5 ns since RTC_TIME last counted a second (R471) -/
  rtcTicks : Nat := 0
  /-- bytes of LC_TOKEN -/
  token : List Byte := []
  fw : Vector Firmware 3 := Vector.replicate 3 {}
  /-- boundary scan is open (R463) -/
  bscan : Bool := false
  deriving DecidableEq, Repr

/-! ### The whole machine -/

/-- Everything the manual gives one axis. -/
structure Axis where
  field : Field := {}
  reaction : ReactionLogic := {}
  saddle : Saddle := {}
  step : Stepper := {}
  prof : Profile := {}
  home : Homing := {}
  safe : SafeAxis := {}
  member : Member := {}
  deriving DecidableEq, Repr

/-- The state of the module. -/
structure State where
  ref : RefClock
  /-- values written and in force; an unlisted address reads as its card's default -/
  objs : Store
  /-- values accepted and waiting for their boundary (R13, R14) -/
  staged : Store
  /-- reference ticks at which waiting values were written (R233) -/
  stagedAt : Store
  /-- STORED values that have reached flash (R354) -/
  flash : Store
  domains : Vector Domain 12
  crests : Vector Crest 4
  legs : Vector Leg 48
  groups : Vector LegGroup 6
  inputs : Vector CurrentInput 48
  sds : Vector SdInput 16
  channels : Vector Channel 48
  /-- reference tick of the newest transitions accepted on a channel, and the channel as it stood before that tick (R121) -/
  beforeTick : Vector (Option (Nat × Channel)) 48
  passes : Vector PassThrough 8
  /-- excitation outputs: true = switched off for 10 ms after an overload (R139) -/
  excOff : Vector Bool 2
  axes : Vector Axis 16
  tables : Vector MicroTable 4
  units : Vector Compare 32
  compareOuts : Vector CompareOut 8
  /-- axes waiting for placement on a crest, in order (R201) -/
  migration : List AxisN
  /-- the block whose slice runs in self-test slot 16 and in slot 17 (R453) -/
  slices : Vector (Option Nat) 2
  slots : Vector Group 16
  can : Vector CanPort 2
  arbiter : Arbiter
  safety : Safety
  engine : Engine
  svc : Services
  recorder : Recorder
  net : Network
  power : Power
  log : EventLog
  /-- what has left the module, newest first -/
  out : List Output
  /-- draws taken from the free values that are drawn afresh each time -/
  draws : Nat
  /-- writes of HOST and SAFE-P in the running command whose check arrives turned over: address and bits (Table 1.9, kind
  0x05); empty between commands -/
  writeFlips : List (Nat × BitVec 8)
  pending : List Instr
  deriving DecidableEq, Repr

/-- Faults that stop the machine. -/
inductive Fault where
  /-- An absolute maximum rating was exceeded: the manual does not describe the module after it (R487).
  Raised by SUPPLY_ON. Safe: nothing is claimed of a module beyond its ratings. -/
  | absoluteMaximum
  deriving DecidableEq, Repr

/-- Refusals. -/
inductive Refusal where
  /-- A command that has no meaning yet. Raised by `exec` only. Safe. -/
  | notModelled (mnemonic : String)
  deriving DecidableEq, Repr

/-- The module as it stands with no supply: every object at its card's default, every domain OFF (R474, R477).
SUPPLY_ON starts it. What no rule gives a value is 0, false, none or empty: DESIGN CHOICE, log entry 4. -/
def State.reset : State where
  ref := {}
  objs := []
  staged := []
  stagedAt := []
  flash := []
  domains := Vector.replicate 12 {}
  crests := Vector.replicate 4 {}
  legs := Vector.replicate 48 {}
  groups := Vector.replicate 6 {}
  inputs := Vector.replicate 48 {}
  sds := Vector.replicate 16 {}
  channels := Vector.replicate 48 {}
  beforeTick := Vector.replicate 48 none
  passes := Vector.replicate 8 {}
  excOff := Vector.replicate 2 false
  axes := Vector.replicate 16 {}
  tables := Vector.replicate 4 {}
  units := Vector.replicate 32 {}
  compareOuts := Vector.replicate 8 {}
  migration := []
  slices := Vector.replicate 2 none
  slots := Vector.replicate 16 {}
  can := Vector.replicate 2 {}
  arbiter := {}
  safety := {}
  engine := {}
  svc := {}
  recorder := {}
  net := {}
  power := {}
  log := {}
  out := []
  draws := 0
  writeFlips := []
  pending := []

end Sys2Proof.Machine
end

