-- ==== Sys2Proof/Machine/Packets.lean ====
section
/-! DEFINITION. Byte order, CRC-32C, and Orham packets as bytes: header, references, payload and end check, and the Ethernet
frame around them (R9, R222 of 06, R329, R335, R336 of 10). -/

namespace Sys2Proof.Machine

/-! ### Bytes (R9) -/

/-- n bytes of a value, least significant first. -/
def leBytes : Nat → Int → List Byte
  | 0, _ => []
  | n + 1, v => BitVec.ofInt 8 v :: leBytes n (v.fdiv 256)
/-- The value of bytes, least significant first. -/
def leVal : List Byte → Nat
  | [] => 0
  | b :: bs => b.toNat + 256 * leVal bs

/-- One bit step of the reflected CRC-32C (R222). -/
def crc32Bit (c : Word) : Word := if c.getLsbD 0 then (c >>> 1) ^^^ 0x82F63B78#32 else c >>> 1
/-- One byte of the CRC-32C. -/
def crc32Byte (c : Word) (b : Byte) : Word :=
  crc32Bit (crc32Bit (crc32Bit (crc32Bit (crc32Bit (crc32Bit (crc32Bit (crc32Bit (c ^^^ b.zeroExtend 32))))))))
/-- CRC-32C: polynomial 0x1EDC6F41 reflected, initial value and final XOR 0xFFFFFFFF (R222). -/
def crc32c (bs : List Byte) : Word := bs.foldl crc32Byte 0xFFFFFFFF#32 ^^^ 0xFFFFFFFF#32

/-! ### Orham packets (R329, R335, R336) -/

/-- Type codes (Table 10.10). -/
def Ty.code : Ty → Nat
  | .u8 => 2 | .u16 => 3 | .u32 => 4 | .u64 => 5 | .i8 => 6 | .i16 => 7 | .i32 => 8 | .i64 => 9 | .f32 => 10
  | .str => 11 | .domain => 12

/-- An Orham packet: the fields of its header that carry a value, its references and its payload (Tables 10.4, 10.5). -/
structure Packet where
  version : Nat := 1
  /-- 0 REQUEST, 1 REPLY, 2 PROGRESS, 3 CYCLIC, 4 EVENT, 5 SAFETY, 6 IDENTIFY -/
  kind : Nat
  refs : List Ref := []
  dst : Nat
  src : Nat
  session : Nat := 0xFF
  command : Nat
  seq : Nat
  code : Reply := .ok
  reason : Nat := 0
  payload : List Byte
  /-- by how many bytes LENGTH exceeds the payload -/
  lacking : Nat := 0
  deriving DecidableEq, Repr

/-- Reply codes as bytes (Table 10.7). -/
def Reply.byte : Reply → Nat
  | .ok => 0 | .busy => 1 | .notAvailable => 2 | .accessDenied => 3 | .outOfRange => 4 | .typeMismatch => 5
  | .unknownObject => 6 | .superseded => 7 | .locked => 8 | .updating => 9 | .checkFailed => 0x0A | .deferred => 0x0B
  | .refused => 0x0C

/-- Header, references and payload: the bytes under the end check (R336). -/
def Packet.body (p : Packet) : List Byte :=
  leBytes 1 (p.version * 0x10 + p.kind : Nat) ++ leBytes 1 (p.refs.length : Nat) ++ leBytes 2 (p.dst : Nat) ++ leBytes 2 (p.src : Nat)
    ++ leBytes 1 (p.session : Nat) ++ leBytes 1 (p.command : Nat) ++ leBytes 2 (p.seq : Nat)
    ++ leBytes 2 (p.payload.length + p.lacking : Nat) ++ leBytes 1 (p.code.byte : Nat) ++ leBytes 1 (p.reason : Nat) ++ leBytes 2 0
    ++ (p.refs.flatMap fun r => leBytes 2 (r.index : Nat) ++ leBytes 1 (r.sub : Nat) ++ [0#8]) ++ p.payload
/-- The packet with its end check (R336). -/
def Packet.bytes (p : Packet) : List Byte := p.body ++ leBytes 4 ((crc32c p.body).toNat : Nat)

/-- A packet is accepted by its bytes: its end check, VERSION, REF_COUNT and LENGTH (R337). -/
def Packet.accepted (p : Packet) (endCheck : Word) : Bool :=
  crc32c p.body == endCheck && p.version == 1 && p.refs.length ≤ 8 && p.payload.length ≤ 1440 && p.lacking == 0

/-- The priority that a packet is sent with (Table 10.1). -/
def Packet.pcp (p : Packet) : Nat :=
  match p.kind with
  | 5 => 6
  | 3 => 5
  | 4 => 4
  | _ => 0

/-- n bytes of a value in network byte order (R335). -/
def netBytes (n v : Nat) : List Byte := (leBytes n v).reverse

/-- An Ethernet frame up to its FCS (Table 10.3); zeros fill the payload up to the minimum of 46 bytes (R335). -/
def ethernetBytes (dstMac srcMac pcp vid etherType : Nat) (packet : List Byte) : List Byte :=
  netBytes 6 dstMac ++ netBytes 6 srcMac ++ netBytes 2 0x8100 ++ netBytes 2 (pcp * 0x2000 + vid % 0x1000)
    ++ netBytes 2 etherType ++ packet ++ List.replicate (46 - packet.length) 0#8

/-- The value of bytes in network byte order (R335). -/
def netVal (bs : List Byte) : Nat := leVal bs.reverse
/-- The frame carries an IEEE 802.1Q tag: its TPID is 0x8100 (Table 10.3). -/
def isTagged (h : Header) : Bool := netVal (h.framing.take 2) == 0x8100
/-- PCP of the frame's tag; a frame that arrives untagged counts as PCP 0 (R329). -/
def pcpOf (h : Header) : Nat := if isTagged h then netVal ((h.framing.drop 2).take 2) / 0x2000 else 0
/-- EtherType of the frame (Table 10.3). -/
def etherTypeOf (h : Header) : Nat := netVal ((if isTagged h then h.framing.drop 4 else h.framing).take 2)

/-- The egress queue of a priority (Table 10.1). -/
def queueOf (pcp : Nat) : Fin 4 := if 6 ≤ pcp then 3 else if pcp = 5 then 2 else if pcp = 4 then 1 else 0

/-- The multicast address of EVENT packets (R334). -/
def eventMac : Nat := 0x035548000001
/-- The multicast address of cyclic frame k of a device (R334). -/
def cyclicMac (segment node k : Nat) : Nat := 0x035548000000 + segment % 256 * 0x10000 + node % 256 * 0x100 + k

end Sys2Proof.Machine
end

