-- ==== Sys2Proof/Machine/Ops.lean ====
section
/-! DEFINITION. The named operations over the state: stores, events, fault counting, legs and gates, the axis
reaction, and the transitions of an axis. Every meaning is written over these. -/

namespace Sys2Proof.Machine

/-! ### Check values (R28, R29) -/

/-- One bit step of the 8-bit check (R29). -/
def crc8Bit (c : BitVec 8) : BitVec 8 := if c.msb then (c <<< 1) ^^^ 0x2F#8 else c <<< 1
/-- One byte of the 8-bit check, most significant bit first. -/
def crc8Byte (c b : BitVec 8) : BitVec 8 :=
  crc8Bit (crc8Bit (crc8Bit (crc8Bit (crc8Bit (crc8Bit (crc8Bit (crc8Bit (c ^^^ b))))))))
/-- The 8-bit check of a fabric word: polynomial 0x2F, initial value 0xFF, least significant byte first (R29). -/
def crc8 (w : Word) : BitVec 8 :=
  crc8Byte (crc8Byte (crc8Byte (crc8Byte 0xFF#8 (w.extractLsb' 0 8)) (w.extractLsb' 8 8)) (w.extractLsb' 16 8))
    (w.extractLsb' 24 8)

/-- The check of a number carried as one 32-bit word. -/
def checkOf (v : Int) : BitVec 8 := crc8 (BitVec.ofInt 32 v)
/-- A number as n words of 32 bits, two's complement, least significant first. -/
def wordsOf (n : Nat) (v : Int) : List Int := (List.range n).map fun k => v / 2 ^ (32 * k) % 0x100000000
/-- The checks of a token of several words. -/
def checksOf (n : Nat) (v : Int) : List (BitVec 8) := (wordsOf n v).map checkOf
/-- A check of which bits were turned over on the way: of several, the first. -/
def flipFirst (flip : BitVec 8) : List (BitVec 8) → List (BitVec 8)
  | [] => []
  | c :: cs => (c ^^^ flip) :: cs
/-- The checks of a set-point token: four words each of position and velocity. DESIGN CHOICE, log entry 110. -/
def SetPoint.sum (p : SetPoint) : List (BitVec 8) := checksOf 4 p.pos ++ checksOf 4 p.vel
/-- A speed as the token of a snapshot carries it, in 2^−16 counts/s. DESIGN CHOICE, log entry 110. -/
def speedWord (v : Rat) : Int := (v * 65536).floor
/-- The checks of a snapshot: position, fraction, two words of speed, flags, two words of timestamp (R28, R120).
DESIGN CHOICE, log entry 110. -/
def Snapshot.sum (x : Snapshot) : List (BitVec 8) :=
  [checkOf x.position, checkOf x.fraction] ++ checksOf 2 (speedWord x.speed) ++ [checkOf x.flags] ++ checksOf 2 x.stamp
/-- A conversion passes its check at the crest (R28, R32). DEDUCED, log entry 138. -/
def convOk (c : Conversion) : Bool := c.check == checkOf c.code

/-! ### Access to the instances -/

/-- Axis a. -/
def State.axis (s : State) (a : AxisN) : Axis := s.axes[a]
/-- Leg l. -/
def State.leg (s : State) (l : LegN) : Leg := s.legs[l]
/-- Update axis a. -/
def State.modAxis (s : State) (a : AxisN) (f : Axis → Axis) : State :=
  { s with axes := s.axes.set a (f s.axes[a]) }
/-- Update the field control of axis a. -/
def State.modField (s : State) (a : AxisN) (f : Field → Field) : State :=
  s.modAxis a fun x => { x with field := f x.field }
/-- Update the reaction logic of axis a. -/
def State.modReact (s : State) (a : AxisN) (f : ReactionLogic → ReactionLogic) : State :=
  s.modAxis a fun x => { x with reaction := f x.reaction }
/-- Update the sampling state of axis a. -/
def State.modSaddle (s : State) (a : AxisN) (f : Saddle → Saddle) : State :=
  s.modAxis a fun x => { x with saddle := f x.saddle }
/-- Update the stepper state of axis a. -/
def State.modStep (s : State) (a : AxisN) (f : Stepper → Stepper) : State :=
  s.modAxis a fun x => { x with step := f x.step }
/-- Update the profile generator of axis a. -/
def State.modProf (s : State) (a : AxisN) (f : Profile → Profile) : State :=
  s.modAxis a fun x => { x with prof := f x.prof }
/-- Update the homing of axis a. -/
def State.modHome (s : State) (a : AxisN) (f : Homing → Homing) : State :=
  s.modAxis a fun x => { x with home := f x.home }
/-- Update leg l. -/
def State.modLeg (s : State) (l : LegN) (f : Leg → Leg) : State :=
  { s with legs := s.legs.set l (f s.legs[l]) }
/-- Update every leg of a list. -/
def State.modLegs (s : State) (ls : List LegN) (f : LegN → Leg → Leg) : State :=
  ls.foldl (fun s l => s.modLeg l (f l)) s
/-- Update leg group g. -/
def State.modGroup (s : State) (g : GroupN) (f : LegGroup → LegGroup) : State :=
  { s with groups := s.groups.set g (f s.groups[g]) }
/-- Update current input l. -/
def State.modInput (s : State) (l : LegN) (f : CurrentInput → CurrentInput) : State :=
  { s with inputs := s.inputs.set l (f s.inputs[l]) }
/-- Update sigma-delta input i. -/
def State.modSd (s : State) (i : SdN) (f : SdInput → SdInput) : State :=
  { s with sds := s.sds.set i (f s.sds[i]) }
/-- Update feedback channel f. -/
def State.modChan (s : State) (i : ChanN) (f : Channel → Channel) : State :=
  { s with channels := s.channels.set i (f s.channels[i]) }
/-- Update crest c. -/
def State.modCrest (s : State) (c : CrestN) (f : Crest → Crest) : State :=
  { s with crests := s.crests.set c (f s.crests[c]) }
/-- Update domain d. -/
def State.modDomain (s : State) (d : DomainN) (f : Domain → Domain) : State :=
  { s with domains := s.domains.set d (f s.domains[d]) }
/-- Update compare unit u. -/
def State.modUnit (s : State) (u : UnitN) (f : Compare → Compare) : State :=
  { s with units := s.units.set u (f s.units[u]) }
/-- Update microstep table t. -/
def State.modTable (s : State) (t : TableN) (f : MicroTable → MicroTable) : State :=
  { s with tables := s.tables.set t (f s.tables[t]) }
/-- Update requester r of the arbiter. -/
def State.modReq (s : State) (r : Fin 18) (f : Requester → Requester) : State :=
  { s with arbiter := { s.arbiter with reqs := s.arbiter.reqs.set r (f s.arbiter.reqs[r]) } }
/-- Update group slot g. -/
def State.modSlot (s : State) (g : SlotN) (f : Group → Group) : State :=
  { s with slots := s.slots.set g (f s.slots[g]) }
/-- Update the member state of axis a. -/
def State.modMember (s : State) (a : AxisN) (f : Member → Member) : State :=
  s.modAxis a fun x => { x with member := f x.member }
/-- Update CAN port p. -/
def State.modCan (s : State) (p : CanN) (f : CanPort → CanPort) : State :=
  { s with can := s.can.set p (f s.can[p]) }
/-- The place of a block id (type × 256 + instance) among the tested blocks of Table 14.1, with the spare lanes of R451
as the last instances of types 0x05 and 0x06; none for an id that names no block. -/
def blockIx (id : Nat) : Option (Fin 266) :=
  let i := id % 256
  let place := fun (base n : Nat) => if h : i < n ∧ base + n ≤ 266 then
    some (⟨base + i, by omega⟩ : Fin 266) else none
  match id / 256 with
  | 0x01 => place 0 4
  | 0x02 => place 4 4
  | 0x03 => place 8 1
  | 0x04 => place 9 48
  | 0x05 => place 57 18
  | 0x06 => place 75 54
  | 0x07 => place 129 48
  | 0x08 => place 177 16
  | 0x09 => place 193 16
  | 0x0A => place 209 16
  | 0x0B => place 225 32
  | 0x0C => place 257 1
  | 0x0D => place 258 4
  | 0x0E => place 262 1
  | 0x0F => place 263 2
  | 0x10 => place 265 1
  | _ => none
/-- The block with an id; a block that never ran where the id names none. -/
def State.block (s : State) (id : Nat) : TestBlock :=
  match blockIx id with
  | some i => s.engine.blocks[i]
  | none => {}
/-- Update the block with an id. -/
def State.modBlock (s : State) (id : Nat) (f : TestBlock → TestBlock) : State :=
  match blockIx id with
  | some i => { s with engine := { s.engine with blocks := s.engine.blocks.set i (f s.engine.blocks[i]) } }
  | none => s

/-- The requester number of axis a. -/
def reqOf (a : AxisN) : Fin 18 := ⟨a.val, by omega⟩
/-- Append an output. DESIGN CHOICE, log entry 101. -/
def State.emit (s : State) (o : Output) : State := { s with out := o :: s.out }

/-- Fold an update over a list of instances. -/
def State.each {α : Type} (s : State) (xs : List α) (f : State → α → State) : State := xs.foldl f s

/-- The domains by name, in Table 1.15 order (R465). -/
abbrev Dom.keep : DomainN := 0
/-- SAFE-P -/
abbrev Dom.safeP : DomainN := 1
/-- SAFE-L -/
abbrev Dom.safeL : DomainN := 2
/-- NET -/
abbrev Dom.net : DomainN := 3
/-- BUS -/
abbrev Dom.bus : DomainN := 4
/-- HOST -/
abbrev Dom.host : DomainN := 5
/-- MEM -/
abbrev Dom.mem : DomainN := 6
/-- CREST0 to CREST3 -/
def Dom.crest (c : CrestN) : DomainN := ⟨7 + c.val, by omega⟩
/-- FEED -/
abbrev Dom.feed : DomainN := 11

/-- Domain d is in RUN: it works until its gatekeepers have drained (R41, Table 15.9). DEDUCED, log entry 80. -/
def State.runs (s : State) (d : DomainN) : Bool := s.domains[d].state == .run || s.domains[d].state == .stopping

/-! ### The dictionary's stores -/

/-- The value of an address in a store. DESIGN CHOICE, log entry 3. -/
def storeGet : Store → Nat → Option Int
  | [], _ => none
  | (k, v) :: m, a => if a < k then none else if a = k then some v else storeGet m a

/-- Remove an address from a store. -/
def storeErase : Store → Nat → Store
  | [], _ => []
  | (k, v) :: m, a => if a < k then (k, v) :: m else if a = k then m else (k, v) :: storeErase m a

/-- Put a value into a store, in address order. DESIGN CHOICE, log entry 3. -/
def storePut : Store → Nat → Int → Store
  | [], a, v => [(a, v)]
  | (k, w) :: m, a, v =>
    if a < k then (a, v) :: (k, w) :: m else if a = k then (a, v) :: m else (k, w) :: storePut m a v

/-- Put a value into a store whose unlisted addresses read as the card's default: writing the default removes the
entry. DESIGN CHOICE, log entry 3. -/
def storeSet (m : Store) (a : Nat) (v : Int) : Store :=
  if v = defaultOf a then storeErase m a else storePut m a v

/-- The canonical form of a store: addresses strictly rising. -/
def storeSorted : Store → Bool
  | [] => true
  | [_] => true
  | (a, _) :: (b, v) :: m => decide (a < b) && storeSorted ((b, v) :: m)

/-- The canonical form of a store with defaults: addresses strictly rising, and no entry equal to its default.
DESIGN CHOICE, log entry 3. -/
def storeWf (m : Store) : Bool := storeSorted m && m.all fun p => p.2 != defaultOf p.1

/-- The value of an object in force. DESIGN CHOICE, log entry 3. -/
def State.cfg (s : State) (a : Nat) : Int := (storeGet s.objs a).getD (defaultOf a)
/-- The value of an object in force, as a natural number. -/
def State.cfgN (s : State) (a : Nat) : Nat := (s.cfg a).toNat
/-- The value of an F32 object in force. -/
def State.cfgF (s : State) (a : Nat) : Rat := f32Rat (s.cfg a)
/-- The value an object reads back: the waiting one where there is one (R14). -/
def State.val (s : State) (a : Nat) : Int := ((storeGet s.staged a)).getD (s.cfg a)
/-- Set an object's value in force. -/
def State.setObj (s : State) (a : Nat) (v : Int) : State := { s with objs := storeSet s.objs a v }
/-- Put a value in wait for its boundary; a second one replaces it (R14). -/
def State.stage (s : State) (a : Nat) (v : Int) : State :=
  { s with staged := storePut s.staged a v, stagedAt := storePut s.stagedAt a s.ref.time }
/-- Bring the waiting values of the selected addresses into force (R13). -/
def State.applyStaged (s : State) (sel : Nat → Bool) : State :=
  let now := s.staged.filter fun p => sel p.1
  { s with
    objs := now.foldl (fun m p => storeSet m p.1 p.2) s.objs
    staged := s.staged.filter fun p => !sel p.1
    stagedAt := s.stagedAt.filter fun p => !sel p.1 }
/-- Forget a value in wait. -/
def State.unstage (s : State) (a : Nat) : State :=
  { s with staged := storeErase s.staged a, stagedAt := storeErase s.stagedAt a }
/-- Add to a 32-bit counter object that holds at its maximum. -/
def State.count (s : State) (a : Nat) (n : Nat := 1) (max : Int := 0xFFFFFFFF) : State :=
  s.setObj a (min (s.cfg a + n) max)

/-! ### Events and fault counting -/

/-- Ticks of 2.5 ns in a microsecond, a millisecond, a second (R19). -/
def ticksPerUs : Nat := 400
/-- Ticks in a millisecond. -/
def ticksPerMs : Nat := 400000
/-- Ticks in a second. -/
def ticksPerS : Nat := 400000000

/-- A fault code of Table 0.6. -/
def faultCode (block cls specific : Nat) : Nat := block * 0x1000 + cls * 0x100 + specific

/-- The instance of a code that concerns none (R16). -/
def noInstance : Nat := 0xFFFF

/-- Take a freeze trigger of the recorder, or count a missed one; REC_POST is used as it stands now (R448). -/
def State.recTrigger (s : State) (code inst : Nat) : State :=
  match s.recorder.phase with
  | .recording => { s with recorder := { s.recorder with
      phase := .postTrigger, triggerTime := s.ref.time, triggerCode := code, triggerInst := inst
      post := s.cfgN O.recPost } }
  | .postTrigger | .frozen => { s with recorder := { s.recorder with
      missed := min (s.recorder.missed + 1) 255 } }
  | .off => s

/-- An event's code matches a REC_TRIGGER entry under its mask (R448). -/
def State.recMatches (s : State) (code : Nat) : Bool :=
  (List.range 16).any fun k =>
    let e := s.cfgN (O.recTrigger k)
    let c := e / 0x10000
    let m := e % 0x10000
    e != 0 && c &&& m == code &&& m

/-- The module's own address word (R333, Table 10.2). -/
def State.address (s : State) : Nat := s.cfgN O.segment * 256 + s.cfgN O.node

/-- Link of an Ethernet port is up. -/
def EthPort.up (x : EthPort) : Bool := x.state == .up1000 || x.state == .up100
/-- Update Ethernet port p. -/
def State.modEth (s : State) (p : EthN) (f : EthPort → EthPort) : State :=
  { s with net := { s.net with ports := s.net.ports.set p (f s.net.ports[p]) } }
/-- The Ethernet port of a source. -/
def ethOf : Port → Option EthN
  | .ethA => some 0
  | .ethB => some 1
  | .safety | .service | .canA | .canB | .host => none

/-- Hold a number within bounds. -/
def clampI (lo hi v : Int) : Int := max lo (min hi v)

/-- The ticks a frame of `n` bytes takes on the wire, with the preamble and the gap between frames of IEEE 802.3. PRESUMED,
log entry 157. -/
def EthPort.wireTicks (x : EthPort) (n : Nat) : Nat := ((max n 64 + 20) * (if x.state == .up1000 then 16 else 160) + 4) / 5
/-- The queue served next at a tick: the highest that holds a frame, once no frame of it or of a higher one is being sent, and for
the two store-and-forward queues none at all (R329). DEDUCED, log entry 160. -/
def EthPort.serves (x : EthPort) (now : Nat) : Option (Fin 4) :=
  ([3, 2, 1, 0] : List (Fin 4)).find? fun k => !x.queues[k].isEmpty &&
    (List.finRange 4).all fun j => (2 ≤ k.val && decide (j < k)) || x.sending[j] ≤ now
/-- The head of queue k starts: a frame of a lower queue that it overtakes goes on after it (R329). DEDUCED, log entry 160. -/
def EthPort.startNext (x : EthPort) (k : Fin 4) (now length : Nat) : EthPort :=
  let n := x.wireTicks length
  { x with
    queues := x.queues.set k x.queues[k].tail
    sending := Vector.ofFn fun j => if j = k then now + n else if x.sending[j] ≤ now then x.sending[j] else x.sending[j] + n }
/-- The port's queues are empty and nothing is being sent. -/
def EthPort.clear (x : EthPort) : EthPort := { x with queues := Vector.replicate 4 [], sending := Vector.replicate 4 0, residence := [] }

/-- What a frame leaves port p as, and the port after it. A Delay_Req is time-stamped as it leaves; with
PTP_TC 1 the residence time goes into correctionField of a one-step event message, and of a two-step Sync into its
Follow_Up (R331). DESIGN CHOICE, log entry 158. -/
def State.transparent (s : State) (x : EthPort) (q : Queued) : Output × EthPort :=
  match q.out with
  | .delayReq _ _ seq => (q.out, { x with delayLeft := some (seq, s.ref.time) })
  | .ethFrame p f =>
    match f.ptp with
    | some m =>
      if s.cfgN O.ptpTc = 0 then (q.out, x)
      else
        let spent := ((s.ref.time - q.since : Nat) : Int) * 163840 + clampI (-524288) 524288 (Config.residenceError p.val x.measured)
        let x := { x with measured := x.measured + 1 }
        let with_ := fun (r : Int) => Output.ethFrame p { f with ptp := some { m with correction := m.correction + r } }
        match m.kind, m.twoStep with
        | .sync, true => (q.out, { x with residence := ((m.source, m.seq, spent) :: x.residence).take 16 })
        | .sync, false | .delayReq, _ => (with_ spent, x)
        | .followUp, _ =>
          match x.residence.find? fun r => r.1 == m.source && r.2.1 == m.seq with
          | some r => (with_ r.2.2, { x with residence := x.residence.filter (· != r) })
          | none => (q.out, x)
        | .other, _ => (q.out, x)
    | none => (q.out, x)
  | _ => (q.out, x)

/-- A frame leaves port p. -/
def State.leave (s : State) (p : EthN) (x : EthPort) (q : Queued) : State :=
  (s.modEth p fun _ => (s.transparent x q).2).emit (s.transparent x q).1

/-- Port p serves its egress queues (R329). -/
def State.serveEth (s : State) (p : EthN) : State :=
  let x := s.net.ports[p]
  match x.serves s.ref.time with
  | none => s
  | some k =>
    match x.queues[k] with
    | [] => s
    | q :: _ => s.leave p (x.startNext k s.ref.time q.length) q

/-- A frame of `length` bytes, FCS included, comes to the egress of port p, which drops it while its link is not up (R329, R357).
DEDUCED, log entry 160. -/
def State.egress (s : State) (p : EthN) (pcp length : Nat) (out : Output) : State :=
  if s.net.ports[p].up then
    (s.modEth p fun x => { x with
      queues := x.queues.set (queueOf pcp) (x.queues[queueOf pcp] ++ [{ out, length, since := s.ref.time }]) }).serveEth p
  else s

/-- What waits in the egress queues of port p leaves before a planned closure takes the port down (R341). -/
def State.flushEth (s : State) (p : EthN) : State :=
  s.each (([3, 2, 1, 0] : List (Fin 4)).flatMap fun k => s.net.ports[p].queues[k]) fun s q => s.leave p s.net.ports[p] q

/-- A packet leaves a port for a MAC address (R329, R335, R342). -/
def State.sendPacket (s : State) (port : Port) (mac : Nat) (p : Packet) : State :=
  match ethOf port with
  | some n =>
    let bytes := ethernetBytes mac (Config.ethMac % 2 ^ 48) p.pcp (s.cfgN O.orhamVid) (s.cfgN O.orhamEthertype) p.bytes
    s.egress n p.pcp (bytes.length + 4) (.packet port bytes)
  | none => s.emit (.packet port p.bytes)
/-- A packet leaves both Ethernet ports. -/
def State.sendBoth (s : State) (mac : Nat) (p : Packet) : State := (s.sendPacket .ethA mac p).sendPacket .ethB mac p

/-- The EVENT packet of an announcement (R355). -/
def State.eventPacket (s : State) (e : Event) : Packet :=
  { kind := 4, dst := s.cfgN O.eventDest, src := s.address, command := Config.openHeader 4 7, seq := Config.openHeader 4 8
    payload := leBytes 2 (e.code : Nat) ++ leBytes 2 (e.inst : Nat) ++ leBytes 8 (e.time : Nat) ++ leBytes 2 (e.entry : Nat) }
/-- Send an announcement on both ports (R355). -/
def State.sendEvent (s : State) (e : Event) : State :=
  if s.runs Dom.net then s.sendBoth eventMac (s.eventPacket e) else s

/-- Enter an event in the log at the next ring entry (R356); an announced one is sent and asserts ATTN (R355).
DEDUCED, log entry 98. -/
def State.logEntry (s : State) (code inst : Nat) (announced : Bool) : State :=
  let L := s.log
  let e := if L.made then (L.head + 1) % 1008 else 0
  let ev : Event := { code, inst, time := s.ref.time, unread := true, announced, entry := e }
  let past := L.entries.filter fun x => x.entry == e && x.unread
  let s := if past.isEmpty then s else s.count O.eventLost
  let s := { s with log := { L with
    entries := ev :: L.entries.filter (fun x => x.entry != e)
    head := e
    made := true
    announcedUnread := if announced then min (L.announcedUnread + 1) 0xFFFF else L.announcedUnread
    unheard := if announced then ev :: L.unheard else L.unheard
    passed := past ++ L.passed.filter fun (x : Event) => !past.any fun (y : Event) => x.code == y.code && x.inst == y.inst
    attn := L.attn || announced } }
  let s := if announced then s.sendEvent ev else s
  if s.recMatches code then s.recTrigger code inst else s

/-- Report a code that is logged only. DEDUCED, log entries 77 and 98. -/
def State.event (s : State) (code inst : Nat) : State := s.logEntry code inst false
/-- Report a code that is announced on the network and on ATTN (R1, R355). DEDUCED, log entry 98. -/
def State.announce (s : State) (code inst : Nat) : State := s.logEntry code inst true

/-- A token of a kind of Table 1.9 from a producer fails its check: counted and reported (R32). -/
def State.checkReport (s : State) (kind producer : Nat) : State :=
  (s.count (O.checkFailCount (kind - 1))).event 0xC201 (kind * 256 + producer)

/-- The faults of a class whose age is at most the window, both ends included (R86). -/
def countIn (faults : List Stamp) (cls now windowS : Nat) : Nat :=
  (faults.filter fun f => f.cls == cls && now - f.time ≤ windowS * ticksPerS).length

/-- The class digit of a counted fault (R86): 2 the first, 3 a later one, 4 the one that retires. -/
def classDigit (count retire : Nat) : Nat := if retire ≤ count then 4 else if count ≤ 1 then 2 else 3

/-- Count a fault: the new list, its class digit, and whether it retires the unit. -/
def countFault (faults : List Stamp) (cls now windowS retire : Nat) : List Stamp × Nat × Bool :=
  let fs := { cls, time := now } :: faults
  let n := countIn fs cls now windowS
  (fs, classDigit n retire, retire ≤ n)

/-! ### Axes, phases and legs -/

/-- All axes, legs and so on, in ascending order. -/
def allAxes : List AxisN := List.finRange 16
/-- Legs 0 to 47. -/
def allLegs : List LegN := List.finRange 48
/-- Channels 0 to 47. -/
def allChans : List ChanN := List.finRange 48
/-- Crests 0 to 3. -/
def allCrests : List CrestN := List.finRange 4
/-- Compare units 0 to 31. -/
def allUnits : List UnitN := List.finRange 32

/-- AXIS_TYPE of axis a: 0 none, 1 and 2 PM, 3 induction, 4 stepper. -/
def State.axisType (s : State) (a : AxisN) : Nat := s.cfgN (O.axisType a)
/-- A PM axis. -/
def State.isPM (s : State) (a : AxisN) : Bool := s.axisType a == 1 || s.axisType a == 2
/-- A stepper axis. -/
def State.isStepper (s : State) (a : AxisN) : Bool := s.axisType a == 4
/-- Legs per phase in the sense of R82 and R207: a stepper's legs are phases of their own. -/
def State.phaseLegs (s : State) (a : AxisN) : Nat :=
  if s.isStepper a then 1 else s.cfgN (O.legsPerPhase a)
/-- Number of phases: 3, or the four legs of a stepper (R155, R207). -/
def State.phaseCount (s : State) (a : AxisN) : Nat :=
  if s.axisType a == 0 then 0 else if s.isStepper a then 4 else 3
/-- The legs of axis a, in ascending order (R155). -/
def State.legsOf (s : State) (a : AxisN) : List LegN :=
  let f := s.cfgN (O.firstLeg a)
  let n := s.phaseCount a * s.phaseLegs a
  allLegs.filter fun l => f ≤ l.val && l.val < f + n
/-- The axis that leg l belongs to. -/
def State.axisOf (s : State) (l : LegN) : Option AxisN := allAxes.find? fun a => (s.legsOf a).contains l
/-- The phase of leg l within its axis a: 0 U, 1 V, 2 W (R156). -/
def State.phaseOf (s : State) (a : AxisN) (l : LegN) : Nat :=
  (l.val - s.cfgN (O.firstLeg a)) / s.phaseLegs a
/-- The home crest of axis a (R3). -/
def State.homeCrest (s : State) (a : AxisN) : CrestN :=
  ⟨s.cfgN (O.firstLeg a) / 12 % 4, by omega⟩
/-- The loop rate of axis a (R161). -/
def State.loopRate (s : State) (a : AxisN) : Nat :=
  if s.axisType a == 0 then 0
  else s.cfgN (O.carrierFreq a) * (if s.cfgN (O.updateMode a) == 1 then 2 else 1)
/-- Crest c computes axis a. -/
def State.computes (s : State) (c : CrestN) (a : AxisN) : Bool :=
  s.axisType a != 0 && (s.axis a).field.crest == c && !(s.axis a).field.unplaced
/-- The load of crest c (R23). -/
def State.crestLoad (s : State) (c : CrestN) : Nat :=
  (allAxes.filter (s.computes c)).foldl (fun n a => n + s.loopRate a) 0
/-- The feedback channel of axis a; none at 255. -/
def State.channelOf (s : State) (a : AxisN) : Option ChanN :=
  let f := s.cfgN (O.fbChannel a)
  if h : f < 48 then some ⟨f, h⟩ else none
/-- The axes that read channel f. DEDUCED, log entry 104. -/
def State.readers (s : State) (f : ChanN) : List AxisN :=
  allAxes.filter fun a => s.axisType a != 0 && s.channelOf a == some f
/-- FB_STATUS.STATE of channel f is VALID. -/
def State.chanValid (s : State) (f : ChanN) : Bool :=
  s.cfgN (O.fbType f) != 0 && s.channels[f].state == .valid

/-- DEADTIME_EFFECTIVE of leg l, in 156.25 ps: the greater of DEADTIME and 100 ns (R55). -/
def State.deadtimeEff (s : State) (l : LegN) : Nat := max (s.cfgN (O.deadtime l)) 640

/-- A leg latched by a short-class or gate-class fault stays a leg of its phase (R82, R84, R513). -/
def LegFault.supply : LegFault → Bool
  | .bootstrapUv | .noAck | .rechargeFailed => true
  | .desat | .hardShort | .gateTimeout | .gateRise => false

/-- The leg counts as a leg in service of its phase (R82, R513). DEDUCED, log entry 14. -/
def Leg.inPhase (L : Leg) : Bool :=
  match L.state with
  | .inService => !L.leftOut && !L.vgpOut
  | .latched => match L.latch with
    | some (k, _) => !k.supply && !L.vgpOut && !L.hsInhibit
    | none => false
  | .off | .recharging | .retired | .notAssigned => false

/-- The legs of phase p of axis a that are in service. -/
def State.phaseInService (s : State) (a : AxisN) (p : Nat) : List LegN :=
  (s.legsOf a).filter fun l => s.phaseOf a l == p && (s.leg l).inPhase
/-- Some phase of axis a has no leg in service (R82). -/
def State.phaseEmpty (s : State) (a : AxisN) : Bool :=
  (List.range (s.phaseCount a)).any fun p => (s.phaseInService a p).isEmpty
/-- LEG_FRACTION: the lowest, over the phases, of legs in service divided by legs per phase, per mille. -/
def State.legFraction (s : State) (a : AxisN) : Nat :=
  (List.range (s.phaseCount a)).foldl
    (fun m p => min m ((s.phaseInService a p).length * 1000 / s.phaseLegs a)) 1000

/-! ### Gates of one leg (R50 to R54) -/

/-- The side is commanded on. -/
def Leg.cmd (L : Leg) : Side → Bool
  | .high => L.highCmd
  | .low => L.lowCmd
/-- The side's gate monitor reads above the off threshold. -/
def Leg.gateOn (L : Leg) : Side → Bool
  | .high => L.highOn
  | .low => L.lowOn
/-- All three enables are present (R50). -/
def Leg.enabled (L : Leg) : Bool := L.en && L.enP && L.enL
/-- A side may be turned on: enables present, no latched fault, high side not inhibited (R50, R52, R65). -/
def Leg.allows (L : Leg) (sd : Side) : Bool :=
  L.enabled && !L.leftOut && !L.vgpOut && !(sd == .high && L.hsInhibit) &&
    match L.state with
    | .inService => true
    | .recharging => sd == .low
    | .off | .latched | .retired | .notAssigned => false
/-- Both sides commanded off, nothing pending. -/
def Leg.allOff (L : Leg) : Leg :=
  { L with highCmd := false, lowCmd := false, turnOn := none, deadTimeUp := false }
/-- Command one side on and the other off: its gate rises. -/
def Leg.turn (L : Leg) (sd : Side) : Leg :=
  if L.allows sd then
    match sd with
    | .high => { L with highCmd := true, highOn := true, lowCmd := false, turnOn := none, deadTimeUp := false }
    | .low => { L with lowCmd := true, lowOn := true, highCmd := false, turnOn := none, deadTimeUp := false }
  else L.allOff
/-- The enables have risen, and dead time or a monitor still bars both sides (R53). -/
def Leg.rising (L : Leg) : Bool :=
  match L.turnOn with
  | some (.risen _) => true
  | some (.side _) | none => false
/-- Turn toward a side under R54: the other side is commanded off now, this one after dead time and monitor. A turn-on that is
pending on that side goes on (R72), and after a rise of the enables the wait of R53. -/
def Leg.toward (L : Leg) (sd : Side) : Leg :=
  if !L.allows sd then L.allOff
  else if L.rising then { L.allOff with turnOn := some (.risen (some sd)), deadTimeUp := L.deadTimeUp }
  else if L.cmd sd && !L.cmd sd.other then { L with turnOn := none, deadTimeUp := false }
  else if L.turnOn == some (.side sd) then L
  else
    let L := { L with turnOn := some (.side sd), deadTimeUp := false }
    match sd with
    | .high => { L with lowCmd := false }
    | .low => { L with highCmd := false }
/-- Neither side for an interval that is dropped; the wait of R53 goes on. -/
def Leg.idle (L : Leg) : Leg :=
  if L.rising then { L.allOff with turnOn := some (.risen none), deadTimeUp := L.deadTimeUp } else L.allOff
/-- The side that PULSE selects. -/
def Leg.pulseSide (L : Leg) : Side := if L.pulse then .high else .low
/-- The AND of the enables has risen: neither side before dead time and both monitors, then the one that PULSE selects
(R53). -/
def Leg.rise (L : Leg) : Leg := { L.allOff with turnOn := some (.risen (some L.pulseSide)) }
/-- Assert control EN: the leg follows PULSE from where the enables rise (R50, R53). -/
def Leg.enable (L : Leg) : Leg :=
  let M := { L with en := true }
  if !L.enabled && M.enabled then M.rise else M
/-- Assert control EN and turn toward a side whatever PULSE selects (R53, R54, R78). -/
def Leg.drive (L : Leg) (sd : Side) : Leg := L.enable.toward sd
/-- Make the pending turn-on if dead time and the gate monitors allow it (R53, R54). -/
def Leg.settle (L : Leg) : Leg :=
  match L.turnOn with
  | none => L
  | some t =>
    if !L.deadTimeUp then L
    else match t with
      | .side sd => if L.gateOn sd.other then L else L.turn sd
      | .risen sd =>
        if L.highOn || L.lowOn then L
        else match sd with
          | some sd => L.turn sd
          | none => L.allOff

/-! ### The speed rule and the axis reaction (R72 to R83) -/

/-- The gate state the speed rule selects with ASC on `sd` (R74, R75); with no leg in service all gates are off
(R82). -/
def State.speedRule (s : State) (a : AxisN) (sd : Side) : Reaction :=
  if s.isPM a && (s.axis a).reaction.aboveAsc && (s.legsOf a).any (fun l => (s.leg l).inPhase) then
    match sd with
    | .low => .ascLow
    | .high => .ascHigh
  else .allOff

/-- A reaction gate state is an active short circuit. -/
def Reaction.isAsc : Reaction → Bool
  | .ascLow | .ascHigh => true
  | .normal | .allOff => false

/-- Put the reaction gate state on every leg of the axis; a leg with a latched fault has both sides off (R72, R78).
Under ASC the reaction logic asserts control EN; with all gates off it removes it. -/
def State.applyGates (s : State) (a : AxisN) : State :=
  match (s.axis a).reaction.gate with
  | .normal => s
  | .allOff => s.modLegs (s.legsOf a) fun _ L => { L.allOff with en := false }
  | .ascLow => s.modLegs (s.legsOf a) fun _ L =>
      if L.state == .inService then L.drive .low else { L.allOff with en := false }
  | .ascHigh => s.modLegs (s.legsOf a) fun _ L =>
      if L.state == .inService then L.drive .high else { L.allOff with en := false }

/-- Turn off the control EN of every leg of the axis. -/
def State.gatesOff (s : State) (a : AxisN) : State :=
  s.modLegs (s.legsOf a) fun _ L => { L.allOff with en := false }

/-- End a homing that runs: HOME_FAILED; a RUNNING axis stops at PROFILE_DECEL (R266). -/
def State.homeFail (s : State) (a : AxisN) : State :=
  if (s.axis a).home.state == .running then
    let s := s.modHome a fun h => { h with state := .failed, torqueLimit := false, latched := none }
    (s.modProf a fun p => { p with halting := true }).event 0x520D a
  else s

/-- STEP_TABLE of axis a. -/
def State.tableOf (s : State) (a : AxisN) : TableN := ⟨s.cfgN (O.stepTable a) % 4, by omega⟩
/-- Axes still on the previous version of table t (PENDING_AXES). -/
def State.pendingAxes (s : State) (t : TableN) : List AxisN :=
  allAxes.filter fun a => s.isStepper a && (s.axis a).step.tablePending && s.tableOf a == t
/-- Axis a takes the new version of its table; the last one is reported (R220). DEDUCED, log entry 39. -/
def State.takeTable (s : State) (a : AxisN) : State :=
  if !(s.axis a).step.tablePending then s
  else
    let s := s.modStep a fun p => { p with tablePending := false }
    if (s.pendingAxes (s.tableOf a)).isEmpty then s.event 0x5044 (s.tableOf a) else s

/-- The coils of a stepper axis are no longer driven: it takes a new table version at once (R220), and neither a hold nor
a waiting chopper decision is left. -/
def State.coilsOff (s : State) (a : AxisN) : State :=
  let still := fun (b : BridgeSt) => { b with minTime := false, waiting := none, fastTimed := false, cycleStart := none }
  (s.takeTable a).modStep a fun p => { p with
    holding := false, holdingAt := if p.holding then s.ref.time else p.holdingAt, aligning := false, a := still p.a, b := still p.b }

/-- Enter an axis state. Leaving RUNNING fails a homing (R266); outside RUNNING and STOPPING the generator tracks
(R237), and HOMED clears on an axis without a channel (R267). Entering STOPPING begins the stop ramp (R197, R240), from the
tracked speed where the generator tracks; that of a member which follows its group goes on tracking (R274, R284). -/
def State.enter (s : State) (a : AxisN) (st : AxisState) : State :=
  let s := if st == .running then s else s.homeFail a
  let s := s.modField a fun f => { f with
    state := st, regain := f.regain && (st == .running || st == .stopping)
    stateBefore := if f.state == st then f.stateBefore else f.state
    stateAt := if f.state == st then f.stateAt else s.ref.time }
  let s := s.modProf a fun p => { p with lateRun := 0 }
  match st with
  | .running => s.modProf a fun p => { p with move := if p.move == .stopRamp then .moving else p.move }
  | .stopping =>
    let s := s.modField a fun f => { f with catching := {}, slowSince := none }
    let role := (s.axis a).member.role
    s.modProf a fun p =>
      if p.move == .tracking && (role == .follower || role == .rejoining) then p
      else
        let d : Int := (s.cfg (O.stopDecel a) * 2 ^ 96) / (ticksPerS * ticksPerS : Nat)
        { p with move := .stopRamp, j := 0, eta := 0xFFFF, halting := false,
                 a := if p.v > 0 then -d else if p.v < 0 then d else 0 }
  | _ =>
    let s := s.modProf a fun p => { p with move := .tracking, eta := 0xFFFF, halting := false }
    let s := s.coilsOff a
    if (s.channelOf a).isNone then s.modHome a fun h => { h with homed := false } else s

/-- Gates of the axis are commanded on, so a leg fault takes a reaction (R512). -/
def State.gatesLive (s : State) (a : AxisN) : Bool :=
  let f := (s.axis a).field
  let starting : Bool := f.catching.running && (s.legsOf a).any fun l => (s.leg l).en
  match f.state with
  | .running | .stopping => true
  | .holdAsc => starting || (s.axis a).reaction.gate.isAsc
  | .ready | .fault => starting
  | .disabled | .safeOff | .lockedOut => false

/-- A cause under R76 takes the axis into a reaction: gates are commanded on, or a flying start from HOLD_ASC or FAULT runs
(R83, R193, R512). -/
def State.reacts (s : State) (a : AxisN) : Bool :=
  let f := (s.axis a).field
  s.gatesLive a || (f.catching.running && (f.state == .holdAsc || f.state == .fault))

/-- Set the gate state of a held reaction, and the axis state that goes with it (R195). -/
def State.holdGate (s : State) (a : AxisN) (g : Reaction) (follows : Bool) : State :=
  let s := s.modReact a fun r => { r with gate := g, follows }
  let s := s.enter a (if g.isAsc then .holdAsc else .fault)
  s.applyGates a

/-- Begin a reaction: it holds until R83 ends it. A flying start under way ends with it (R512). -/
def State.beginReaction (s : State) (a : AxisN) (cause : ReactionCause) (g : Reaction) (follows : Bool)
    (ascSide : Side) : State :=
  let stopping := (s.axis a).field.state == .stopping || (s.axis a).field.catching.intoStopping
  let s := s.modField a fun f => { f with catching := {}, recovering := false }
  let s := s.modReact a fun r => { r with
    cause, ascSide, held := true, window := true, began := s.ref.time, resumeStopping := stopping, resumePending := false
    firstLeg := none, secondLeg := none, inTime := 0, sumPassed := 0, slow := 0 }
  s.holdGate a g follows

/-- A cause under R76, or one held like it (R513): the speed rule with ASC on the low sides. On a held reaction it
changes no gate state (R199) but must itself be gone before the reaction ends. In HOLD_ASC, after the end of the reaction,
it holds again, with the ASC_HOLD that began with that reaction and without resumption. DESIGN CHOICE, log entry 123. -/
def State.otherCause (s : State) (a : AxisN) (c : Option HoldCause) (resume : Bool := false) : State :=
  let x := s.axis a
  let add := fun (s : State) => match c with
    | none => s
    | some c => s.modReact a fun r => { r with causes := if r.causes.contains c then r.causes else c :: r.causes }
  if x.reaction.held then add s
  else if x.field.state == .holdAsc && !x.field.catching.running then
    add (s.modReact a fun r => { r with held := true })
  else if s.reacts a then
    let s := s.beginReaction a .other (s.speedRule a .low) true .low
    add (s.modReact a fun r => { r with resumePending := resume })
  else s

/-- The axis goes to FAULT with all gates off, not by the speed rule (R210, R215, R225). -/
def State.faultAllOff (s : State) (a : AxisN) : State :=
  if (s.axis a).reaction.held then s
  else s.beginReaction a .other .allOff false .low

/-- A leg waits to turn a side on. -/
def Leg.waitsFor (L : Leg) (sd : Side) : Bool :=
  match L.turnOn with
  | some (.side x) => x == sd
  | some (.risen x) => x == some sd
  | none => false
/-- The reaction window of the first fault is open (R78): no reaction-side gate has begun to rise since; where none has to
rise, for the dead time in which one would. DEDUCED, log entry 124. -/
def State.windowOpen (s : State) (a : AxisN) : Bool :=
  let r := (s.axis a).reaction
  let dt := (s.legsOf a).foldl (fun m l => min m (s.deadtimeEff l)) 64000
  r.window && (decide (16 * (s.ref.time - r.began) ≤ dt) ||
    (r.gate.isAsc && (s.legsOf a).any fun l => (s.leg l).waitsFor r.ascSide))

/-- The reaction matrix of Table 2.7 for a short-class or gate-class fault of leg l on side sd (R78, R79, R512). A fault in
HOLD_ASC after the end of the reaction holds again, with the ASC_HOLD that began with that reaction and without resumption.
DESIGN CHOICE, log entry 123. -/
def State.legReaction (s : State) (a : AxisN) (l : LegN) (sd : Side) : State :=
  let r := (s.axis a).reaction
  if !r.held && !r.gate.isAsc then
    if s.gatesLive a then
      let s := s.beginReaction a .leg (s.speedRule a sd.other) true sd.other
      s.modReact a fun r => { r with
        firstLeg := some l, firstSide := sd, resumePending := s.cfgN (O.legFaultResume a) == 1 }
    else s
  else
    let off : Bool := match r.firstLeg with
      | some f =>
        if sd == r.firstSide && s.windowOpen a then s.phaseOf a f != s.phaseOf a l
        else sd != r.firstSide || !r.gate.isAsc || sd == r.ascSide
      | none => !r.gate.isAsc || sd == r.ascSide
    let s := s.modReact a fun r =>
      let r := { r with held := true }
      match r.firstLeg, r.secondLeg with
      | none, _ => { r with firstLeg := some l, firstSide := sd }
      | some _, none => { r with secondLeg := some l }
      | some _, some _ => r
    if off then s.holdGate a .allOff false else s.applyGates a

/-- The crest writes ABOVE_ASC with a commit (R74): set above ASC_SPEED, clear below 0.9 × ASC_SPEED; with
ASC_SPEED 0 it is always set once the axis has run. -/
def State.writeAboveAsc (s : State) (a : AxisN) (speed : Rat) : State :=
  let v := if speed < 0 then -speed else speed
  let lim := s.cfgN (O.ascSpeed a)
  s.modReact a fun r => { r with aboveAsc :=
    if lim = 0 then r.hasRun || r.aboveAsc
    else if v > lim then true
    else if 10 * v < 9 * (lim : Rat) then false
    else r.aboveAsc }

/-- A held reaction reached by the speed rule follows the flag (R74, R79). -/
def State.followFlag (s : State) (a : AxisN) : State :=
  let x := s.axis a
  if (x.field.state == .holdAsc || x.field.state == .fault) && x.reaction.follows then
    let g := s.speedRule a x.reaction.ascSide
    if g == x.reaction.gate then s
    else (s.modReact a fun r => { r with window := r.window && !g.isAsc }).holdGate a g true
  else s

/-- The phases of axis a that newly lost their last leg are reported, and the axis reacts (R82). `lost` is the leg
that emptied the phase and the side of the fault it was lost to. DEDUCED, log entry 15. -/
def State.checkPhases (s : State) (before : State) (a : AxisN) (lost : Option (LegN × Side)) : State :=
  let phases := (List.range (s.phaseCount a)).filter fun p =>
    (s.phaseInService a p).isEmpty && !(before.phaseInService a p).isEmpty
  if phases.isEmpty then s
  else
    let s := s.each phases fun s _ => s.event 0x140E a
    let x := s.axis a
    if x.reaction.held || ((x.field.state == .holdAsc || x.field.state == .fault) && !s.gatesLive a)
        || (x.field.state == .holdAsc && !x.field.catching.running) then
      let s := s.modReact a fun r => { r with resumePending := false }
      if x.reaction.gate.isAsc && (s.legsOf a).all (fun l => !(s.leg l).inPhase) then
        s.holdGate a .allOff x.reaction.follows
      else s
    else if s.gatesLive a then
      let asc : Side := match lost with
        | some (_, .low) => .high
        | _ => .low
      let s := s.beginReaction a .leg (s.speedRule a asc) true asc
      s.modReact a fun r => { r with
        window := false, firstLeg := lost.map (·.1), firstSide := (lost.map (·.2)).getD .low }
    else s

/-! ### Leg faults (R65, R68, R84 to R87) -/

/-- The retirement class of a leg fault: 0 SHORT, 1 SUPPLY, 2 GATE (Table 2.12). -/
def LegFault.cls : LegFault → Nat
  | .desat | .hardShort => 0
  | .bootstrapUv | .noAck | .rechargeFailed => 1
  | .gateTimeout | .gateRise => 2
/-- The specific number of a leg fault (Table 2.12). -/
def LegFault.specific : LegFault → Nat
  | .desat => 1 | .hardShort => 2 | .bootstrapUv => 3 | .noAck => 4 | .gateTimeout => 5 | .gateRise => 6
  | .rechargeFailed => 7

/-- The start-up and recovery periods of axis a (R85): a precharge and the first 100 ms after control EN rose from
DISABLED or READY; from the end of a reaction until RUNNING. -/
def State.clearingPeriod (s : State) (a : AxisN) : Bool :=
  let f := (s.axis a).field
  f.recovering || f.regain || (f.catching.running && f.catching.phase == .precharge) ||
    match f.enRose with
    | some t => s.ref.time - t ≤ 100 * ticksPerMs
    | none => false

/-- A new start-up, self-test or recovery period of axis a begins: no automatic clear has been used in it (R85). -/
def State.newPeriod (s : State) (a : AxisN) : State := s.modLegs (s.legsOf a) fun _ L => { L with autoclears := 0 }

/-- A fault that remains after the last automatic clear ends the clearing of start-up or recovery: the axis is held
under the speed rule until a start command, and no resumption follows (R85). With every gate commanded off and no flying start
under way no reaction is held (R512). -/
def State.endClearing (s : State) (a : AxisN) (l : LegN) : State :=
  if s.clearingPeriod a && s.cfgN O.autoclearMax ≤ (s.leg l).autoclears then
    if (s.axis a).reaction.held then s.modReact a fun r => { r with resumePending := false }
    else if s.reacts a then
      let s := s.beginReaction a .leg (s.speedRule a .low) true .low
      s.modReact a fun r => { r with firstLeg := some l }
    else s.modReact a fun r => { r with resumePending := false }
  else s

/-- A self-test slice runs on leg cell l of a DISABLED axis (R85). -/
def State.legSlice (s : State) (l : LegN) : Bool :=
  (s.slices.any fun b => b == some (0x0700 + l.val)) && match s.axisOf l with
    | some a => (s.axis a).field.state == .disabled
    | none => true

/-- Latch a fault of leg l on a side and count it (R86); `digit` gives the class digit of an uncounted report
(R65). A leg whose count reaches RETIRE_COUNT is retired and announced (R87). Short-class and gate-class faults go to
the axis reaction logic (R72, R73); a phase that loses its last leg is handled under R82. An undervoltage of a latched leg
leaves it latched (R68). A leg of no axis latches and counts its fault, and stays NOT_ASSIGNED (R155).
DESIGN CHOICE, log entry 125; DEDUCED, log entry 143. -/
def State.legFault (s : State) (l : LegN) (k : LegFault) (sd : Side) (digit : Option Nat := none) : State :=
  let L := s.leg l
  if L.state == .retired then s
  else
    let before := s
    let (fs, d, retire) := match digit with
      | some d => (L.faults, d, false)
      | none => countFault L.faults k.cls s.ref.time (s.cfgN O.retireWindow) (s.cfgN O.retireCount)
    let keep : Bool := k == .bootstrapUv && L.state == .latched
    let s := s.modLeg l fun L => { L.allOff with
      state := if retire then .retired else if L.state == .notAssigned then .notAssigned
        else if k == .bootstrapUv && !keep then .recharging else .latched
      faults := fs, latch := if keep then L.latch else some (k, sd), lastSpecific := k.specific, en := false
      retireLatch := L.retireLatch || retire
      sliceLatch := s.legSlice l, faultAt := if keep then L.faultAt else s.ref.time
      hsInhibit := L.hsInhibit || k == .bootstrapUv || k == .rechargeFailed
      softOff := if k == .desat || k == .hardShort || k == .bootstrapUv then some sd else L.softOff
      uvDigit := if k == .bootstrapUv then some d else if k == .rechargeFailed then none else L.uvDigit }
    let s := if retire then s.announce (faultCode 1 d k.specific) l else s.event (faultCode 1 d k.specific) l
    match s.axisOf l with
    | none => s
    | some a =>
      let s := if k.supply then s else s.legReaction a l sd
      let s := s.checkPhases before a (some (l, sd))
      s.endClearing a l

/-- The latch of a leg clears and the leg is retried (R84, R85): it returns to its phase, to OFF while it waits for VGP
(R60), or to RECHARGING while VBS, in mV, has not recovered from an undervoltage (R65). -/
def Leg.retry (vbs : Nat) (L : Leg) : Leg :=
  if L.hsInhibit && vbs < 13000 then
    { L with state := .recharging, latch := some (.bootstrapUv, .high), softOff := none, en := false }
  else
    { L with state := if L.vgpOut then .off else .inService, latch := none, hsInhibit := false, uvDigit := none, softOff := none,
             sliceLatch := false }
/-- Leg l is retried; in service it follows PULSE where the axis has its control EN up. DEDUCED, log entry 143. -/
def State.retryLeg (s : State) (l : LegN) (up : Bool) : State :=
  let vbs := s.cfgN (O.vbsNow l)
  s.modLeg l fun L =>
    let L := { L.retry vbs with faultAt := s.ref.time }
    if up && L.state == .inService then L.enable else L

/-- Legs that waited for VGP rejoin their phase at a start or precharge (R60). -/
def State.rejoinLegs (s : State) (a : AxisN) : State :=
  s.modLegs (s.legsOf a) fun _ L =>
    if L.vgpOut && L.rejoin then
      { L with state := if L.state == .off then .inService else L.state, vgpOut := false, rejoin := false }
    else L

/-- The leg group of a leg (R8). -/
def groupOf (l : LegN) : GroupN := ⟨l.val / 8, by omega⟩

/-- The state of a leg that an axis takes: in service, or OFF until its group has VGP and the axis starts; a fault that it holds
latched stays so (R155). DESIGN CHOICE, log entry 125. -/
def Leg.assign (out : Bool) (now : Nat) (L : Leg) : Leg :=
  let L := { L with vgpOut := out, rejoin := false }
  match L.latch with
  | some (.bootstrapUv, _) => { L with state := .recharging, faultAt := now }
  | some _ => { L with state := .latched, faultAt := now }
  | none => { L with state := if out then .off else .inService }

/-- Bring the states of all legs in line with the axes' leg assignment (R155): a leg of no axis is NOT_ASSIGNED and
off; a newly assigned one is taken into its axis. A retired leg stays retired, and reads NOT_ASSIGNED while it belongs to no
axis. DESIGN CHOICE, log entry 125. -/
def State.assignLegs (s : State) : State :=
  s.modLegs allLegs fun l L =>
    match s.axisOf l with
    | none => if L.state == .retired then L.allOff
              else { L.allOff with state := .notAssigned, en := false, enP := false, enL := false }
    | some _ => if L.state == .notAssigned then L.assign (!s.groups[groupOf l].powered) s.ref.time else L

/-! ### Slices of the self-test (14) -/

/-- ABORT_COUNT of a block. -/
def abortCountOf (id : Nat) : Nat := O.abortCount (id / 256) (id % 256)

/-- A running slice is aborted: no cairn, the same slice is repeated without a wait (R456, R458, R459).
DESIGN CHOICE, log entry 94. -/
def State.abortBlock (s : State) (id patterns : Nat) : State :=
  if s.slices.any fun b => b == some id then
    let s := { s with slices := s.slices.map fun b => if b == some id then none else b }
    (s.modBlock id fun b => { b with
      result := .aborted, slice := b.next, patterns := patterns % 0x10000, wait := 0, waiting := false }).count
      (abortCountOf id)
  else s
/-- The module itself calls for a block: a slice of it is aborted, at a number of patterns that is open (R456). -/
def State.callBlock (s : State) (id : Nat) : State :=
  if s.slices.any fun b => b == some id then
    { s.abortBlock id (Config.abortPatterns s.draws) with draws := s.draws + 1 }
  else s
/-- The blocks that an access of an object reaches (R456): the crest, the CAN port, the leg cell or its current input, the
profile, the reaction or chopper logic of the axis, the compare unit, the arbiter. The other blocks serve accesses from a spare
(R451) or have no objects of their own. DEDUCED, log entry 159. -/
def blocksAt (a : Nat) : List Nat :=
  let i := a / 256
  if 0x1300 ≤ i && i < 0x1380 then [0x0F00 + (i - 0x1300) / 0x40]
  else if 0x2010 ≤ i && i < 0x2050 then [0x0100 + (i - 0x2010) / 0x10]
  else if 0x3000 ≤ i && i < 0x3C00 then
    [(if i % 0x40 < 8 then 0x0700 else 0x0400) + (i - 0x3000) / 0x40]
  else if 0x4000 ≤ i && i < 0x5000 then
    let n := i / 0x100 % 0x10
    match i % 0x100 / 8 with
    | 0x10 => [0x0A00 + n]
    | 0x07 | 0x1F => [0x0800 + n]
    | 0x09 => [0x0900 + n]
    | _ => []
  else if 0x5C00 ≤ i && i < 0x5E00 then [0x0B00 + (i - 0x5C00) / 0x10]
  else if 0x6000 ≤ i && i < 0x6100 then [0x0C00]
  else []
/-- An access of an object aborts a slice of the block it reaches (R456). DEDUCED, log entry 159. -/
def State.accessed (s : State) (a : Nat) : State := s.each (blocksAt a) State.callBlock
/-- The axis leaves DISABLED, and its current inputs may be measured: no slice of its leg cells, current inputs and profile goes
on (R456). -/
def State.leaveDisabled (s : State) (a : AxisN) : State :=
  (s.each (s.legsOf a) fun s l => (s.callBlock (0x0700 + l.val)).callBlock (0x0400 + l.val)).callBlock (0x0A00 + a.val)
/-- Control EN of the axis rises: no slice runs on its leg cells, its reaction logic and its chopper logic (R81, R213). -/
def State.endSlices (s : State) (a : AxisN) : State :=
  ((s.each (s.legsOf a) fun s l => s.callBlock (0x0700 + l.val)).callBlock (0x0800 + a.val)).callBlock (0x0900 + a.val)

end Sys2Proof.Machine
end

