-- ==== Sys2Proof/Machine/Operands.lean ====
section
/-! DEFINITION. Writing an object: the domain, level, type and range checks every write passes, and the rules that
tie the values of several objects together. -/

namespace Sys2Proof.Machine

/-! ### Status words and numbers as binary32 (R9) -/

/-- A word of fields, each at its lowest bit. -/
def fields (fs : List (Nat × Nat)) : Nat := fs.foldl (fun n f => n + f.2 * 2 ^ f.1) 0
/-- A count as a 4-bit field. -/
def nibble (n : Nat) : Nat := min n 15

/-- The binary32 pattern of a non-negative number that binary32 represents exactly. -/
def f32Mag (q : Rat) : Option Nat :=
  let n := q.num.toNat
  let d := q.den
  if n = 0 then some 0
  else
    -- the binary exponent e with 2^e ≤ q < 2^(e+1)
    let e0 : Int := (Nat.log2 n : Int) - Nat.log2 d
    let lt : Bool := if 0 ≤ e0 then decide (n < d * 2 ^ e0.toNat) else decide (n * 2 ^ (-e0).toNat < d)
    let e := if lt then e0 - 1 else e0
    let e := max e (-126)
    let sh := 23 - e
    let num := if 0 ≤ sh then n * 2 ^ sh.toNat else n
    let den := if 0 ≤ sh then d else d * 2 ^ (-sh).toNat
    let m := num / den
    if num % den ≠ 0 || 127 < e then none
    else if m < 0x800000 then some m
    else some ((e + 127).toNat * 0x800000 + (m - 0x800000))

/-- The binary32 pattern of a number: exact where binary32 represents it, else the module's rounding.
DESIGN CHOICE, log entry 7. -/
def f32Of (q : Rat) : Int :=
  match f32Mag (if q < 0 then -q else q) with
  | some m => if q < 0 then m + 0x80000000 else m
  | none => Config.f32Round q % 0x100000000

/-- round(q): the nearest whole number; a half goes either way (the manual does not say). -/
def roundNear (q : Rat) : Int :=
  let f := q.floor
  let r := q - f
  if r * 2 < 1 then f else if r * 2 > 1 then f + 1 else if Config.halfUp q then f + 1 else f

/-! ### Derived figures of an axis (03, 05) -/

/-- round(p / q) of naturals (R161); a half goes up. DESIGN CHOICE, log entry 145. -/
def roundDiv (p q : Nat) : Nat := (2 * p + q) / (2 * q)

/-- The carrier period in reference ticks (R161). -/
def State.carrierTicks (s : State) (a : AxisN) : Nat := 2 * roundDiv 200000000 (s.cfgN (O.carrierFreq a))
/-- The time from sample instant to sample instant, in reference ticks (R162). -/
def State.cycleTicks (s : State) (a : AxisN) : Nat :=
  if s.cfgN (O.updateMode a) == 1 then s.carrierTicks a / 2 else s.carrierTicks a
/-- The rate at which the axis loop runs with the present carrier and update mode (R161). -/
def State.rawRate (s : State) (a : AxisN) : Nat :=
  s.cfgN (O.carrierFreq a) * (if s.cfgN (O.updateMode a) == 1 then 2 else 1)
/-- τ in ns: BAL_TRIM_MAX, 0 for n = 1 (R99, R104). -/
def State.tauNs (s : State) (a : AxisN) : Rat := if s.phaseLegs a ≤ 1 then 0 else s.cfgN (O.balTrimMax a)
/-- The carrier period T in ns. -/
def State.periodNs (s : State) (a : AxisN) : Rat := (s.carrierTicks a : Rat) * (5 / 2)
/-- The grid spacing G in ns (R96). -/
def State.gridNs (s : State) (a : AxisN) : Rat :=
  let n := s.phaseLegs a
  if n ≤ 2 then s.periodNs a / 2 else s.periodNs a / n
/-- SETTLE_TIME rounded up to whole reference ticks, in ns. -/
def State.settleNs (s : State) (a : AxisN) : Rat := (((2 * s.cfgN (O.settleTime a) + 4) / 5 : Nat) : Rat) * (5 / 2)
/-- W in ns: the largest DEADTIME_EFFECTIVE of the axis's legs plus SETTLE_TIME (R104). -/
def State.wNs (s : State) (a : AxisN) : Rat :=
  let d := (s.legsOf a).foldl (fun m l => max m (s.deadtimeEff l)) 0
  (d : Rat) * (5 / 32) + s.settleNs a
/-- DEPTH_LIMIT in per mille, before the floor of R105 (R104). -/
def State.depthLimitInt (s : State) (a : AxisN) : Int :=
  let g := s.gridNs a
  let w := s.wNs a
  let τ := s.tauNs a
  if 4 ≤ s.phaseLegs a && w ≤ g / 6 - 2 * τ then 1000
  else min 1000 (1000 * (2 * (g - w - 2 * τ)) / s.periodNs a).floor
/-- DEPTH_LIMIT of the axis (R104): 1,000 while the axis has no legs, and on a stepper axis (R205). -/
def State.depthLimit (s : State) (a : AxisN) : Nat :=
  if s.axisType a == 0 || s.isStepper a then 1000 else (s.depthLimitInt a).toNat
/-- M_FIXED in per mille: 1 − 4(W + τ)/T (R102). -/
def State.fixedDepth (s : State) (a : AxisN) : Rat :=
  1000 * (1 - 4 * (s.wNs a + s.tauNs a) / s.periodNs a)
/-- The update point lies at least 2.0 µs after the end of the search window (R40, R99). -/
def State.updatePointOk (s : State) (a : AxisN) : Bool :=
  2000 ≤ s.periodNs a / 2 - s.gridNs a / 2 - s.tauNs a
/-- Counts per revolution of channel f: GT_PITCHES for type 3, AN_PERIODS × 2^AN_INTERP_BITS for types 6 and 7,
COUNTS_PER_REV otherwise (R128, R138, Table 4.1). -/
def State.chanCpr (s : State) (f : ChanN) : Nat :=
  match s.cfgN (O.fbType f) with
  | 3 => s.cfgN (O.gtPitches f)
  | 6 | 7 => s.cfgN (O.anPeriods f) * 2 ^ s.cfgN (O.anInterpBits f)
  | _ => s.cfgN (O.countsPerRev f)
/-- Counts per revolution of the axis: those of its channel, 65,536 without one (R160). -/
def State.countsRev (s : State) (a : AxisN) : Nat :=
  match s.channelOf a with
  | some f => s.chanCpr f
  | none => 65536
/-- Bits of an SSI frame of channel f (R132). -/
def State.ssiBits (s : State) (f : ChanN) : Nat :=
  s.cfgN (O.ssiPosBits f) + (if s.cfgN (O.ssiErrBit f) == 0 then 0 else 1) + s.cfgN (O.ssiCrcBits f)
/-- T_frame in ns (R133). -/
def State.ssiFrameNs (s : State) (f : ChanN) : Rat :=
  (((s.ssiBits f + 1) * s.cfgN (O.ssiClockDiv f) : Nat) : Rat) * (5 / 2) + s.cfgN (O.ssiLineDelay f)
/-- The frame, the monoflop time and 0.25 µs fit into the shortest loop period of the axes that read channel f; a
channel of no axis is read every 1 ms (R133). -/
def State.ssiOk (s : State) (f : ChanN) : Bool :=
  let need := s.ssiFrameNs f + 1000 * s.cfgN (O.ssiMono f) + 250
  let t := s.cfgN (O.fbType f)
  (t != 4 && t != 5) || (s.readers f).all fun a => need * s.rawRate a ≤ 1000000000

/-! ### Rules across objects -/

/-- The legs that the leg assignment of axis a would take, without the limit to 48 (R155). -/
def State.legSpan (s : State) (a : AxisN) : Nat × Nat :=
  (s.cfgN (O.firstLeg a), s.phaseCount a * s.phaseLegs a)

/-- R157 for axis a: inside the module, on one crest up to 12 legs, 24 legs at a crest boundary, no leg shared. -/
def State.placementOk (s : State) (a : AxisN) : Bool :=
  let (f, n) := s.legSpan a
  f + n ≤ 48 && (if n ≤ 12 then f / 12 == (f + n - 1) / 12 else f % 12 == 0) &&
    allAxes.all fun b => b == a || s.axisType b == 0 ||
      (let (g, m) := s.legSpan b
       f + n ≤ g || g + m ≤ f)

/-- R23 for axis a: the load of its home crest with axis a on it, and of the crest that computes it now. -/
def State.loadOk (s : State) (a : AxisN) : Bool :=
  let c := s.homeCrest a
  (s.crestLoad (s.axis a).field.crest ≤ 1200000) &&
  s.loopRate a + (allAxes.filter fun b => b != a && s.computes c b).foldl (fun n b => n + s.loopRate b) 0 ≤ 1200000

/-- R158: the placement, load and timing rules of an axis whose AXIS_TYPE is not 0, and R105; a stepper axis has neither a
search window nor a depth limit (R205). DESIGN CHOICE, log entry 136. -/
def State.axisOk (s : State) (a : AxisN) : Bool :=
  s.axisType a == 0 ||
    (s.placementOk a && s.loadOk a && s.loopRate a ≤ 200000 &&
      (s.isStepper a || (s.updatePointOk a && 100 ≤ s.depthLimitInt a)))

/-- MILLER_TIMEOUT is at least 200 ns shorter than BLANKING (R71). -/
def State.millerOk (s : State) (l : Nat) : Bool := s.cfgN (O.millerTimeout l) + 200 ≤ 100 * s.cfgN (O.blanking l)

/-- Leg, axis and other instance numbers of an index. -/
def legOfIndex (i : Nat) : Option LegN :=
  if h : 0x3000 ≤ i ∧ i < 0x3C00 then some ⟨(i - 0x3000) / 0x40, by omega⟩ else none
/-- The axis of an index of an axis block. -/
def axisOfIndex (i : Nat) : Option AxisN :=
  if h : 0x4000 ≤ i ∧ i < 0x5000 then some ⟨(i - 0x4000) / 0x100, by omega⟩ else none
/-- The channel of an index of a channel block. -/
def chanOfIndex (i : Nat) : Option ChanN :=
  if h : 0x5000 ≤ i ∧ i < 0x5C00 then some ⟨(i - 0x5000) / 0x40, by omega⟩ else none
/-- The sigma-delta input of an index. -/
def sdOfIndex (i : Nat) : Option SdN :=
  if h : 0x3D00 ≤ i ∧ i < 0x3E00 then some ⟨(i - 0x3D00) / 0x10, by omega⟩ else none
/-- The ridge-group slot of an index. -/
def slotOfIndex (i : Nat) : Option SlotN :=
  if h : 0x6100 ≤ i ∧ i < 0x6200 then some ⟨(i - 0x6100) / 0x10, by omega⟩ else none
/-- The axis named by a number. -/
def axisNum (n : Nat) : Option AxisN := if h : n < 16 then some ⟨n, h⟩ else none

/-- The address word is of one of the forms (Table 10.2). -/
def formIn (fs : List Nat) (w : Nat) : Bool :=
  fs.contains (w / 0x4000) &&
    (if w / 0x4000 == 2 then w % 0x100 == 0 else if w / 0x4000 == 3 then w % 0x4000 == 0 else true)

/-- An object that may be mapped to an endpoint: a card of a type from BOOL to F32 (R348). -/
def mappable (index sub : Nat) : Option Card :=
  match cardOf (index * 256 + sub) with
  | some c => if c.ty.bytes.isSome then some c else none
  | none => none

/-- The port number of an index of a CAN port's objects. -/
def canOfIndex (i : Nat) : Option CanN :=
  if 0x1300 ≤ i ∧ i < 0x1340 then some 0 else if 0x1340 ≤ i ∧ i < 0x1380 then some 1 else none

/-- R303 and R305 for the timing objects of port p. DEDUCED, log entry 54. -/
def State.canTimingOk (s : State) (p : CanN) : Bool :=
  let nom := s.cfgN (O.nomPresc p) * (1 + s.cfgN (O.nomProp p) + s.cfgN (O.nomPhase1 p) + s.cfgN (O.nomPhase2 p))
  let dat := s.cfgN (O.dataPresc p) *
    (1 + s.cfgN (O.dataProp p) + s.cfgN (O.dataPhase1 p) + s.cfgN (O.dataPhase2 p))
  -- rates are 80 MHz / nom and 80 MHz / dat
  80 ≤ nom && nom ≤ 640 && 10 ≤ dat && dat ≤ nom
    && s.cfgN (O.nomSjw p) ≤ min (s.cfgN (O.nomPhase1 p)) (s.cfgN (O.nomPhase2 p))
    && s.cfgN (O.dataSjw p) ≤ min (s.cfgN (O.dataPhase1 p)) (s.cfgN (O.dataPhase2 p))
    && (s.cfgN (O.tdcMode p) == 0 || s.cfgN (O.dataPresc p) ≤ 2)

/-- R270 for the member table of slot g: entries in use run from the first without a gap, in strictly ascending member
numbers; reserved bits are 0 (Table 8.3). DEDUCED, log entry 45. -/
def State.memberTableOk (s : State) (g : SlotN) : Bool :=
  let es := (List.range 8).map fun k => s.cfgN (O.memberEntry g k)
  let nums := es.map fun e => if e % 256 = 0 then none else some (e / 0x1000 % 0x40000)
  (es.all fun e => e < 0x40000000 && e / 0x100 % 16 == 0) && (nums.zip (nums.drop 1)).all fun
    | (some a, some b) => decide (a < b)
    | (_, none) => true
    | (none, some _) => false

/-- The data rate of port p exceeds its nominal rate: its FD frames switch the bit rate (R300). -/
def State.canSwitches (s : State) (p : Nat) : Bool :=
  decide (s.cfgN (O.dataPresc p) * (1 + s.cfgN (O.dataProp p) + s.cfgN (O.dataPhase1 p) + s.cfgN (O.dataPhase2 p))
    < s.cfgN (O.nomPresc p) * (1 + s.cfgN (O.nomProp p) + s.cfgN (O.nomPhase1 p) + s.cfgN (O.nomPhase2 p)))

/-- R308: at most 8 group slots and 8 local member axes a port. -/
def State.canLoadOk (s : State) : Bool :=
  (List.range 2).all fun p =>
    ((List.range 16).filter fun g => s.cfgN (O.groupNumber g) != 0 && s.cfgN (O.groupPort g) == p).length ≤ 8 &&
    (allAxes.filter fun (a : AxisN) =>
      s.cfgN (O.groupSlot a) < 16 && s.cfgN (O.groupPort (s.cfgN (O.groupSlot a))) == p).length ≤ 8

/-- The slot's table names this device and axis x (R270). -/
def State.slotNames (s : State) (g : Nat) (x : AxisN) : Bool :=
  (List.range 8).any fun k =>
    let e := s.cfgN (O.memberEntry g k)
    e % 256 != 0 && e / 0x1000000 % 64 == s.cfgN O.segment && e / 0x10000 % 256 == s.cfgN O.node
      && e / 0x1000 % 16 == x.val

/-- Object e of the endpoint table (R348): its address; none = unused. -/
def State.endpoint (s : State) (e : Nat) : Option Nat :=
  let v := s.cfgN (O.endpointEntry (e / 16) (e % 16))
  if v = 0 then none else some (v / 0x100)

/-- The endpoints that frame k maps, in list order (R349). -/
def State.frameEndpoints (s : State) (k : CycN) : List Nat :=
  ((List.range 64).map fun j => s.cfgN (O.mapEntry k j)).takeWhile fun e => e != 0xFFFF

/-- The objects that frame k maps, in list order (R349). -/
def State.frameObjects (s : State) (k : CycN) : List Nat := (s.frameEndpoints k).filterMap s.endpoint

/-! ### Claims of the services (13) -/

/-- Axis a is the drum that winch w claims (Table 13.1). DEDUCED, log entry 82. -/
def State.drumClaim (s : State) (w : SvcN) : Bool := s.cfgN (O.winchMode w) != 0 || s.svc.winch[w].state == .releasing
/-- The level-wind of winch w is claimed (Table 13.1). DEDUCED, log entry 82. -/
def State.spoolClaim (s : State) (w : SvcN) : Bool := s.cfgN (O.spoolEnable w) == 1
/-- Thruster t holds its claims (Table 13.1). DEDUCED, log entry 82. -/
def State.thrClaim (s : State) (t : SvcN) : Bool := s.cfgN (O.thrEnable t) == 1

/-- The objects of axis a that a thruster claims (Table 13.1). -/
def thrObjects (a : Nat) : List Nat :=
  [O.velocitySet a, O.moveMode a, O.torqueSet a, O.profileAccel a, O.profileDecel a, O.powerClass a, O.powerRequest a,
    O.svcAlive a]
/-- The objects a drum claims: of its axis a and of its brake output k, 255 = none (Table 13.1). -/
def drumObjects (a k : Nat) : List Nat :=
  [O.velocitySet a, O.moveMode a, O.powerClass a, O.powerRequest a, O.svcAlive a] ++ (if k < 16 then [O.brakeCmd k] else [])
/-- The objects a level-wind claims: of its axis a and of compare unit u, 255 = none (Table 13.1). -/
def spoolObjects (a u : Nat) : List Nat :=
  [O.targetPos a, O.stagedTarget a, O.triggerUnit a, O.moveMode a, O.profileSpeed a, O.svcAlive a] ++
    (if u < 32 then [O.cmpPosition u, O.cmpEnable u, O.cmpDirection u, O.cmpSource u] else [])

/-- The objects claimed by the services (R420). DEDUCED, log entry 82. -/
def State.claimedObjects (s : State) : List Nat :=
  (List.finRange 8).flatMap fun (i : SvcN) =>
    (if s.thrClaim i then thrObjects (s.cfgN (O.thrAxis i)) else []) ++
    (if s.drumClaim i then drumObjects (s.cfgN (O.winchAxis i)) (s.cfgN (O.winchBrake i)) else []) ++
    (if s.spoolClaim i then spoolObjects (s.cfgN (O.spoolAxis i)) (s.cfgN (O.spoolCmp i)) else [])

/-- SVC_OWNER of axis a (Table 13.3). DEDUCED, log entry 82. -/
def State.svcOwner (s : State) (a : AxisN) : Nat :=
  match (List.finRange 8).find? fun (i : SvcN) => s.thrClaim i && s.cfgN (O.thrAxis i) == a.val with
  | some i => i.val
  | none =>
    match (List.finRange 8).find? fun (i : SvcN) => s.drumClaim i && s.cfgN (O.winchAxis i) == a.val with
    | some i => 0x10 + i.val
    | none =>
      match (List.finRange 8).find? fun (i : SvcN) => s.spoolClaim i && s.cfgN (O.spoolAxis i) == a.val with
      | some i => 0x20 + i.val
      | none => 0xFF

/-- The configuration of a service is refused while it holds a claim, that of the recorder while REC_ENABLE is 1
(Tables 13.5, 13.8, 13.11, 13.16). -/
def State.serviceLocked (s : State) (i sub : Nat) : Bool :=
  if 0x8000 ≤ i && i < 0x8200 then
    (i % 0x40 == 0) && 1 ≤ sub && sub ≤ 3 && s.cfgN (O.thrEnable ((i - 0x8000) / 0x40)) == 1
  else if h : 0x8400 ≤ i ∧ i < 0x8600 then
    let w : SvcN := ⟨(i - 0x8400) / 0x40, by omega⟩
    ((1 ≤ sub && sub ≤ 7) || (0x19 ≤ sub && sub ≤ 0x1D)) && (s.drumClaim w || s.spoolClaim w)
  else 0x8820 ≤ i && i < 0x8880 && s.cfgN O.recEnable == 1

/-- Refused LOCKED whatever the axes: CAN timing unless CAN_MODE is 0 (R303), a cyclic frame's objects, its list and its
endpoints while it is enabled (R348, R349), the services' configuration, targets while homing (Table 7.2).
DEDUCED, log entry 54. -/
def State.stateLocked (s : State) (a : Nat) : Bool :=
  let i := a / 256
  let sub := a % 256
  if i == 0x1302 || i == 0x1303 then s.cfgN (O.canMode 0) != 0
  else if i == 0x1342 || i == 0x1343 then s.cfgN (O.canMode 1) != 0
  else if 0x1500 ≤ i && i < 0x1510 then sub != 1 && s.cfgN (O.cycEnable (i - 0x1500)) != 0
  else if 0x1600 ≤ i && i < 0x1610 then s.cfgN (O.cycEnable (i - 0x1600)) != 0
  else if 0x1400 ≤ i && i < 0x1480 then
    (List.finRange 16).any fun (k : CycN) => s.cfgN (O.cycEnable k) != 0
      && (s.frameEndpoints k).contains ((i - 0x1400) * 16 + (sub - 1))
  else if i / 0x100 ≥ 0x40 && i / 0x100 < 0x50 && i % 0x100 == 0x80 then
    sub != 4 && (axisOfIndex i).any fun x => (s.axis x).home.state == .running
  else s.serviceLocked i sub

/-- Owning domain of an index (Table 10.9). -/
def ownerOf (i : Nat) : Option DomainN :=
  if 0x1000 ≤ i && i < 0x1200 then some Dom.keep
  else if 0x1200 ≤ i && i < 0x1300 then some Dom.net
  else if 0x1300 ≤ i && i < 0x1400 then some Dom.bus
  else if 0x1400 ≤ i && i < 0x1800 then some Dom.net
  else if 0x2000 ≤ i && i < 0x2100 then some Dom.keep
  else if 0x3000 ≤ i && i < 0x6200 then some Dom.feed
  else if 0x7000 ≤ i && i < 0x8000 then some Dom.safeP
  else if 0x8000 ≤ i && i < 0x8C00 then some Dom.host
  else if 0x9000 ≤ i && i < 0x9100 then some Dom.feed
  else if 0x9100 ≤ i && i < 0x9200 then some Dom.mem
  else if 0xA000 ≤ i && i < 0xA400 then some Dom.mem
  else none

/-- An object that the recorder may sample: owned by FEED or KEEP, of a type up to 32 bits (R444). -/
def recordable (n : Nat) : Bool :=
  n % 256 == 0 &&
    (match ownerOf (n / 0x10000) with
     | some d => d == Dom.feed || d == Dom.keep
     | none => false) &&
    match cardOf (n / 256) with
    | some c => match c.ty with
      | .u8 | .i8 | .u16 | .i16 | .u32 | .i32 | .f32 => true
      | .u64 | .i64 | .domain | .str => false
    | none => false

/-- Ranges a card states in words, and the rules that tie a value to the values of other objects: the write of `v`
to address `a` breaks none of them. `s'` holds the written value. Cited: R23, R40, R71, R99, R105, R158, R161 (axis and
leg configuration); R117, R127, R128, R133, R138, R148 (feedback); R167, R172, R177 (bandwidths); Tables 5.5, 5.11, 6.2 (current limits); Table 7.13; R270, R303,
R305, R308;
Tables 10.13, 10.17, 10.18; Table 12.8; Table 13.6; R445; Table 15.8. -/
def State.ruleOk (s : State) (a : Nat) (v : Int) : Bool :=
  let s' := { s.setObj a v with staged := storeErase s.staged a }
  let n := v.toNat
  let i := a / 256
  let sub := a % 256
  match axisOfIndex i with
  | some x =>
    let off := (i - 0x4000) % 0x100
    let rate := s.rawRate x
    let vf := f32Rat v
    let ssi := match s'.channelOf x with
      | some f => s'.ssiOk f
      | none => true
    -- R120 allows four axes on a channel; a fifth is OUT_OF_RANGE. DESIGN CHOICE, log entry 136
    let four := match s'.channelOf x with
      | some f => decide ((s'.readers f).length ≤ 4)
      | none => true
    if off == 0x00 && 1 ≤ sub && sub ≤ 5 then s'.axisOk x && ssi && four
    else if off == 0x00 && sub == 7 then ssi && four
    else if off == 0x30 && (sub == 1 || sub == 5) then s'.axisOk x
    else if off == 0x40 && sub == 1 then 10 * vf ≤ rate
    else if off == 0x40 && sub == 3 then vf ≤ f32Rat (s.val (O.iMax x))
    else if off == 0x02 && sub == 2 then 8 * vf ≤ rate
    else if off == 0x41 && sub == 1 then 4 * vf ≤ f32Rat (s.val (O.curBw x))
    else if off == 0x41 && sub == 3 then 4 * vf ≤ f32Rat (s.val (O.speedBw x))
    else if off == 0x43 && (sub == 5 || sub == 6) then vf ≤ f32Rat (s.val (O.iMax x))
    else if off == 0x48 && sub == 1 then vf ≤ f32Rat (s.val (O.iMax x))
    else if off == 0x48 && sub == 2 then vf ≤ f32Rat (s.val (O.stepCurrent x))
    else if off == 0xD0 && sub == 1 then (n == 255 || s.slotNames n x) && s'.canLoadOk
    else if off == 0x85 && sub == 1 then n / 4 < 48 && n % 4 < 3
    else true
  | none =>
  match legOfIndex i with
  | some l =>
    let off := (i - 0x3000) % 0x40
    if off == 0x02 && (sub == 1 || sub == 3) then s'.millerOk l
    else if off == 0x01 && sub == 1 then
      match s.axisOf l with
      | some x => s'.axisOk x
      | none => true
    else true
  | none =>
  match chanOfIndex i with
  | some f =>
    let off := (i - 0x5000) % 0x40
    let t := s.cfgN (O.fbType f)
    if off == 0x01 && sub == 1 then (f.val < 16 || n < 4) && (f.val < 8 || n < 6) && s'.ssiOk f
    else if off == 0x01 && sub == 3 then t != 3 && t != 6 && t != 7
    else if off == 0x02 && sub == 1 then !(t == 2 && n != 0)
    else if off == 0x05 && sub == 6 then n < 2 ^ s.cfgN (O.ssiCrcBits f)
    else if off == 0x05 && sub == 4 then s.cfgN (O.ssiCrcInit f) < 2 ^ n && s'.ssiOk f
    else if off == 0x05 then s'.ssiOk f
    else true
  | none =>
    match canOfIndex i, slotOfIndex i with
    | some p, _ =>
      if (i - 0x1300) % 0x40 == 2 || (i - 0x1300) % 0x40 == 3 then s'.canTimingOk p else true
    | _, some g =>
      let off := (i - 0x6100) % 0x10
      if off == 1 then s'.memberTableOk g else if off == 0 && (sub == 1 || sub == 2) then s'.canLoadOk else true
    | none, none =>
    if i == 0x1200 && sub == 3 then 0x600 ≤ n && n != 0x8100 && n != 0x88F7
    else if i == 0x1240 && sub == 1 then formIn [1, 2, 3] n
    else if 0x1500 ≤ i && i < 0x1510 && sub == 4 then n < s.cfgN (O.cycPeriod (i - 0x1500)) * 62500
    else if 0x1500 ≤ i && i < 0x1510 && sub == 3 then s.cfgN (O.cycPhase (i - 0x1500)) < n * 62500
    else if 0x1500 ≤ i && i < 0x1510 && sub == 5 then formIn [0, 1] n
    else if 0x5E10 ≤ i && i < 0x5E90 && sub == 1 then
      if h : n < 48 then
        let t := s.cfgN (O.fbType (⟨n, h⟩ : ChanN))
        t != 4 && t != 6 && t != 7
      else true
    else if 0x1400 ≤ i && i < 0x1480 then
      n == 0 || (n % 256 == 0 && (mappable (n / 0x10000) (n / 256 % 256)).isSome)
    else if 0x1600 ≤ i && i < 0x1610 then n < 2048 || n == 0xFFFF
    else if 0x7600 ≤ i && i < 0x7640 && sub == 2 then formIn [0, 1] n
    else if 0x8000 ≤ i && i < 0x8200 && sub == 0x0E then
      n < 0x1000000 && n % 256 ≤ 100 && n / 256 % 256 ≤ 100 && n / 65536 ≤ 100
    else if 0x8820 ≤ i && i < 0x8880 && sub == 1 then n == 0 || recordable n
    else if 0x8400 ≤ i && i < 0x8600 && i % 0x40 == 0 && sub == 0x1D then
      v != s.cfg (O.spoolFlangeA ((i - 0x8400) / 0x40))
    else if 0x8400 ≤ i && i < 0x8600 && i % 0x40 == 0 && sub == 0x1F then
      (f32Value v).any fun p => 0 ≤ p && p ≤ s.cfgF (O.ropeLength ((i - 0x8400) / 0x40))
    else if i == 0x1100 && sub == 3 then
      1 ≤ n / 256 && n / 256 ≤ 3 && n % 256 < 12
    else true

/-! ### Who owns an object, who may write it, when (10) -/

/-- The refusal of a gatekeeper as reply code and reason (R41, R44, R340). DEDUCED, log entry 80. -/
def Domain.refusal (d : Domain) : Option (Reply × Nat) :=
  match d.gate with
  | .open => none
  | .draining | .closed =>
    if d.state == .starting then some (.notAvailable, 0x05)
    else match d.reason with
      | .reset => some (.notAvailable, 0x01)
      | .update => some (.updating, 0x02)
      | .powerDown => some (.notAvailable, 0x03)
      | .retired => some (.notAvailable, 0x04)

/-- The refusal of the domain that owns an index. -/
def State.domainRefusal (s : State) (i : Nat) : Option (Reply × Nat) :=
  match ownerOf i with
  | some d => s.domains[d].refusal
  | none => none

/-- The order of the levels (R344). -/
def levelRank : Level → Nat
  | .read => 0 | .operate => 1 | .configure => 2 | .safety => 3 | .maker => 4

/-- The level with a code. -/
def levelOf : Nat → Level
  | 0 => .read | 1 => .operate | 2 => .configure | 3 => .safety | _ => .maker

/-- Access of an address: none = READ only, `some .read` = ANY. FW_IMAGE and FW_ACTIVATE of the SAFETY image need
SAFETY (Table 15.12). -/
def accessOf (a : Nat) (c : Card) : Option Level :=
  if a / 256 == 0x9112 && a % 256 ≤ 2 then some .safety else c.write

/-- The axis runs cycles: a crest in RUN computes it, and the reference is locked. -/
def State.cycling (s : State) (a : AxisN) : Bool :=
  let f := (s.axis a).field
  s.axisType a != 0 && !f.unplaced && s.runs (Dom.crest f.crest) && s.ref.locked

/-- The axis is DISABLED. -/
def State.isDisabled (s : State) (a : AxisN) : Bool := (s.axis a).field.state == .disabled

/-- The axes that must be DISABLED for a write of an object that takes effect WHEN DISABLED: the leg's axis, the axis, the
axes that read the channel (R118), the sigma-delta input's axes (R514), the group's local axes (08).
DEDUCED, log entries 97 and 104. -/
def State.concerned (s : State) (a : Nat) (v : Int) : List AxisN :=
  let i := a / 256
  match legOfIndex i, axisOfIndex i, chanOfIndex i, sdOfIndex i, slotOfIndex i with
  | some l, _, _, _, _ => (s.axisOf l).toList
  | _, some x, _, _, _ => [x]
  | _, _, some f, _, _ => s.readers f
  | _, _, _, some d, _ =>
    (axisNum (s.cfgN (O.sdAxis d))).toList ++ (if a == O.sdAxis d then (axisNum v.toNat).toList else [])
  | _, _, _, _, some g => allAxes.filter fun x => s.cfgN (O.groupSlot x) == g.val
  | none, none, none, none, none =>
    if 0x5EA0 ≤ i && i < 0x5EC0 then
      allAxes.filter fun x => match s.channelOf x with
        | some f => s.cfgN (O.fbType f) == 6 && f.val / 4 == (i - 0x5EA0) / 0x10 && s.axisType x != 0
        | none => false
    else []

/-- The checks every write passes before its value is looked at: life cycle (Table 15.5), object known, owning domain open,
and MEM open for a STORED object (R340, R476), level (R344). DEDUCED, log entry 97. -/
def State.accessRefusal (s : State) (src : Src) (a : Nat) : Option (Reply × Nat) :=
  if s.cfgN O.lcState == 4 then some (.refused, 0)
  else match cardOf a with
  | none => some (.unknownObject, 0)
  | some c =>
    match s.domainRefusal (a / 256) with
    | some r => some r
    | none =>
      match if c.persist == .stored then
              (if s.power.failing then some (.notAvailable, 0x03) else s.domains[Dom.mem].refusal) else none with
      | some r => some r
      | none =>
        match accessOf a c with
        | none => some (.accessDenied, 0x20)
        | some l => if levelRank src.level < levelRank l then some (.accessDenied, 0x20) else none

/-- The checks of an integer value: type, range and rules, WHEN DISABLED (R12, R352). DEDUCED, log entry 97. -/
def State.valueRefusal (s : State) (a : Nat) (v : Int) : Option (Reply × Nat) :=
  match cardOf a with
  | none => some (.unknownObject, 0)
  | some c =>
    if c.ty.bytes.isNone then some (.typeMismatch, 0)
    else if !(c.ty.bounds.1 ≤ v && v ≤ c.ty.bounds.2) then some (.typeMismatch, 0)
    else if !c.range.holds v || !s.ruleOk a v then some (.outOfRange, 0)
    else if c.effect == .whenDisabled && !(s.concerned a v).all s.isDisabled then some (.locked, 0)
    else if s.stateLocked a then some (.locked, 0)
    else none

/-- The checks every write of an integer value passes before the object's own behaviour; an object that a service claims is
LOCKED to every other source (R420). DEDUCED, log entry 97. -/
def State.writeRefusal (s : State) (src : Src) (a : Nat) (v : Int) : Option (Reply × Nat) :=
  match s.accessRefusal src a with
  | some r => some r
  | none =>
    match s.valueRefusal a v with
    | some r => some r
    | none => if src.port != .host && s.claimedObjects.contains a then some (.locked, 0) else none

/-! ### The sealed safety configuration (R413) -/

/-- A value of the sealed safety configuration (R413). -/
def State.safeCfg (s : State) (a : Nat) : Int := (storeGet s.safety.active a).getD (defaultOf a)
/-- A value of the sealed safety configuration, as a natural number. -/
def State.safeCfgN (s : State) (a : Nat) : Nat := (s.safeCfg a).toNat
/-- The largest speed under an active SLS, 0.95 × SLS_LIMIT, in counts/s (R381). -/
def State.slsTop (s : State) (a : AxisN) : Rat := 95 / 100 * (s.safeCfgN (O.slsLimit a) : Rat)

end Sys2Proof.Machine
end

