-- ==== Sys2Proof/Machine/Writes.lean ====
section
/-! DEFINITION. The write of an object from a source: the check of its value, the values that bytes spell, the sessions of
requests, and the order of writes that arrive on one tick (R13, R31, R32 of 01; R337, R342, R351, R352 of 10). -/

namespace Sys2Proof.Machine

/-- The reference of an address. -/
def refOf (a : Nat) : Ref := ⟨a / 256, a % 256⟩
/-- The address of a reference. -/
def Ref.addr (r : Ref) : Nat := r.index * 256 + r.sub

/-- The result of an object's own behaviour: the new state, its reply code and reason. -/
abbrev Acted := State × Reply × Nat
/-- Refused LOCKED, nothing changed. -/
def State.lock (s : State) : Acted := (s, .locked, 0)
/-- Answered OK. -/
def State.done (s : State) : Acted := (s, .ok, 0)

/-- The producer number of a port of arrival, or of a writing domain, HOST or SAFE-P (R32). -/
def producerOf : Port → Nat
  | .ethA => 0 | .ethB => 1 | .canA => 2 | .canB => 3 | .service => 4 | .host => 0x15 | .safety => 0x11
/-- A dictionary value passes its check at the end of its way, with the bits of its check given that were turned over on it
(R28, R31). -/
def valueOk (flip : BitVec 8) (v : Int) : Bool := flipFirst flip (checksOf 2 v) == checksOf 2 v
/-- The bits turned over in element i of a list of checks; 0 = none. -/
def flipAt (flips : List (BitVec 8)) (i : Nat) : BitVec 8 := flips[i]?.getD 0
/-- The bits turned over in the check of the running command's write of an address. -/
def State.flipOf (s : State) (a : Nat) : BitVec 8 := ((s.writeFlips.find? fun p => p.1 == a).map (·.2)).getD 0

/-! ### Values as bytes (R9, R31, R352) -/

/-- Bytes pass their checks: a word of the fabric for each four bytes (R31). DEDUCED, log entry 138. -/
def bytesOk (flip : BitVec 8) (bs : List Byte) : Bool :=
  let cs := checksOf ((bs.length + 3) / 4) (leVal bs)
  flipFirst flip cs == cs

/-- Two's-complement value of an n-byte signed integer. -/
def signedVal (n : Nat) (bs : List Byte) : Int :=
  let u := leVal bs
  if u < 2 ^ (8 * n - 1) then u else (u : Int) - 2 ^ (8 * n)

/-- The value that bytes spell for a type; none where the length is not the type's (R352). -/
def bytesVal (t : Ty) (bs : List Byte) : Option Int :=
  match t.bytes with
  | none => none
  | some n =>
    if bs.length ≠ n then none
    else match t with
      | .i8 | .i16 | .i32 | .i64 => some (signedVal n bs)
      | _ => some (leVal bs : Nat)

/-- The values that the bytes of a cyclic packet give the mapped objects, in list order: the object, whether its words pass their
check, and its value (R349, Table 1.9 kind 0x08). -/
def mappedValues : List Nat → List Byte → List (BitVec 8) → List (Nat × Bool × Option Int)
  | [], _, _ => []
  | a :: as, bytes, flips =>
    let n := ((cardOf a).bind (·.ty.bytes)).getD 0
    (a, bytesOk (flips.headD 0) (bytes.take n), (cardOf a).bind fun c => bytesVal c.ty (bytes.take n))
      :: mappedValues as (bytes.drop n) flips.tail

/-! ### Sources and sessions (R322, R341, R342, R351) -/

/-- The CAN port of a source. -/
def canOf : Port → Option CanN
  | .canA => some 0
  | .canB => some 1
  | .safety | .service | .ethA | .ethB | .host => none
/-- The source of a packet that arrived on an Ethernet port. -/
def portOf (p : EthN) : Port := if p.val = 0 then .ethA else .ethB
/-- The precedence of a source among tied writes: the lower executes first (R351). -/
def precedence : Port → Nat
  | .safety => 1 | .service => 2 | .ethA => 3 | .ethB => 4 | .canA | .canB => 5 | .host => 6

/-- The number of the CAN session (R342). -/
abbrev canSession : Fin 8 := 6
/-- The number of the service port's session (R342). -/
abbrev serviceSession : Fin 8 := 7
/-- The port and CLIENT a CAN session is bound to, as one word (R322). -/
def canSrc (p : CanN) (client : Nat) : Nat := p.val * 0x1000 + client

/-- The session a request belongs to, or its refusal (R322, R342). An unbound CAN session takes any request.
DEDUCED, log entry 67. -/
def State.sessionOf (s : State) (q : Request) : Except (Reply × Nat) (Fin 8) :=
  let check := fun (k : Fin 8) (src : Nat) =>
    let x := s.net.sessions[k]
    if !x.bound then .error (.accessDenied, 0x23)
    else if x.src != src then .error (.accessDenied, 0x21)
    else .ok k
  match canOf q.port with
  | some p => if s.net.sessions[canSession].bound then check canSession (canSrc p q.src) else .ok canSession
  | none =>
    if q.port == .service then check serviceSession q.src
    else if h : q.session < 6 then check ⟨q.session, by omega⟩ q.src
    else .error (.accessDenied, 0x23)

/-- The source of a write of session k. -/
def State.srcOf (s : State) (q : Request) (k : Fin 8) : Src :=
  { port := q.port, level := s.net.sessions[k].level, arrival := some q.arrival }

/-! ### Requests as packets (R336, R337) -/

/-- The COMMAND of a request (Table 10.6). -/
def Asked.command : Asked → Nat
  | .read _ => 1
  | .write _ | .level _ => 2
  | .domainRead .. => 3
  | .domainWrite .. => 4
  | .other n => n

/-- The references that a request names. -/
def Asked.named : Asked → List Ref
  | .read rs => rs
  | .write ws => ws.map (·.ref)
  | .domainRead r _ _ | .domainWrite r _ _ => [r]
  | .level _ => [refOf O.sessionLevel]
  | .other _ => []

/-- The payload of a request (Table 10.6). -/
def Asked.payload : Asked → List Byte
  | .read _ | .other _ => []
  | .write ws => ws.flatMap fun w => leBytes 2 (w.bytes.length : Nat) ++ w.bytes
  | .domainRead _ offset maxLen => leBytes 4 (offset : Nat) ++ leBytes 2 (maxLen : Nat)
  | .domainWrite _ offset data => leBytes 4 (offset : Nat) ++ data
  | .level v => leBytes 2 1 ++ leBytes 1 v

/-- DST of a request (Table 10.2). -/
def dstOf (q : Request) : Nat := q.form * 0x4000 + q.header.dst % 0x4000
/-- The packet that carries a request (Table 10.4). -/
def packetOf (q : Request) (asked : Asked) : Packet :=
  { version := q.header.version, kind := q.header.kind.getD 0, refs := asked.named, dst := dstOf q, src := q.src
    session := q.session, command := asked.command, seq := q.seq, payload := asked.payload, lacking := q.header.lacking }
/-- KIND is accepted: REQUEST, of an IDENTIFY also IDENTIFY (Table 10.4). DEDUCED, log entry 66. -/
def kindAccepted (q : Request) (asked : Asked) : Bool :=
  let k := q.header.kind.getD 0
  k == 0 || k == 6 && asked.command == 0x12
/-- The request's packet is accepted by its bytes (R337). DEDUCED, log entry 66. -/
def requestSound (q : Request) (asked : Asked) : Bool := (packetOf q asked).accepted q.header.endCheck && kindAccepted q asked

/-- The module is meant by a destination address: in form 0 when both numbers are its own, in form 2 when the segment is (R333,
R334). A form that is nobody's in particular is left to R337. DEDUCED, log entry 66. -/
def State.addressed (s : State) (dst : Nat) : Bool :=
  match dst / 0x4000 with
  | 0 => dst == s.address
  | 2 => dst / 256 % 64 == s.cfgN O.segment
  | _ => true
/-- A frame with an Orham packet reaches the parser of port p: the link is up, the EtherType is ORHAM_ETHERTYPE, PCP is accepted
for the packet's traffic (Table 10.1), and its MAC address is ETH_MAC or, for a packet to many, a group address (R329, R334,
R335). DEDUCED, log entry 66. -/
def State.framed (s : State) (p : EthN) (h : Header) (lo hi : Nat) (many : Bool) : Bool :=
  s.net.ports[p].up && etherTypeOf h == s.cfgN O.orhamEthertype && lo ≤ pcpOf h && pcpOf h ≤ hi
    && h.dstMac.all fun m => (many && m / 2 ^ 40 % 2 == 1) || m == Config.ethMac % 2 ^ 48

/-! ### Writes of one arrival tick (R351) -/

/-- Frame k is enabled in the given direction: 0 receive, 1 transmit. -/
def State.cyclicOn (s : State) (k : CycN) (dir : Nat) : Bool :=
  s.runs Dom.net && s.cfgN (O.cycEnable k) == 1 && s.cfgN (O.cycDir k) == dir

/-- The time of the application instants, in ns: IEEE 1588 time while DISCIPLINED is set, else REF_TIME (R350). -/
def State.cyclicClock (s : State) : Rat :=
  if s.ref.disciplined then s.ref.ptpTime + (((s.ref.time : Int) - s.ref.ptpAt : Int) : Rat) * 5 / 2 else (s.ref.time : Rat) * 5 / 2
/-- The application instant of cycle n of frame k, n × CYC_PERIOD + CYC_PHASE, has come (R350). -/
def State.cycleCame (s : State) (k : CycN) (n : Nat) : Bool :=
  decide (((n * s.cfgN (O.cycPeriod k) * 62500 + s.cfgN (O.cycPhase k) : Nat) : Rat) ≤ s.cyclicClock)

/-- The value comes into force when the write completes (R351). -/
def atOnce (a : Nat) : Bool := (cardOf a).any fun c => c.effect == .immediate || c.effect == .whenDisabled

/-- The object that FB_CHANNEL_RESTART writes (R118). -/
def restartObject (f : ChanN) : FbRestart → Nat
  | .fbType => O.fbType f
  | .fbInvert => O.fbInvert f
  | .countsPerRev => O.countsPerRev f

/-- The write that a row is: its source, its object and its value. -/
def rowWrite : Instr → Option (Src × Nat × Int)
  | .crestReinstate src c v => some (src, O.crestReinstate c, v)
  | .legReinstate src l v => some (src, O.legReinstate l, v)
  | .ciReinstate src l v => some (src, O.ciReinstate l, v)
  | .fbChannelRestart src f obj v => some (src, restartObject f obj, v)
  | .fbReinstate src f v => some (src, O.fbReinstate f, v)
  | .indexArm src f v => some (src, O.indexArm f, v)
  | .ptSourceChange src p v => some (src, O.ptSource p, v)
  | .axisEnable src a => some (src, O.axisCommand a, 1)
  | .axisStart src a => some (src, O.axisCommand a, 2)
  | .axisStop src a => some (src, O.axisCommand a, 3)
  | .axisDisable src a => some (src, O.axisCommand a, 4)
  | .keAck src a v => some (src, O.keAck a, v)
  | .stepTableCommit src t v => some (src, O.stepTableCommit t, v)
  | .stepTableRestore src t v => some (src, O.stepTableRestore t, v)
  | .cmpPositionWrite src u v => some (src, O.cmpPosition u, v)
  | .cmpDirectionWrite src u v => some (src, O.cmpDirection u, v)
  | .cmpSourceWrite src u v => some (src, O.cmpSource u, v)
  | .cmpEnableWrite src u v => some (src, O.cmpEnable u, v)
  | .homeStart src a => some (src, O.homeCommand a, 1)
  | .homeAbort src a => some (src, O.homeCommand a, 2)
  | .canRelease src p v => some (src, O.canRelease p, v)
  | .canReinstate src p v => some (src, O.canReinstate p, v)
  | .canAbort src p mask => some (src, O.canAbort p, mask)
  | .canModeWrite src p v => some (src, O.canMode p, v)
  | .eventAckAll src v => some (src, O.eventAckAll, v)
  | .ethReinstate src p v => some (src, O.ethReinstate p, v)
  | .brakeCmdWrite src k v => some (src, O.brakeCmd k, v)
  | .configSeal src v => some (src, O.configSeal, v)
  | .thrEnable src t v => some (src, O.thrEnable t, v)
  | .thrCrashStart src t => some (src, O.thrCrash t, 1)
  | .thrCrashEnd src t => some (src, O.thrCrash t, 0)
  | .winchModeWrite src w v => some (src, O.winchMode w, v)
  | .payoutSet src w v => some (src, O.payoutSet w, v)
  | .winchReleaseStart src w => some (src, O.winchRelease w, 1)
  | .winchReleaseStop src w => some (src, O.winchRelease w, 0)
  | .spoolEnable src w v => some (src, O.spoolEnable w, v)
  | .recFreeze src v => some (src, O.recFreeze, v)
  | .recRearm src v => some (src, O.recRearm, v)
  | .testRerun src v => some (src, O.testRerun, v)
  | .testEnable src v => some (src, O.testEnable, v)
  | .testCtrl src v => some (src, O.testCtrl, v)
  | .bscanOpen src => some (src, O.bscanEnable, 1)
  | .bscanClose src => some (src, O.bscanEnable, 0)
  | .domainReset src d => some (src, O.domainCtrl, (0x100 + d.val : Nat))
  | .domainPowerDown src d => some (src, O.domainCtrl, (0x200 + d.val : Nat))
  | .domainStart src d => some (src, O.domainCtrl, (0x300 + d.val : Nat))
  | .powerModeRun src => some (src, O.powerMode, 0)
  | .powerModeQuiet src => some (src, O.powerMode, 1)
  | .powerModeDormant src => some (src, O.powerMode, 2)
  | .lcAdvance src v => some (src, O.lcAdvance, v)
  | .fwActivate src k v => some (src, O.fwActivate k, v)
  | .objectWrite src r v => some (src, Ref.addr r, v)
  | _ => none

/-- The writes of numbers that a waiting command makes, those whose check fails left out (R351). DEDUCED, log entry 70. -/
def State.writesOf (s : State) (i : Instr) : List (Src × Nat × Int) :=
  match i with
  | .write q refs =>
    let asked := refs.map fun w => { w with flip := 0 }
    if (canOf q.port).isNone && !requestSound q (.write asked) then []
    else match s.sessionOf q with
    | .error _ => []
    | .ok k => refs.filterMap fun w =>
        if bytesOk w.flip w.bytes then
          ((cardOf (Ref.addr w.ref)).bind fun c => bytesVal c.ty w.bytes).map fun v => (s.srcOf q k, Ref.addr w.ref, v)
        else none
  | .cyclicApplicationInstant k n flips =>
    if !s.cyclicOn k 0 || !s.cycleCame k n then []
    else match s.net.cyclic[k].buffers.find? fun b => b.1 == n % 0x10000 with
      | none => []
      | some (_, p, payload) => (mappedValues (s.frameObjects k) payload flips).filterMap fun x =>
          if x.2.1 then x.2.2.map fun v => ({ port := portOf p, level := .operate, arrival := some s.ref.time }, x.1, v) else none
  | i => match rowWrite i with
    | some (src, a, v) => if valueOk src.flip v then [(src, a, v)] else []
    | none => []

/-- A later source has already written the object at this arrival tick (R351). DEDUCED, log entry 70. -/
def State.tieLost (s : State) (port : Port) (arrival a : Nat) : Bool :=
  s.net.tied.any fun t => t.1 == a && t.2.1 == arrival && precedence port < t.2.2

/-- A write that waits in the queue was verified on the same tick, comes later in precedence, and will be accepted
(R351). DEDUCED, log entry 70. -/
def State.tieWaits (s : State) (port : Port) (arrival a : Nat) : Bool :=
  s.pending.any fun i => (s.writesOf i).any fun w =>
    w.2.1 == a && w.1.arrival == some arrival && precedence port ≤ precedence w.1.port && (s.writeRefusal w.1 a w.2.2).isNone

/-- The write of object a by this source at this arrival tick is in force or staged. -/
def State.noteTie (s : State) (port : Port) (arrival a : Nat) : State :=
  { s with net := { s.net with tied := (a, arrival, precedence port) :: s.net.tied.filter fun t => t.2.1 == arrival } }

/-- Execute an accepted write, with the order of tied writes (R351); it aborts a slice of the block it reaches (R456). DEDUCED,
log entry 70. -/
def State.ordered (s : State) (src : Src) (a : Nat) (act : State → Acted) : Acted :=
  let act := fun (s : State) => ((act s).1.accessed a, (act s).2)
  match src.arrival with
  | none => act s
  | some t =>
    let lost := s.tieLost src.port t a
    if atOnce a && (lost || s.tieWaits src.port t a) then (s, .superseded, 0)
    else if lost then s.done
    else
      let (s, c) := act s
      (if c.1 == .ok then s.noteTie src.port t a else s, c)

/-- A write by one of the rows that name an object: the check of its value (Table 1.9, kind 0x05), the checks of every write,
its place among the writes of its tick, then the object's own behaviour, then the answer. -/
def State.writeRow (s : State) (src : Src) (a : Nat) (v : Int) (act : State → Acted) : State :=
  if !valueOk src.flip v then (s.checkReport 5 (producerOf src.port)).emit (.written (refOf a) .checkFailed 0)
  else match s.writeRefusal src a v with
  | some (code, reason) => s.emit (.written (refOf a) code reason)
  | none =>
    let (s', code, reason) := s.ordered src a act
    s'.emit (.written (refOf a) code reason)

end Sys2Proof.Machine
end

