-- ==== Sys2Proof/Machine/Edges.lean ====
section
/-! DEFINITION. The carriers of an axis, the PULSE edges of its edge sets, and the instants at which a sample may be
taken (R51, R58, R64, R65, R96, R97, R99, R103, R162). Times are whole numbers of 156.25 ps, 16 to a reference tick. -/

namespace Sys2Proof.Machine

/-- The carrier period of axis a in 156.25 ps (R161). -/
def State.period16 (s : State) (a : AxisN) : Int := 16 * (s.carrierTicks a : Int)
/-- Nanoseconds in 156.25 ps, to the nearest. DESIGN CHOICE, log entry 105. -/
def ns16 (q : Rat) : Int := roundNear (q * 32 / 5)
/-- The place j of leg l within its phase; a retired leg's place stays empty (R87, R96, R156). -/
def State.placeInPhase (s : State) (a : AxisN) (l : LegN) : Nat := (l.val - s.cfgN (O.firstLeg a)) % s.phaseLegs a
/-- The shift of the carrier of leg l from the axis's reference carrier (R96). -/
def State.carrierShift (s : State) (a : AxisN) (l : LegN) : Int :=
  let n : Int := s.phaseLegs a
  let j : Int := s.placeInPhase a l
  if n ≤ 2 then j * s.period16 a / n else (2 * j + 1) * s.period16 a / (2 * n)

/-! ### The edges of an edge set -/

/-- How long PULSE is low in a refresh pulse: one dead time and 1.2 µs of low-side conduction. The second dead time of
the sequence follows the rising edge (R54, R64). DEDUCED, log entry 24. -/
def State.refreshLow (s : State) (l : LegN) : Int := 7680 + (s.deadtimeEff l : Int)
/-- The duty that leg l switches at under an edge set: the phase duty and the trim, which moves both edges outward (R109,
R164), or the off interval of a refresh pulse (R64). -/
def State.setDuty (s : State) (a : AxisN) (l : LegN) (e : EdgeSet) : Rat :=
  let d := e.duty + 2 * e.trim / s.periodNs a
  if e.refresh then min d (1 - (s.refreshLow l : Rat) / s.period16 a) else d

/-- The edges of leg l in one carrier period from the valley of the reference carrier, unsorted: its high-side interval is
centred on its own carrier valley (R96). A RECHARGING leg's low side conducts for 1.2 µs centred on its carrier peak,
after its dead time (R54, R65, R97). Edges lie on the 156.25 ps grid; the nearest point is taken. DESIGN CHOICE, log entry 105. -/
def State.periodEdges (s : State) (a : AxisN) (l : LegN) (e : EdgeSet) : List Edge :=
  let T := s.period16 a
  let c := s.carrierShift a l
  if (s.leg l).state == .recharging then
    [⟨(c + T / 2 - 3840 - s.deadtimeEff l).fmod T, false, true⟩, ⟨(c + T / 2 + 3840).fmod T, true, true⟩]
  else
    let d := s.setDuty a l e
    if d ≤ 0 || 1 ≤ d then []
    else
      let h := roundNear (d * T / 2)
      [⟨(c + h).fmod T, false, false⟩, ⟨(c - h).fmod T, true, false⟩]

/-- Half of the off interval that leg l has under an edge set without a refresh pulse, in 156.25 ps. -/
def State.offHalf (s : State) (a : AxisN) (l : LegN) (e : EdgeSet) : Int :=
  let T := s.period16 a
  T / 2 - roundNear (max 0 (min 1 (s.setDuty a l { e with refresh := false })) * T / 2)
/-- The centre of the first off interval of leg l that ends after the update point at phase x, from that point: the leg's carrier
peak in the interval, or the one before where its off interval reaches over the update point (R64). -/
def State.refreshCentre (s : State) (a : AxisN) (l : LegN) (e : EdgeSet) (x : Int) : Int :=
  let T := s.period16 a
  let p := (s.carrierShift a l + T / 2 - x).fmod T
  if 0 ≤ p - T + s.offHalf a l e then p - T else p
/-- That off interval ends in the interval of length `len` that the commit governs, so that the commit can replace it (R64, R162).
DEDUCED, log entry 24. -/
def State.refreshFits (s : State) (a : AxisN) (l : LegN) (e : EdgeSet) (x len : Int) : Bool :=
  decide (s.refreshCentre a l e x + s.offHalf a l e < len)
/-- The edges of an interval whose set holds a refresh pulse (R64): the pulse takes the place of the next off interval, about its
centre and inside the interval. Where that off interval began before the update point under the set `was`, PULSE stays low until
the low side has conducted for 1.2 µs, counted afresh where it did not conduct before. DEDUCED, log entry 24. -/
def State.refreshEdges (s : State) (a : AxisN) (l : LegN) (e was : EdgeSet) (x len : Int) (pulse conducts : Bool) : List Edge :=
  let q := s.refreshCentre a l e x
  let h := s.offHalf a l e
  let low := s.refreshLow l
  if 0 ≤ q - h then
    let fall := max 0 (min (q - low / 2) (len - low))
    let es : List Edge := [⟨fall, false, true⟩, ⟨fall + low, true, true⟩]
    if pulse || fall == 0 then es else ⟨0, true, false⟩ :: es
  else
    let start := if pulse || !conducts then 0 else q - s.offHalf a l was
    let next := q + s.period16 a - h
    [⟨0, false, true⟩, ⟨max (q + h) (start + low), true, true⟩] ++ (if next < len then [⟨next, false, false⟩] else [])

/-- The word of a leg's commit: how long PULSE is high in a carrier period, in 156.25 ps. The manual gives a commit word and
no layout. DESIGN CHOICE, log entry 110. -/
def State.commitWord (s : State) (a : AxisN) (l : LegN) (e : EdgeSet) : Int := roundNear (s.setDuty a l e * s.period16 a)

/-- Put an edge into a list in order of time. -/
def insertEdge (e : Edge) : List Edge → List Edge
  | [] => [e]
  | f :: fs => if e.time < f.time then e :: f :: fs else f :: insertEdge e fs
/-- Edges in order of time. -/
def sortEdges (es : List Edge) : List Edge := es.foldl (fun m e => insertEdge e m) []

/-- The level of PULSE that an edge set asks for at phase x of the reference carrier, away from an edge. -/
def State.levelAt (s : State) (a : AxisN) (l : LegN) (e : EdgeSet) (x : Int) : Bool :=
  let T := s.period16 a
  let u := (x - s.carrierShift a l).fmod T
  if (s.leg l).state == .recharging || 1 ≤ s.setDuty a l e then true
  else decide ((2 * min u (T - u) : Int) < s.setDuty a l e * T)

/-- The edges of an interval whose set holds no refresh pulse, or of a leg that recharges (R51, R65). -/
def State.plainEdges (s : State) (a : AxisN) (l : LegN) (e : EdgeSet) (x len : Int) (pulse : Bool) : List Edge :=
  let T := s.period16 a
  let es := sortEdges (((s.periodEdges a l e).map fun g => { g with time := (g.time - x).fmod T }).filter
    fun g => g.time < len)
  let first := match es with
    | g :: _ => !g.level
    | [] => s.levelAt a l e x
  if pulse == first then es
  else match es with
    | g :: gs => if g.time == 0 then gs else ⟨0, first, false⟩ :: g :: gs
    | [] => [⟨0, first, false⟩]

/-- The interval for which a side would conduct in leg l, after its dead time, is shorter than MIN_ON (R58). An edge set with a
refresh pulse drops none of its intervals: the pulse of 1.2 µs is made whatever MIN_ON is. DESIGN CHOICE, log entry 144. -/
def State.dropped (s : State) (a : AxisN) (l : LegN) (e : EdgeSet) (high : Bool) : Bool :=
  let d := s.setDuty a l e
  let on := (if high then d else 1 - d) * s.periodNs a - (s.deadtimeEff l : Rat) * (5 / 32)
  !e.refresh && decide (on < s.cfgN (O.minOn l))

/-- The edges of leg l under the set `e` in the interval of length `len` that begins at phase x, after the set `was`: those at or
after its update point and before the next one (R162). Where PULSE stands at another level than the set asks for there, it
changes at the update point. DESIGN CHOICE, log entry 105. -/
def State.intervalEdges (s : State) (a : AxisN) (l : LegN) (e was : EdgeSet) (x len : Int) (pulse : Bool) : List Edge :=
  if e.refresh && (s.leg l).state != .recharging then
    s.refreshEdges a l e was x len pulse (!s.dropped a l was false)
  else s.plainEdges a l e x len pulse

/-- The phase of the reference carrier at an update point, from the nominal instant of its cycle, and the length of the
interval it begins (R162). -/
def State.updatePhase (s : State) (a : AxisN) (peak : Bool) : Int × Int :=
  let T := s.period16 a
  if s.cfgN (O.updateMode a) == 1 then (if peak then 0 else T / 2, T / 2) else (T / 2, T)

/-- The duty that leg l applies: an interval that the leg cell drops is not applied (R166). -/
def State.appliedDuty (s : State) (a : AxisN) (l : LegN) (e : EdgeSet) : Rat :=
  let d := max 0 (min 1 (s.setDuty a l e))
  if 0 < d && s.dropped a l e true then 0 else if d < 1 && s.dropped a l e false then 1 else d

/-! ### The sample instant (R97, R99, R103) -/

/-- The legs whose edges count for the saddle: those in service, and those that recharge (R97). -/
def Leg.switches (L : Leg) : Bool := L.state == .inService || L.state == .recharging

/-- The level of PULSE after a list of edges. -/
def levelAfter (start : Bool) (es : List Edge) : Bool := es.foldl (fun _ e => e.level) start
/-- The search window, in ticks from the nominal instant (R99). -/
def State.searchWindow (s : State) (a : AxisN) : Int × Int :=
  let w := (s.gridNs a / 2 + s.tauNs a) * (2 / 5)
  (-w.floor, w.floor)

/-- Cycle c was committed before the search window of the next cycle opens, at the reference tick of whose nominal instant its
edges begin to act in double update (R103, R162). -/
def State.committedInTime (s : State) (a : AxisN) (c : Cycle) : Bool :=
  let f := (s.axis a).field
  let nominal := if c.past then f.updatedAt else f.updatedAt + s.cycleTicks a
  !c.late && c.committed.any fun t => decide ((t : Int) < nominal + (s.searchWindow a).1)

/-- The PULSE edges of leg l about a nominal instant at phase x, in 156.25 ps from it, over a carrier period or more (R97). In
single update the instant lies in the middle of the running interval. In double update an update point falls on it: the edges
after it are those of the set committed for it where that was done before the window opens, else those of the set before, which
goes on (R27, R103). -/
def State.edgesOf (s : State) (a : AxisN) (l : LegN) (x : Int) : List Int :=
  let T := s.period16 a
  let L := s.leg l
  let f := (s.axis a).field
  let c := f.cycles[f.cycle % 2]
  let known := s.committedInTime a c
  let near : List Int :=
    if s.cfgN (O.updateMode a) == 0 then L.interval.map fun g => g.time - T / 2
    else
      let before := if c.past then L.before else L.interval
      let after :=
        if c.past && known then L.interval
        else
          let was := if c.past then L.last else L.active
          let e := if known then L.shadow[f.cycle % 2] else was
          s.intervalEdges a l e was x (T / 2) (levelAfter L.pulse before)
      (before.map fun g => g.time - T / 2) ++ after.map fun g => g.time
  near.flatMap fun t => [t - T, t, t + T]

/-- The edge set of leg l that governs the interval before the nominal instant of the axis's next cycle, and the one after it
(R110, R162). -/
def State.setsAround (s : State) (a : AxisN) (l : LegN) : EdgeSet × EdgeSet :=
  let f := (s.axis a).field
  let L := s.leg l
  let c := f.cycles[f.cycle % 2]
  if s.cfgN (O.updateMode a) == 0 then (L.active, L.active)
  else if c.past then (L.last, L.active)
  else if c.committed.isSome && !c.late then (L.active, L.shadow[f.cycle % 2])
  else (L.active, L.active)

/-- The PULSE edges of the axis about a nominal instant at phase x, each as its time from that instant and the end of its
switching interval (R97). -/
def State.edgesAround (s : State) (a : AxisN) (x : Int) : List (Int × Int) :=
  ((s.legsOf a).filter fun l => (s.leg l).switches).flatMap fun l =>
    (s.edgesOf a l x).map fun t => (t, t + (s.deadtimeEff l : Int))

/-- A tick, counted from the nominal instant, is valid for sampling: every switching interval that began at or before it ended
SETTLE_TIME ago, and no edge falls on it (R97). -/
def validTick (edges : List (Int × Int)) (settle : Int) (c : Int) : Bool :=
  edges.all fun e => e.1.fdiv 16 != c && (16 * c < e.1 || e.2 + settle ≤ 16 * c)

/-- The edge-free interval that holds a tick, in whole ticks, 0xFFFF at most (Table 3.9). -/
def gapAt (edges : List (Int × Int)) (c : Int) : Nat :=
  let before := (edges.map (·.1)).filter fun t => t ≤ 16 * c
  let after := (edges.map (·.1)).filter fun t => 16 * c < t
  match before, after with
  | b :: bs, n :: ns => min 0xFFFF ((ns.foldl min n - bs.foldl max b) / 16).toNat
  | _, _ => 0xFFFF

/-- The earliest valid tick in the search window (R103): the window's start, or a tick at which the last condition of some
edge has just come to hold. -/
def State.earliestValid (s : State) (a : AxisN) (edges : List (Int × Int)) (settle : Int) : Option Int :=
  let (lo, hi) := s.searchWindow a
  let ticks := lo :: edges.flatMap fun e => [-((-(e.2 + settle)).fdiv 16), e.1.fdiv 16 + 1]
  (ticks.filter fun c => decide (lo ≤ c) && decide (c ≤ hi) && validTick edges settle c).foldl
    (fun m c => match m with
      | none => some c
      | some d => some (min c d)) none

/-- Where the sample of the axis's next cycle is taken: ticks from the nominal instant, whether that instant is valid, and the
edge-free interval that holds it (R97, R99, R103). With no gate switched there is no edge. -/
def State.sampleAt (s : State) (a : AxisN) (search switching peak : Bool) : Int × Bool × Nat :=
  let x := if peak then s.period16 a / 2 else 0
  let edges := if switching then s.edgesAround a x else []
  let settle := ns16 (s.settleNs a)
  if search then
    match s.earliestValid a edges settle with
    | some c => (c, true, gapAt edges c)
    | none => (0, false, 0)
  else (0, validTick edges settle 0, gapAt edges 0)

end Sys2Proof.Machine
end

