-- ==== Sys2Proof/Machine/Legs.lean ====
section
/-! DEFINITION. Leg cells, leg groups and the axis reaction to leg faults (02): the meanings of the leg commands. -/

namespace Sys2Proof.Machine

open Host

/-- The gates of leg l follow a reaction, or the leg belongs to no axis. -/
def State.reacting (s : State) (l : LegN) : Bool :=
  match s.axisOf l with
  | some a => (s.axis a).reaction.gate != Reaction.normal
  | none => true

/-- A reaction-side gate of a held ASC that was off before has begun to rise: the reaction window closes (R78). -/
def State.closeWindow (s before : State) (l : LegN) : State :=
  match s.axisOf l with
  | some a =>
    let r := (s.axis a).reaction
    if r.gate.isAsc && (s.leg l).cmd r.ascSide && !(before.leg l).cmd r.ascSide then
      s.modReact a fun r => { r with window := false }
    else s
  | none => s

/-- GATE_MONITOR_OFF_REPORT (R54, R56, R68): the side's gate is below the off threshold; a soft turn-off ends in the
full sink, and a turn-on that waited for the report is made. The command of a side that reports off while it is commanded on
is withdrawn. DESIGN CHOICE, log entry 126. -/
def execGateMonitorOffReport (l : LegN) (side : Side) (s : State) : Outcome State Fault Refusal :=
  let before := s
  let s := s.modLeg l fun L =>
    let L := match side with
      | .high => { L with highOn := false, highCmd := false }
      | .low => { L with lowOn := false, lowCmd := false }
    let L := { L with softOff := if L.softOff == some side then none else L.softOff }
    L.settle
  .next (s.closeWindow before l)

/-- DEADTIME_EXPIRY (R53, R54): DEADTIME_EFFECTIVE has elapsed for the pending turn-on. -/
def execDeadtimeExpiry (l : LegN) (s : State) : Outcome State Fault Refusal :=
  let before := s
  let s := s.modLeg l fun L =>
    if L.turnOn.isSome then { L with deadTimeUp := true }.settle else L
  .next (s.closeWindow before l)

/-- GATE_TIMEOUT (R57): a side commanded off has not reported off within GATE_OFF_TIMEOUT. -/
def execGateTimeout (l : LegN) (side : Side) (s : State) : Outcome State Fault Refusal :=
  let L := s.leg l
  .next (if !L.cmd side && L.gateOn side then s.legFault l .gateTimeout side else s)

/-- GATE_RISE_UNCOMMANDED (R57): a gate commanded off rises above the off threshold. -/
def execGateRiseUncommanded (l : LegN) (side : Side) (s : State) : Outcome State Fault Refusal :=
  let L := s.leg l
  if L.cmd side || L.gateOn side then .next s
  else
    let s := s.modLeg l fun L => match side with
      | .high => { L with highOn := true }
      | .low => { L with lowOn := true }
    .next (s.legFault l .gateRise side)

/-- DESAT (R67, R68, R71): the comparator of a side commanded on trips after blanking. During a refresh pulse with
BLANKING of 1.2 µs or more it is not evaluated on the low side. -/
def execDesat (l : LegN) (side : Side) (s : State) : Outcome State Fault Refusal :=
  let L := s.leg l
  let blind := L.inRefresh && !s.reacting l && side == .low && 12 ≤ s.cfgN (O.blanking l)
  .next (if L.cmd side && !blind then s.legFault l .desat side else s)

/-- HARD_SHORT (R70): the gate has not passed the plateau within MILLER_TIMEOUT. -/
def execHardShort (l : LegN) (side : Side) (s : State) : Outcome State Fault Refusal :=
  .next (if (s.leg l).cmd side then s.legFault l .hardShort side else s)

/-- The legs of group g (R8). -/
def legsOfGroup (g : GroupN) : List LegN := allLegs.filter fun l => groupOf l == g

/-- GROUP_VGP_UV (R60): VGP has fallen below 14.0 V, tolerance ±0.2 V. -/
def execGroupVgpUv (g : GroupN) (mv : Nat) (s : State) : Outcome State Fault Refusal :=
  let s := s.setObj (O.vgpNow g) mv
  if s.groups[g].vgpUv || 14200 ≤ mv then .next s
  else
    let before := s
    let s := s.modGroup g fun x => { x with powered := false, vgpUv := true, vgpHigh := false }
    let s := s.modLegs (legsOfGroup g) fun _ L => { L.allOff with
      en := false
      vgpOut := L.state != .notAssigned
      rejoin := false
      state := if L.state == .inService then .off else L.state }
    let s := s.event 0x1209 g
    .next (s.each allAxes fun s a => s.checkPhases before a none)

/-- A leg in service reads below 13.0 V, or one has been reinstated since the last precharge: a precharge is due (R66, R89). -/
def State.prechargeDue (s : State) (a : AxisN) : Bool :=
  (s.legsOf a).any fun l => (s.leg l).state == .inService && (s.cfgN (O.vbsNow l) < 13000 || (s.leg l).precharge)

/-- Turn every low side of the axis's legs in service on together (R66, R190). -/
def State.lowPulse (s : State) (a : AxisN) : State :=
  (s.endSlices a).modLegs (s.legsOf a) fun _ L =>
    let L := { L with inRefresh := false }
    if L.state == .inService then L.drive .low else L

/-- The leg group has VGP again: an axis that runs checks VBS of the legs that waited, and where one reads below 13.0 V they
rejoin in a precharge of the axis; the others wait for the next start (R60, R66). DEDUCED, log entry 127. -/
def State.regainLegs (s : State) (a : AxisN) : State :=
  let f := (s.axis a).field
  if (f.state == .running || f.state == .stopping) && f.catching.phase == .none && (s.legsOf a).any (fun l => (s.leg l).rejoin)
      && (s.rejoinLegs a).prechargeDue a then
    (((s.rejoinLegs a).modField a fun f => { f with regain := true }).newPeriod a).lowPulse a
  else s

/-- GROUP_VGP_RESTORED (R60, R66): VGP has stayed above 14.5 V for 10 ms; its legs rejoin at the next start or
precharge. -/
def execGroupVgpRestored (g : GroupN) (mv : Nat) (s : State) : Outcome State Fault Refusal :=
  let s := s.setObj (O.vgpNow g) mv
  if mv ≤ 14500 then .next s
  else
    let s := s.modGroup g fun x => { x with powered := true, vgpUv := false, vgpHigh := x.vgpHigh && 20500 < mv }
    let s := s.modLegs (legsOfGroup g) fun _ L => { L with rejoin := L.rejoin || L.vgpOut }
    .next (s.each (allAxes.filter fun a => (s.legsOf a).any fun l => groupOf l == g) fun s a => s.regainLegs a)

/-- GROUP_VGP_HIGH (R60): VGP above 20.5 V is a warning; a reading at or below it ends the warning. -/
def execGroupVgpHigh (g : GroupN) (mv : Nat) (s : State) : Outcome State Fault Refusal :=
  let was := s.groups[g].vgpHigh
  let hi : Bool := 20500 < mv
  let s := (s.setObj (O.vgpNow g) mv).modGroup g fun x => { x with vgpHigh := hi }
  .next (if hi && !was then s.event 0x110B g else s)

/-- GROUP_VGN_HIGH (R60): VGN more positive than VGN_EXPECTED + 1.5 V is a warning. -/
def execGroupVgnHigh (g : GroupN) (mv : Int) (s : State) : Outcome State Fault Refusal :=
  let was := s.groups[g].vgnHigh
  let hi : Bool := s.cfg (O.vgnExpected g) + 1500 < mv
  let s := (s.setObj (O.vgnNow g) mv).modGroup g fun x => { x with vgnHigh := hi }
  .next (if hi && !was then s.event 0x110A g else s)

/-- VBS_WARNING (R61, R64): VBS has fallen below 12.5 V, tolerance ±0.15 V. -/
def execVbsWarning (l : LegN) (mv : Nat) (s : State) : Outcome State Fault Refusal :=
  let was := (s.leg l).vbsWarn
  let s := s.setObj (O.vbsNow l) mv
  if was || 12650 ≤ mv then .next s
  else .next ((s.modLeg l fun L => { L with vbsWarn := true }).event 0x1108 l)

/-- VBS_WARN_CLEAR (R61, R64): VBS is above the warning comparator again, 12.5 V with its tolerance. -/
def execVbsWarnClear (l : LegN) (mv : Nat) (s : State) : Outcome State Fault Refusal :=
  let s := s.setObj (O.vbsNow l) mv
  .next (if 12350 < mv then s.modLeg l fun L => { L with vbsWarn := false } else s)

/-- BOOTSTRAP_UV (R65): VBS has fallen below 11.0 V, tolerance ±0.15 V: the leg goes to RECHARGING; one episode latches it
once. -/
def execBootstrapUv (l : LegN) (mv : Nat) (s : State) : Outcome State Fault Refusal :=
  let s := s.setObj (O.vbsNow l) mv
  let L := s.leg l
  let watched : Bool := match L.state with
    | .inService | .off => true
    | .latched => !L.hsInhibit
    | .recharging | .retired | .notAssigned => false
  .next (if watched && mv < 11150 then s.legFault l .bootstrapUv .high else s)

/-- The axis of leg l has its control EN up, for field control. -/
def State.legUp (s : State) (l : LegN) : Bool :=
  match s.axisOf l with
  | some a => let f := (s.axis a).field
    (f.state == .running || f.state == .stopping) && !f.regain
  | none => false

/-- RECHARGE_COMPLETE (R65): VBS is 13.0 V or above at a rising PULSE edge: the leg rejoins its phase. -/
def execRechargeComplete (l : LegN) (mv : Nat) (s : State) : Outcome State Fault Refusal :=
  let s := s.setObj (O.vbsNow l) mv
  .next (if (s.leg l).state == .recharging && 13000 ≤ mv then s.retryLeg l (s.legUp l) else s)

/-- RECHARGE_FAILED (R65): 13.0 V was not reached within 20 ms. The failure that ends the episode of a BOOTSTRAP_UV
adds no count and carries its class digit; a later one is counted as a new fault. DEDUCED, log entry 143. -/
def execRechargeFailed (l : LegN) (s : State) : Outcome State Fault Refusal :=
  let L := s.leg l
  .next (if L.state == .recharging && decide (L.faultAt + 20 * ticksPerMs ≤ s.ref.time) then
    s.legFault l .rechargeFailed .high L.uvDigit else s)

/-- LEG_FAULT_CLEAR (R65, R84): in normal service, at the first rising PULSE edge after the reaction ended and control EN was
reasserted, a latched short-class or gate-class fault clears and the leg is retried. -/
def execLegFaultClear (l : LegN) (s : State) : Outcome State Fault Refusal :=
  let L := s.leg l
  match s.axisOf l, L.latch with
  | some a, some (k, _) =>
    let f := (s.axis a).field
    if L.state == .latched && !k.supply && !(s.axis a).reaction.held && !s.clearingPeriod a
        && (f.state == .running || f.state == .stopping) then
      .next ((s.modLeg l fun L => { L with pulse := true }).retryLeg l true)
    else if L.state == .latched && k == .rechargeFailed && !s.clearingPeriod a then
      .next (s.retryLeg l (s.legUp l))
    else .next s
  | _, _ => .next s

/-- AUTOCLEAR (R85): AUTOCLEAR_WAIT has passed in a start-up, self-test or recovery period: the latched fault clears,
at most AUTOCLEAR_MAX times in the period. A RECHARGE_FAILED below 13.0 V goes back to RECHARGING (R65).
DEDUCED, log entry 143. -/
def execAutoclear (l : LegN) (s : State) : Outcome State Fault Refusal :=
  let L := s.leg l
  match s.axisOf l, L.latch with
  | some a, some (k, _) =>
    let f := (s.axis a).field
    let period := s.clearingPeriod a || (f.state == .disabled && (s.legSlice l || L.sliceLatch))
    if L.state == .latched && k != .noAck && period && L.autoclears < s.cfgN O.autoclearMax
        && L.faultAt + s.cfgN O.autoclearWait * ticksPerMs ≤ s.ref.time then
      .next ((s.modLeg l fun L => { L with autoclears := L.autoclears + 1 }).retryLeg l (s.legUp l))
    else .next s
  | _, _ => .next s

/-- NO_ACK (R37, R52): the leg has not acknowledged its shadow write within 100 ns. It is left out of the commit and
latched as a SUPPLY-class fault until it acknowledges again. DEDUCED, log entries 16 and 18. -/
def execNoAck (l : LegN) (s : State) : Outcome State Fault Refusal :=
  let L := s.leg l
  let s := s.modLeg l fun L => { L with silent := true }
  if L.state == .inService then
    -- Table 2.12: where its loss empties the phase, the low side is taken
    let s := s.legFault l .noAck .low
    let reacting : Bool := s.reacting l
    .next (s.modLeg l fun M =>
      let M := { M with leftOut := true }
      -- its gates follow the old edge set until the update point (R52), unless a reaction holds them
      if M.state == .latched && !reacting then
        { M with en := L.en, highCmd := L.highCmd, lowCmd := L.lowCmd, turnOn := L.turnOn,
                 deadTimeUp := L.deadTimeUp }
      else M)
  else .next s

/-- The gates of leg l at an edge of PULSE (R50, R54, R58, R65): they follow PULSE, a RECHARGING leg for its 1.2 µs pulse only,
to which MIN_ON does not apply (DESIGN CHOICE, log entry 144); an interval shorter than MIN_ON is dropped. -/
def State.edgeGates (s : State) (a : AxisN) (l : LegN) (e : Edge) (L : Leg) : Leg :=
  let sd : Side := if e.level then .high else .low
  if L.state == .recharging then
    if sd == .low && e.refresh && !L.vgpOut then L.drive .low else { L.allOff with en := false }
  else if s.dropped a l L.active e.level then L.idle
  else L.toward sd

/-- PULSE_EDGE (R51, R54, R58, R64, R65): the next edge of the interval's edge set. With the reference unlocked no edge is
placed (R52); under a held reaction the gates follow the reaction logic, and in a precharge the low sides stay on (R66). -/
def execPulseEdge (l : LegN) (s : State) : Outcome State Fault Refusal :=
  match s.ref.locked, s.axisOf l, (s.leg l).edges with
  | true, some a, e :: es =>
    let own : Bool := !s.reacting l && !(s.axis a).field.regain
    .next (s.modLeg l fun L =>
      let L := { L with edges := es, pulse := e.level, inRefresh := own && e.refresh && !e.level }
      if own then s.edgeGates a l e L else L)
  | _, _, _ => .next s

/-- SAFETY_ENABLE_LOSS_AT_LEG (R50, R360): the leg cell takes SEN-P or SEN-L as removed; both gates fall. -/
def execSafetyEnableLossAtLeg (l : LegN) (path : Path) (s : State) : Outcome State Fault Refusal :=
  .next (s.modLeg l fun L => match path with
    | .p => { L.allOff with enP := false }
    | .l => { L.allOff with enL := false })

end Sys2Proof.Machine
end

