-- ==== Sys2Proof/Machine/Fabric.lean ====
section
/-! DEFINITION. Time reference, check values, crests: their supply, retirement, reinstatement, and the placement of
axes on crests (01, and R200 to R203 of 05). -/

namespace Sys2Proof.Machine

open Host

/-! ### Retiring a crest, placing its axes -/

/-- Insert an axis into the placement order: ascending MIGRATE_RANK, ties to the lower axis (R201). -/
def State.rankInsert (s : State) (a : AxisN) : List AxisN → List AxisN
  | [] => [a]
  | b :: bs =>
    let ra := s.cfgN (O.migrateRank a)
    let rb := s.cfgN (O.migrateRank b)
    if ra < rb || (ra == rb && a.val < b.val) then a :: b :: bs else b :: s.rankInsert a bs

/-- The crest that R201 chooses for axis a: ACTIVE, able to take its loop rate, of the lowest load, lowest number
first. -/
def State.bestCrest (s : State) (a : AxisN) : Option CrestN :=
  let ok := allCrests.filter fun c =>
    s.crests[c].state == .active && s.crestLoad c + s.loopRate a ≤ 1200000
  ok.foldl (fun b c => match b with
    | none => some c
    | some d => if s.crestLoad c < s.crestLoad d then some c else b) none

/-- An axis fits no crest: reported once in its wait (R201). -/
def State.noCrest (s : State) (a : AxisN) : State :=
  if (s.axis a).field.noCrest then s else (s.modField a fun f => { f with noCrest := true }).event 0x440A a

/-- The queue is run (R201): the axes that fit no crest, those before them placed, are reported. AXIS_MIGRATED places the
others, one by one. DEDUCED, log entry 121. -/
def State.runQueue (s : State) : State :=
  (s.migration.foldl (fun (p : State × State) a => match p.2.bestCrest a with
    | some c => (p.1, p.2.modField a fun f => { f with crest := c, unplaced := false })
    | none => (p.1.noCrest a, p.2)) (s, s)).1

/-- The axes of crest c lose it: they wait for placement behind those already waiting; those with gates on are held by
the speed rule, to resume if they were RUNNING or STOPPING (R83, R200); those already held go on so, and those in HOLD_ASC or
FAULT after a reaction are held again, with CAUSE 2 (R201). -/
def State.orphanAxes (s : State) (c : CrestN) : State :=
  let mine := allAxes.filter (s.computes c)
  let order := mine.foldl (fun q a => s.rankInsert a q) []
  let s := { s with migration := s.migration ++ order }
  let s := s.each mine fun s a =>
    let x := s.axis a
    let st := x.field.state
    let s := s.modField a fun f => { f with unplaced := true, noCrest := false }
    if (st == .holdAsc || st == .fault) && !x.reaction.held && !x.field.catching.running then
      (s.modReact a fun r => { r with held := true, cause := .other, causes := [.crestFailed], follows := true }).followFlag a
    else
      let s := s.otherCause a (some .crestFailed) (st == .running || st == .stopping)
      if (s.axis a).reaction.held then s else s.modField a fun f => { f with catching := {} }
  s.runQueue

/-- Retire crest c (R33, R200): announced; its axes migrate. `drained` is a retirement by count, whose domain closes
under R41; otherwise the domain is lost at once, and with it a reinstatement under way. DEDUCED, log entry 20. -/
def State.retireCrest (s : State) (c : CrestN) (drained : Bool) : State :=
  if s.crests[c].state == .retired then
    if drained then s
    else (s.modCrest c fun x => { x with reinstating := false }).modDomain (Dom.crest c) fun d =>
      { d with state := .off, gate := .closed, reason := .retired, drain := [], restart := false }
  else
    let s := s.announce 0xC404 c
    let s := s.modCrest c fun x => { x with
      state := .retired, marginWarn := false, longest := 0, above := 0, atFloor := 0, reinstating := false }
    let s := s.modDomain (Dom.crest c) fun d =>
      if drained then { d with state := .stopping, gate := .draining, reason := .retired, restart := false }
      else { d with state := .off, gate := .closed, reason := .retired, drain := [], restart := false }
    s.orphanAxes c

/-- Count a crest fault of class 0 CHECK or 1 DEADLINE; the crest whose count reaches CREST_RETIRE_COUNT is retired
(R33, R86, R88). -/
def State.crestFault (s : State) (c : CrestN) (cls : Nat) : State :=
  if s.crests[c].state == .retired then s
  else
    let (fs, _, retire) := countFault s.crests[c].faults cls s.ref.time
      (s.cfgN O.crestRetireWindow) (s.cfgN O.crestRetireCount)
    let s := s.modCrest c fun x => { x with
      faults := fs
      checkLatch := x.checkLatch || cls == 0
      deadlineLatch := x.deadlineLatch || cls == 1 }
    if retire then s.retireCrest c true else s

/-- A token of a kind of Table 1.9 from a producer fails its check: counted, reported, and counted against the crest
for kinds 1 and 4 (R32, R33). The fallback is the consumer's. DEDUCED, log entry 138. -/
def State.checkFail (s : State) (kind producer : Nat) (crest : Option CrestN := none) : State :=
  let s := s.checkReport kind producer
  match crest with
  | some c => if kind == 1 || kind == 4 then s.crestFault c 0 else s
  | none => s

/-- Initialise axis a on crest c (R202): it starts from its configuration, with integrators zero and the observer restarted.
The run of missed deadlines goes on (R27). A slice on the crest is aborted (R456). DESIGN CHOICE, log entry 113. -/
def State.placeAxis (s : State) (a : AxisN) (c : CrestN) : State :=
  let s := { s with migration := s.migration.filter (· != a) }.callBlock (0x0100 + c.val)
  let s := s.modField a fun f => { f with
    crest := c, unplaced := false, noCrest := false, idRef := 0, iqRef := 0, psiR := 0, slipAngle := 0
    work := Vector.replicate 2 {}, obs := {}, turning := {}, innovRun := 0, innovGood := 0, obsLost := false
    obsHealthy := false, apart := 0, apartSince := none, angleSince := none, speedSince := none, blend := 0, overspeedRun := 0
    keWhole := false, catching := {}, commOffset := s.cfg (O.commOffset a)
    cycles := f.cycles.map fun (x : Cycle) => { x with committed := none, past := true }
    executed := f.cycle }
  let s := s.modSaddle a fun d => { d with limited := false, predicted := false, predictCount := 0, sumFails := 0 }
  let s := s.modLegs (s.legsOf a) fun _ L => { L with silent := false }
  s.modReact a fun r => { r with causes := r.causes.filter (· != .crestFailed) }

/-- Crest c is migrating its axes: one of them waits for placement and has not been found to fit no crest (Table 1.12,
R201). DEDUCED, log entries 20 and 121. -/
def State.migrating (s : State) (c : CrestN) : Bool :=
  s.crests[c].state == .retired && s.migration.any fun a => (s.axis a).field.crest == c && !(s.axis a).field.noCrest

/-- AXIS_MIGRATED (R201, R202): the queue reaches axis a. Axes before it that fit no crest report NO_CREST and wait;
while one before it still fits, that one is placed first. -/
def execAxisMigrated (a : AxisN) (s : State) : Outcome State Fault Refusal :=
  if !s.migration.contains a then .next s
  else
    let before := s.migration.takeWhile (· != a)
    if before.any fun b => (s.bestCrest b).isSome then .next s
    else
      let s := s.each before State.noCrest
      match s.bestCrest a with
      | some c => .next ((s.placeAxis a c).event 0x400B a)
      | none => .next (s.noCrest a)

/-- CREST_FAILURE (R200): no handshake for 100 µs, or a failed domain supply: retired at once. -/
def execCrestFailure (c : CrestN) (s : State) : Outcome State Fault Refusal := .next (s.retireCrest c false)

/-- The reinstatement of crest c is under way: its domain has started for it (R34). -/
def State.reinstating (s : State) (c : CrestN) : Bool :=
  let d := s.domains[Dom.crest c].state
  s.crests[c].reinstating && (d == .starting || d == .run)

/-- CREST_REINSTATE (R34): the crest's domain starts, and its test cycles run before it takes an axis. STATE reads RETIRED until
they end: a second write meanwhile is accepted, and the reinstatement goes on. DEDUCED, log entry 135. -/
def State.crestReinstate (s : State) (c : CrestN) : Acted :=
  if s.crests[c].state == .retired && !s.migrating c
      && allAxes.all (fun a => s.axisType a == 0 || s.homeCrest a != c || s.isDisabled a) then
    let under := s.reinstating c
    let s := s.modCrest c fun x => { x with faults := [], reinstating := true }
    (if under then s
     else s.modDomain (Dom.crest c) fun d => { d with state := .starting, gate := .closed, drain := [] }).done
  else s.lock

/-- CREST_REINSTATE: a write of CREST_REINSTATE. -/
def execCrestReinstate (src : Src) (c : CrestN) (v : Int) (s : State) : Outcome State Fault Refusal :=
  .next (s.writeRow src (O.crestReinstate c) v fun s => s.crestReinstate c)

/-! ### The time reference (R18 to R21, R30) -/

/-- REF_LOST (R20, R52): lock is lost, or the TCXO monitor trips; every running axis is taken to its safe state, and no axis
restarts without a new start command: a flying start that had no gate on ends too. -/
def execRefLost (tcxo : Bool) (s : State) : Outcome State Fault Refusal :=
  let s := { s with ref := { s.ref with
    locked := false, lossLatch := true, tcxoFault := s.ref.tcxoFault || tcxo } }
  let s := s.event 0xC205 noInstance
  .next (s.each allAxes fun s a =>
    let s := (s.otherCause a (some .refLost)).modReact a fun r => { r with resumePending := false }
    if (s.axis a).reaction.held then s else s.modField a fun f => { f with catching := {} })

/-- REF_LOCK_REGAINED (R513): LOCKED is set again, so the loss counts as gone. -/
def execRefLockRegained (s : State) : Outcome State Fault Refusal :=
  let s := { s with ref := { s.ref with locked := true, tcxoFault := false } }
  .next (s.each allAxes fun s a => s.modReact a fun r => { r with causes := r.causes.filter (· != .refLost) })

/-- Ticks in which the TCXO may be steered by 0.001 ppm: 0.1 ppm in a second (R21). -/
def slewTicks : Nat := 4000000

/-- The TCXO offset as it stands now: moved towards the aim by at most 0.1 ppm per second of the time gone by (R21). -/
def State.steerNow (s : State) : State :=
  let r := s.ref
  let n := (r.time - r.steerAt) / slewTicks
  let steer := max (r.steer - n) (min (r.steer + n) r.aim)
  { s with ref := { r with steer, steerAt := if steer == r.aim then r.time else r.steerAt + n * slewTicks } }

/-- IEEE 1588 time is lost: the last steered frequency stays, HOLDOVER; 0x8106 only where it had been available (R332).
DESIGN CHOICE, log entry 74. -/
def State.ptpLoss (s : State) : State :=
  let had := s.ref.ptpAvailable
  let s := s.steerNow
  let s := { s with ref := { s.ref with
    ptpAvailable := false, disciplined := false, closeSince := none, aim := s.ref.steer, slewLimited := false
    ptpWait := none, delaySeq := none, pathDelay := 0 } }
  if had then s.event 0x8106 noInstance else s

/-- ECC_CORRECTED (R30): a single-bit DRAM error is corrected, counted and reported. -/
def execEccCorrected (s : State) : Outcome State Fault Refusal :=
  .next ({ s with ref := { s.ref with eccCount := s.ref.eccCount + 1 } }.event 0xC007 noInstance)

/-! ### The crest supply (R24 to R26) -/

/-- MARGIN_NOW in whole percent for a longest execution of w ns (R24). -/
def marginOf (w : Nat) : Int := max (-100) (min 100 ((100 * (1050 - (w : Int))).fdiv 1050))

/-- MARGIN_WINDOW_END (R24 to R26): the regulator acts on MARGIN_NOW of the window. A window without an execution has w = 0;
a supply above a newly lowered limit is lowered before the warning is judged; 0xC102 is reported when MARGIN_WARN is newly
set. DESIGN CHOICE, log entry 122. -/
def execMarginWindowEnd (c : CrestN) (s : State) : Outcome State Fault Refusal :=
  if s.crests[c].state != .active || !s.runs (Dom.crest c) then .next s
  else
    let x := s.crests[c]
    let m := marginOf x.longest
    let floor := s.cfg (O.marginFloor c)
    let limit := s.cfg (O.vcrestLimit c)
    let vc := min (s.cfg (O.vcrestNow c)) limit
    let above := if floor + 15 < m then min (x.above + 1) 100 else 0
    let atFloor := if floor ≤ m then min (x.atFloor + 1) 10 else 0
    let low : Bool := m < floor && vc == limit
    let vc' := if m < floor && vc < limit then min (vc + 10) limit
               else if above == 100 then max (vc - 10) 800 else vc
    let s := (s.setObj (O.marginNow c) m).setObj (O.vcrestNow c) vc'
    let s := s.modCrest c fun x => { x with
      longest := 0, above, atFloor
      marginWarn := low || (x.marginWarn && atFloor < 10) }
    .next (if low && !x.marginWarn then s.event 0xC102 c else s)

end Sys2Proof.Machine
end

