-- ==== Sys2Proof/Machine/Plan.lean ====
section
/-! DEFINITION. The planner of a profile generator: the jerk of the next segment in the fastest plan under the limits, with
the distances and times that the plan foresees (R233 to R236, R242, R244 to R250). Positions, velocities, accelerations and
jerks are in the generator's units, 2^−96 counts and reference ticks; a distance is counted along a heading.
DEDUCED, log entry 11. -/

namespace Sys2Proof.Machine

/-- One count in the units of the generator's registers, 2^−96 counts. -/
def unit96 : Int := 2 ^ 96
/-- Reference ticks of a segment (R233). -/
def segTicks : Int := 20000

/-- Velocity and acceleration along a heading. -/
structure Motion where
  v : Int
  a : Int
  deriving DecidableEq, Repr

/-- The motion along a heading of sign σ, and back. -/
def Motion.along (m : Motion) (σ : Int) : Motion := ⟨σ * m.v, σ * m.a⟩
/-- The distance that n ticks of R229 travel with a jerk. -/
def Motion.travel (m : Motion) (n j : Int) : Int :=
  n * m.v + n * (n - 1) / 2 * m.a + n * (n - 1) * (n - 2) / 6 * j
/-- The motion after n ticks of R229 with a jerk. -/
def Motion.after (m : Motion) (n j : Int) : Motion := ⟨m.v + n * m.a + n * (n - 1) / 2 * j, m.a + n * j⟩
/-- The square root of a number, rounded down. -/
def isqrt (n : Int) : Int := Nat.sqrt n.toNat

/-! ### Distances and times of a motion in phases of constant jerk -/

/-- A phase: its jerk and its ticks. -/
abbrev Phase := Rat × Rat
/-- Distance, velocity, acceleration and ticks after phases of constant jerk from a velocity and an acceleration, by the sums of
R229. -/
def runPhases (v a : Rat) (ps : List Phase) : Rat × Rat × Rat × Rat :=
  ps.foldl (fun (x, v, a, t) (j, d) =>
    (x + v * d + a * d * (d - 1) / 2 + j * d * (d - 1) * (d - 2) / 6, v + a * d + j * d * (d - 1) / 2, a + j * d, t + d))
    (0, v, a, 0)

/-- 2·J times the velocity that is left when the acceleration is removed at the full jerk. -/
def Bounds.settled (b : Bounds) (m : Motion) : Int := b.jerk * (2 * m.v + m.a) + m.a * m.a.natAbs
/-- The deceleration that a stop of a forward motion comes to at the full jerk. -/
def Bounds.peak (b : Bounds) (m : Motion) : Int := isqrt ((b.jerk * (2 * m.v + m.a) + m.a * m.a) / 2)

/-- Braking beyond PROFILE_DECEL is first brought down to it at PROFILE_JERK (R242, R247). -/
def Bounds.ease (b : Bounds) (m : Motion) : List Phase :=
  if m.a < -b.dec then [((b.jerk : Rat), ((-b.dec - m.a : Int) : Rat) / b.jerk)] else []
/-- The phases that bring a forward motion to rest. -/
def Bounds.restPhases (b : Bounds) (m : Motion) : List Phase :=
  let pre := b.ease m
  let (_, v, a, _) := runPhases m.v m.a pre
  let J : Rat := b.jerk
  let peak := b.peak m
  if pre.isEmpty && peak ≤ b.dec then [(-J, (a + peak) / J), (J, peak / J)]
  else
    let d : Rat := b.dec
    pre ++ [(-J, (a + d) / J), (0, (v + a / 2 + (a * a - 2 * d * d) / (2 * J)) / d), (J, d / J)]
/-- Where a motion comes to rest that brakes at once under the limits, and the ticks it takes; the distance is along the
heading and may be negative. -/
def Bounds.rest (b : Bounds) (m : Motion) : Rat × Rat :=
  let σ : Int := if 0 ≤ b.settled m then 1 else -1
  let m := m.along σ
  let (x, _, _, t) := runPhases m.v m.a (b.restPhases m)
  (σ * x, t)

/-- The phase in which the braking of a forward motion is removed at the full jerk, where V reaches zero before A does. -/
def Bounds.swing (b : Bounds) (m : Motion) : Phase :=
  (b.jerk, ((-m.a - isqrt (m.a * m.a - 2 * b.jerk * m.v) : Int) : Rat) / b.jerk)
/-- The phases of a forward motion up to zero velocity in a switchback: braking under PROFILE_DECEL, with |A| at most
PROFILE_ACCEL at the crossing (R245). -/
def Bounds.turnPhases (b : Bounds) (m : Motion) : List Phase :=
  let pre := b.ease m
  let (_, v, a, _) := runPhases m.v m.a pre
  let J : Rat := b.jerk
  let d : Rat := b.dec
  let c : Rat := b.acc
  let once := isqrt (2 * b.jerk * m.v + m.a * m.a)
  let peak := isqrt ((2 * b.jerk * m.v + m.a * m.a + b.acc * b.acc) / 2)
  if v < 0 then [b.swing m]
  else if pre.isEmpty && once ≤ min b.dec b.acc then [(-J, (a + once) / J)]
  else if b.dec ≤ b.acc then pre ++ [(-J, (a + d) / J), (0, (v + (a * a - d * d) / (2 * J)) / d)]
  else if pre.isEmpty && peak ≤ b.dec then [(-J, (a + peak) / J), (J, (peak - c) / J)]
  else pre ++ [(-J, (a + d) / J), (0, (v + (a * a - 2 * d * d + c * c) / (2 * J)) / d), (J, (d - c) / J)]
/-- A forward motion at the turning point of a switchback: its distance, |A| there, the ticks to it. -/
def Bounds.turn (b : Bounds) (m : Motion) : Rat × Int × Rat :=
  let (x, _, a, t) := runPhases m.v m.a (b.turnPhases m)
  (x, (-a).floor, t)

/-- The phases that bring a forward motion to a steady velocity w. -/
def Bounds.reachPhases (b : Bounds) (m : Motion) (w : Int) : List Phase :=
  let J : Rat := b.jerk
  let a : Rat := m.a
  if b.settled m ≤ 2 * b.jerk * w then
    let peak := isqrt ((2 * b.jerk * (w - m.v) + m.a * m.a) / 2)
    let c : Rat := max b.acc m.a
    if peak ≤ b.acc || peak ≤ m.a then [(J, (peak - a) / J), (-J, peak / J)]
    else [(J, (c - a) / J), (0, ((w - m.v : Int) - (2 * c * c - a * a) / (2 * J)) / c), (-J, c / J)]
  else
    let peak := isqrt ((2 * b.jerk * (m.v - w) + m.a * m.a) / 2)
    let d : Rat := b.dec
    if peak ≤ b.dec then [(-J, (a + peak) / J), (J, peak / J)]
    else [(-J, (a + d) / J), (0, ((m.v - w : Int) - (2 * d * d - a * a) / (2 * J)) / d), (J, d / J)]
/-- Distance and ticks to rest by way of a steady velocity w. -/
def Bounds.byWay (b : Bounds) (m : Motion) (w : Int) : Rat × Rat :=
  let (x, _, _, t) := runPhases m.v m.a (b.reachPhases m w)
  let (y, u) := b.rest ⟨w, 0⟩
  (x + y, t + u)

/-- The largest whole number of a range that passes a test, where lo passes it and hi does not. -/
def bisect (ok : Int → Bool) : Nat → Int → Int → Int
  | 0, lo, _ => lo
  | n + 1, lo, hi =>
    let m := (lo + hi) / 2
    if hi - lo ≤ 1 then lo else if ok m then bisect ok n m hi else bisect ok n lo m
/-- The largest number from lo to hi that passes a test which small numbers pass; lo where none does. -/
def largest (ok : Int → Bool) (lo hi : Int) : Int :=
  if ok hi then hi else bisect ok 256 lo hi

/-- Ticks that a forward motion takes to rest at a distance. -/
def Bounds.forwardTicks (b : Bounds) (m : Motion) (dist : Int) : Rat :=
  let (x, t) := b.rest m
  if dist ≤ x then t
  else
    let w := largest (fun w => decide ((b.byWay m w).1 ≤ dist)) 0 b.speed
    let (x, t) := b.byWay m w
    if w = b.speed && 0 < w then t + (dist - x) / w else t
/-- Ticks to rest at a distance along the heading, the turning point of a switchback on the way where the motion is opposite
(R245). -/
def Bounds.arrivalTicks (b : Bounds) (m : Motion) (dist : Int) : Rat :=
  if m.v < 0 then
    let (x, a, t) := b.turn (m.along (-1))
    t + b.forwardTicks ⟨0, a⟩ (dist + x.floor)
  else b.forwardTicks m dist

/-! ### The jerk of a segment -/

/-- The largest velocity within a segment that ends with less acceleration than none, times twice the jerk that removes it. -/
def Motion.peakIn (m : Motion) (j g : Int) : Bool :=
  !(decide (0 < m.a) && decide (j < 0)) || decide (m.a * (m.a - j) ≤ 2 * -j * (g - m.v)) || decide (0 ≤ m.a + segTicks * j)

/-- A segment with jerk j keeps the velocity open (R235, R245): without its acceleration, removed in whole segments, V stays within the
goal; at zero velocity |A| is at most PROFILE_ACCEL. -/
def Bounds.speedOpen (b : Bounds) (m : Motion) (goal j : Int) : Bool :=
  let n := m.after segTicks j
  let slope : Int := ((n.a : Rat) / (segTicks * b.jerk)).ceil * segTicks
  m.peakIn j goal
    && (if 0 < n.a then decide (2 * n.v + n.a * (slope + 1) ≤ 2 * goal) else decide (b.settled n ≤ 2 * b.jerk * goal))
    && (decide (n.a ≤ b.acc) || (decide (n.v < 0) && decide (n.a * n.a - b.acc * b.acc ≤ 2 * b.jerk * -n.v)))

/-- The distance within which a motion can come to rest by jerk changes on planner ticks (R235): that of a stop at once, with what a
segment that is not filled leaves of a ramp. DEDUCED, log entry 11. -/
def Bounds.reach (b : Bounds) (m : Motion) : Rat :=
  let (x, t) := b.rest m
  if x ≤ 0 then x
  else
    let step : Int := segTicks * b.jerk
    let ramp : Int := if b.settled m < 0 then 0 else max 0 (m.a + min b.dec (b.peak m))
    let part : Rat := (ramp : Rat) / step
    let lost : Rat := (ramp : Rat) / 2 * (part.ceil - part) * segTicks
    x + t * (lost + (min step b.dec * segTicks : Int) / 4) + lost * lost / (2 * b.dec)

/-- A segment with jerk j leaves a stop within a distance open (R235, R249). -/
def Bounds.stopOpen (b : Bounds) (m : Motion) (dist j : Int) : Bool :=
  decide (b.reach (m.after segTicks j) ≤ (dist - m.travel segTicks j : Int))

/-- The range of jerks that keep |A| at or below PROFILE_ACCEL while |V| grows and PROFILE_DECEL while it falls, or bring it
there at PROFILE_JERK (R235, R242). -/
def Bounds.jerkRange (b : Bounds) (m : Motion) : Int × Int :=
  let hi := if m.v < 0 then b.dec else b.acc
  let lo := if 0 < m.v then b.dec else b.acc
  (min b.jerk (max (-b.jerk) (-((m.a + lo).fdiv segTicks))), max (-b.jerk) (min b.jerk ((hi - m.a).fdiv segTicks)))
/-- |A| lies above its limit (R242). -/
def Bounds.above (b : Bounds) (m : Motion) : Bool :=
  decide ((if 0 < m.v * m.a then b.acc else b.dec) < m.a.natAbs) && decide (m.v ≠ 0)

/-- The smallest jerk of a range that does not carry a forward motion below a velocity; the largest where none does. -/
def Bounds.hardest (b : Bounds) (m : Motion) (v lo hi : Int) : Int :=
  let below := fun j => decide (b.settled (m.after segTicks j) < 2 * b.jerk * v)
  if below lo then min hi (largest below lo hi + 1) else lo

/-- The jerk of the next segment toward a goal velocity along the heading, and to rest within a distance: the largest of the
range that leaves a plan open; where none does, the hardest braking, of a forward motion without passing the goal or turning back. -/
def Bounds.toward (b : Bounds) (m : Motion) (goal : Int) (dist : Option Int) : Int :=
  let (lo, hi) := b.jerkRange m
  let ok := b.speedOpen m goal
  let jv := if !ok lo && decide (goal < m.v) then b.hardest m goal lo hi else largest ok lo hi
  match dist with
  | none => jv
  | some d =>
    let jd := largest (b.stopOpen m d) lo hi
    min jv (if 0 < m.v then max jd (b.hardest m 0 lo hi) else jd)

/-- What a plan keeps from a soft limit for the grid of the planner ticks; the arrival takes it back (R234). -/
def Bounds.spare (b : Bounds) : Int := min (unit96 / 2) (4 * segTicks * segTicks * segTicks * b.jerk)

/-- A stop at a soft limit at a distance (R249): the smallest deceleration that holds it, up to STOP_DECEL. The jerk is free. -/
def Bounds.limitJerk (b : Bounds) (m : Motion) (dist : Int) : Int :=
  let ok := fun j =>
    let n := m.after segTicks j
    decide (n.v ≤ 0) || (decide (n.a < 0) && decide (n.v * n.v ≤ 2 * -n.a * (dist - m.travel segTicks j)))
  largest ok (-((m.a + b.stop).fdiv segTicks)) (max 0 ((-m.a).fdiv segTicks))
/-- The distance of a stop ramp at STOP_DECEL from a speed (R240): the ticks before V would change sign. -/
def Bounds.stopTravel (b : Bounds) (v : Nat) : Int :=
  let k : Int := (v : Int) / b.stop
  k * v - k * (k - 1) / 2 * b.stop
/-- A stop at STOP_DECEL cannot end within a distance (R250). -/
def Bounds.overruns (b : Bounds) (v dist : Int) : Bool := decide (dist < b.stopTravel v.natAbs)

/-- V and A are within one segment's residue of a velocity and of zero (R234): what a segment of the full jerk leaves of A, and
with such an A of V; at a soft limit what one of STOP_DECEL leaves (R249). -/
def Bounds.residue (b : Bounds) (m : Motion) (v : Int) (hard : Bool) : Bool :=
  if hard then (m.v - v).natAbs ≤ segTicks * b.stop
  else (m.a.natAbs ≤ segTicks * b.jerk) && 2 * (m.v - v).natAbs ≤ 3 * segTicks * segTicks * b.jerk

/-- The heading toward a target at a signed distance: where the motion would stop short of it, forward; where it would come to rest
within a count of it, the way it goes; else back (R244). The motion and the distance are signed. -/
def Bounds.heading (b : Bounds) (m : Motion) (dist : Int) : Int :=
  let e := dist - (b.rest m).1
  let step := segTicks * b.jerk
  if qless e then
    if m.v ≠ 0 && (b.settled m).natAbs ≤ 3 * step * step then (if 0 < m.v then 1 else -1)
    else if 0 ≤ b.settled m then 1 else -1
  else if 0 < e then 1 else -1
where
  /-- less than a count -/
  qless (e : Rat) : Bool := decide (-(unit96 : Rat) < e) && decide (e < unit96)

end Sys2Proof.Machine
end

