-- ==== Sys2Proof/Machine/Motion.lean ====
section
/-! DEFINITION. The profile generators, their planner ticks, homing and the compare units (07). -/

namespace Sys2Proof.Machine

open Host

/-! ### The generator (R229, R230) -/

/-- P with its integer part wrapped to 32 signed bits (R230). -/
def wrapP (p : Int) : Int := (p + 2 ^ 127).fmod (2 ^ 128) - 2 ^ 127
/-- The integer position of the generator, in counts. -/
def Profile.pos (p : Profile) : Int := p.p.fdiv unit96
/-- A velocity of v counts/s in 2^−96 counts per tick (R230). -/
def velUnits (v : Rat) : Int := (v * (unit96 : Rat) / ticksPerS).floor
/-- The same below one count per tick, whatever is measured (R230). -/
def heldVel (v : Rat) : Int := max (-(unit96 - 1)) (min (unit96 - 1) (velUnits v))
/-- An acceleration of a counts/s² in 2^−96 counts per tick². -/
def accUnits (a : Rat) : Int := (a * (unit96 : Rat) / ((ticksPerS * ticksPerS : Nat) : Rat)).floor
/-- A jerk of PROFILE_JERK units, 1,000 counts/s³, in 2^−96 counts per tick³. -/
def jerkUnits (j : Nat) : Int := ((j * 1000 : Nat) : Int) * unit96 / ((ticksPerS * ticksPerS * ticksPerS : Nat) : Int)
/-- DIR follows the sign of V; zero keeps it. -/
def Profile.withDir (p : Profile) : Profile :=
  { p with reverse := if p.v = 0 then p.reverse else decide (p.v < 0) }

/-- One reference tick of a generator (R229, R240): P ← P + V, V ← V + A, A ← A + J, each with the value the next
register held before; in TRACKING A and J are 0; a stop ramp ends when V would change sign. -/
def Profile.tick (p : Profile) : Profile :=
  match p.move with
  | .tracking => { p with p := wrapP (p.p + p.v) }
  | .stopRamp =>
    let v := p.v + p.a
    if p.v = 0 || (0 < p.v && v < 0) || (p.v < 0 && 0 < v) then { p with v := 0, a := 0 }
    else { p with p := wrapP (p.p + p.v), v }
  | .idle | .moving => { p with p := wrapP (p.p + p.v), v := p.v + p.a, a := p.a + p.j }.withDir

/-- A signed 32-bit difference. -/
def diff32 (a b : Int) : Int := (a - b + 0x80000000).fmod 0x100000000 - 0x80000000

/-- A difference of positions with their fractions, wrapped likewise. -/
def wrapQ (d : Rat) : Rat := d - 4294967296 * ((d + 2147483648) / 4294967296).floor

/-- The axis position (R237): the counter of the channel plus HOME_OFFSET_NOW; without a channel, the generator's. -/
def State.axisPos (s : State) (a : AxisN) : Int :=
  match s.channelOf a with
  | some f => diff32 (s.channels[f].position + (s.axis a).prof.homeOffset) 0
  | none => (s.axis a).prof.pos

/-- The axis follows the profile position (R251, R261). -/
def State.follows (s : State) (a : AxisN) : Bool :=
  let m := s.cfgN (O.controlMode a)
  if s.isStepper a then m == 1 || m == 2 else m == 2

/-- A count of a number: itself where it is whole, else as the module rounds it. -/
def wholeOf (q : Rat) : Int := if q.den = 1 then q.num else Config.roundInt q
/-- The group slot of axis a; none outside a group. -/
def State.slotOf (s : State) (a : AxisN) : Option SlotN :=
  let g := s.cfgN (O.groupSlot a)
  if h : g < 16 then (if s.cfgN (O.groupNumber g) == 0 then none else some ⟨g, h⟩) else none
/-- Group counts per own count of axis a (R271). -/
def State.groupScale (s : State) (a : AxisN) (g : SlotN) : Rat :=
  (s.cfgN (O.groupCountsPerRev g) : Rat) / (s.countsRev a * s.cfgF (O.memberRatio a))
/-- The inherited set-point of a leader, in its own counts, with its mode: true = velocity (R274). -/
def State.inherited (s : State) (a : AxisN) : Option (Bool × Int) :=
  if !(s.axis a).member.inherited then none
  else match s.slotOf a with
    | some g => some (s.slots[g].velocityMode, wholeOf ((s.slots[g].setPoint : Rat) / s.groupScale a g))
    | none => none
/-- The axis heads for a velocity (MOVE_MODE 1, or an inherited velocity). -/
def State.velocityMode (s : State) (a : AxisN) : Bool :=
  match s.inherited a with
  | some (v, _) => v
  | none => s.cfgN (O.moveMode a) == 1
/-- The target position planned for: TARGET_POS, or an inherited one. -/
def State.targetOf (s : State) (a : AxisN) : Int :=
  match s.inherited a with
  | some (false, p) => p
  | _ => s.cfg (O.targetPos a)
/-- The velocity planned for: VELOCITY_SET, or an inherited one. -/
def State.velocityOf (s : State) (a : AxisN) : Int :=
  match s.inherited a with
  | some (true, v) => v
  | _ => s.cfg (O.velocitySet a)

/-- The requester of axis a. -/
def State.requester (s : State) (a : AxisN) : Requester := s.arbiter.reqs[reqOf a]
/-- The grant's scale factor s: GRANT_POWER / demand. -/
def Requester.scale (r : Requester) : Rat := if r.demand = 0 then 1 else r.power / r.demand

/-! ### Compare units (R253 to R260) -/

/-- The axis or channel of a compare unit's source (R253). -/
def State.cmpAxis (s : State) (u : UnitN) : Option AxisN := axisNum (s.cfgN (O.cmpSource u))
/-- The channel of a compare unit's source. -/
def State.cmpChan (s : State) (u : UnitN) : Option ChanN :=
  let n := s.cfgN (O.cmpSource u)
  if h : 16 ≤ n ∧ n < 64 then some ⟨n - 16, by omega⟩ else none

/-- The unit's source is one that is not valid (R259), or a confirmed failure of the unit stands (Table 14.2). Without a source nothing
is set. -/
def State.cmpBad (s : State) (u : UnitN) : Bool :=
  match s.cmpAxis u, s.cmpChan u with
  | some a, _ => s.axisType a == 0 || (s.block (0x0B00 + u.val)).confirmed
  | none, some f => s.cfgN (O.fbType f) == 0 || s.channels[f].state == .retired || (s.block (0x0B00 + u.val)).confirmed
  | none, none => false
/-- The unit has a source that it evaluates (R253, R259). -/
def State.cmpValid (s : State) (u : UnitN) : Bool :=
  s.runs Dom.feed && !s.cmpBad u && ((s.cmpAxis u).isSome || (s.cmpChan u).isSome)

/-- The position of the unit's source. -/
def State.cmpPos (s : State) (u : UnitN) : Int :=
  match s.cmpAxis u, s.cmpChan u with
  | some a, _ => (s.axis a).prof.pos
  | none, some f => s.channels[f].position
  | none, none => 0

/-- The source's direction of motion: true = reverse (R255). -/
def State.cmpReverse (s : State) (u : UnitN) : Bool :=
  match s.cmpAxis u, s.cmpChan u with
  | some a, _ =>
    let p := (s.axis a).prof
    if p.v ≠ 0 then decide (p.v < 0) else if p.a ≠ 0 then decide (p.a < 0) else p.reverse
  | none, some f => s.channels[f].reverse
  | none, none => false

/-- CMP_ACTION of unit u on an output's level and running pulse (R258). -/
def State.cmpActOn (s : State) (u : UnitN) (x : Bool × Option UnitN) : Bool × Option UnitN :=
  match s.cfgN (O.cmpAction u) with
  | 1 => (true, some u)
  | 2 => (true, none)
  | 3 => (false, none)
  | 4 => (!x.1, none)
  | _ => x
/-- Perform CMP_ACTION of unit u on its output (R258): the units that act on it on one tick act in ascending number. -/
def State.cmpAction (s : State) (u : UnitN) : State :=
  let o := s.cfgN (O.cmpOutput u)
  if h : o < 8 then
    let x := s.compareOuts[o]
    let first : Bool := x.acted.isEmpty || x.actedAt != s.ref.time
    let base := if first then (x.level, x.pulse) else x.base
    let acted := allUnits.filter fun v => v == u || (!first && x.acted.contains v)
    let (level, pulse) := acted.foldl (fun y v => s.cmpActOn v y) base
    { s with compareOuts := s.compareOuts.set o { x with level, pulse, acted, actedAt := s.ref.time, base } }
  else s

/-- At most one log entry a second: the last was made at `last`. -/
def State.logDue (s : State) (last : Option Nat) : Bool := last.all fun t => ticksPerS ≤ s.ref.time - t

/-- Skip the positions of the series that the present position has passed already (R257). -/
def State.cmpSkip (s : State) (u : UnitN) (forward : Bool) : State :=
  let step := s.cfg (O.cmpInterval u)
  let sg : Int := if forward then 1 else -1
  let pos := diff32 (s.cfg (O.cmpPosition u) + sg * step) 0
  let ahead := sg * diff32 (s.cmpPos u) pos
  let k : Nat := if 0 ≤ ahead && 0 < step then (ahead / step + 1).toNat else 0
  let s := s.setObj (O.cmpPosition u) (diff32 (pos + sg * step * k) 0)
  if k = 0 then s
  else
    let log := s.logDue s.units[u].missedLogged
    let s := s.count (O.cmpMissedCount u) k
    let s := s.modUnit u fun x => { x with
      missed := true, missedLogged := if log then some s.ref.time else x.missedLogged }
    if log then s.event 0x5107 u else s

/-- A firing of unit u (R257, R260), unless it has fired on this tick already (R254). -/
def State.cmpFire (s : State) (u : UnitN) (forward : Bool) (stamp : Nat) (jump : Bool) : State :=
  if s.units[u].firedAt == some s.ref.time then s
  else
  let s := s.count (O.cmpFireCount u)
  let s := s.modUnit u fun x => { x with
    fired := true, fireTime := stamp, firedAt := some s.ref.time, jumpFire := jump }
  let s := (s.cmpAction u).emit (.fabric .cmp u)
  let s := s.each allAxes fun s a =>
    if s.cfgN (O.triggerUnit a) == u.val then s.modProf a fun p => { p with triggered := some (p.triggered.getD s.ref.time) } else s
  if s.cfg (O.cmpInterval u) = 0 then s.modUnit u fun x => { x with armed := false }
  else s.cmpSkip u forward

/-- Re-arm unit u (R255): judge whether CMP_POSITION is behind. At a homing shift no unit fires: PAST_FIRES judges as CMP_MODE 0 does
(R257, R265). DESIGN CHOICE, log entries 36 and 154. -/
def State.cmpRearm (s : State) (u : UnitN) (shift : Bool := false) : State :=
  let s := (s.callBlock (0x0B00 + u.val)).modUnit u fun x =>
    { x with seen := s.cmpPos u, crossed := none, sourceInvalid := s.cmpBad u }
  let s := match s.cmpAxis u with
    | some a => if s.cfgN (O.cmpEnable u) == 1 then s.callBlock (0x0A00 + a.val) else s
    | none => s
  if s.cfgN (O.cmpEnable u) == 0 then s.modUnit u fun x => { x with armed := false }
  else if !s.cmpValid u then s.modUnit u fun x => { x with armed := true }
  else
    let d := diff32 (s.cmpPos u) (s.cfg (O.cmpPosition u))
    let rev := match s.cfgN (O.cmpDirection u) with
      | 1 => false
      | 2 => true
      | _ => s.cmpReverse u
    let behind : Bool := if rev then d ≤ 0 else 0 ≤ d
    let past : Bool := s.cfgN (O.cmpMode u) == 1 && !shift
    let s := s.modUnit u fun x => { x with armed := true, behind := behind && !past, firedAtWrite := behind && past }
    if !behind then s
    else if past then s.cmpFire u (!rev) s.ref.time false
    else s.event 0x5006 u

/-- Units whose source is not valid any more set SOURCE_INVALID (R259). -/
def State.cmpInvalidate (s : State) : State :=
  s.each allUnits fun s u => if s.cmpBad u then s.modUnit u fun x => { x with sourceInvalid := true } else s

/-- Unit u acts on crossings in a direction: armed, enabled, its source valid (R254, R259), not fired on this tick yet. -/
def State.cmpActs (s : State) (u : UnitN) (forward : Bool) : Bool :=
  let dir := s.cfgN (O.cmpDirection u)
  s.units[u].armed && s.cfgN (O.cmpEnable u) == 1 && s.cmpValid u && !s.units[u].sourceInvalid
    && (dir == 0 || (dir == 1) == forward) && s.units[u].firedAt != some s.ref.time

/-- Unit u evaluates its source (R254): a crossing since its last evaluation waits for its firing on this tick, with the REF_TIME
`stamp`; the first of a tick stands. DESIGN CHOICE, log entry 36. -/
def State.cmpEvaluate (s : State) (stamp : Nat) (jump : Bool) (u : UnitN) : State :=
  let pos := s.cfg (O.cmpPosition u)
  let now := s.cmpPos u
  let d0 := diff32 s.units[u].seen pos
  let d := diff32 now pos
  let new : Option (Bool × Nat × Bool) :=
    if d0 < 0 && 0 ≤ d && s.cmpActs u true then some (true, stamp, jump)
    else if 0 < d0 && d ≤ 0 && s.cmpActs u false then some (false, stamp, jump)
    else none
  s.modUnit u fun x => { x with seen := now, crossed := x.crossed.or new }

/-- The armed units on profiles evaluate them (R254). DESIGN CHOICE, log entry 2. -/
def State.cmpProfiles (s : State) : State :=
  s.each allUnits fun s u =>
    if s.units[u].armed && (s.cmpAxis u).isSome then s.cmpEvaluate s.ref.time false u else s
/-- The armed units on channel f evaluate its counter at a transition or an index correction (R254). -/
def State.cmpChannel (s : State) (f : ChanN) (stamp : Nat) (jump : Bool) : State :=
  s.each allUnits fun s u =>
    if s.units[u].armed && s.cmpChan u == some f then s.cmpEvaluate stamp jump u else s
/-- The counter of channel f takes a new value that is no motion (R118, R136). DESIGN CHOICE, log entry 36. -/
def State.cmpResync (s : State) (f : ChanN) : State :=
  s.each allUnits fun s u =>
    if s.cmpChan u == some f then s.modUnit u fun x => { x with seen := s.cmpPos u, crossed := none } else s

/-- The crossing of unit u that waits fires it (R257). DESIGN CHOICE, log entry 36. -/
def State.cmpTake (s : State) (u : UnitN) : State :=
  match s.units[u].crossed with
  | some (forward, stamp, jump) => (s.modUnit u fun x => { x with crossed := none }).cmpFire u forward stamp jump
  | none => s
/-- The crossings of a tick have fired when it ends, in ascending unit number (R254, R258).
DESIGN CHOICE, log entries 2 and 36. -/
def State.cmpSettle (s : State) : State := s.each allUnits State.cmpTake

/-- COMPARE_CROSSING (R254, R257): the crossing that unit u has found on this tick fires it; one whose token fails its check is
discarded and makes no output (R28, R32). DESIGN CHOICE, log entry 147. -/
def execCompareCrossing (u : UnitN) (forward : Bool) (stamp : Nat) (x : Crossing) (s : State) :
    Outcome State Fault Refusal :=
  if s.units[u].crossed != some (forward, stamp, x.byCorrection) then .next s
  else if x.flip != 0 then .next (s.modUnit u fun y => { y with crossed := none })
  else .next (s.cmpTake u)

/-- COMPARE_PULSE_END (R258): CMP_PULSE of the pulse that unit u started elapses. -/
def execComparePulseEnd (u : UnitN) (s : State) : Outcome State Fault Refusal :=
  .next (if s.units[u].firedAt.all fun t => t + s.cfgN (O.cmpPulse u) ≤ s.ref.time then
    { s with compareOuts := s.compareOuts.map fun (o : CompareOut) =>
      if o.pulse == some u then { o with level := false, pulse := none, acted := [] } else o }
    else s)

/-- A crossing on this tick first (R256); then the value of a re-arming object is in force, and the unit is re-armed (R255).
DESIGN CHOICE, log entry 36. -/
def State.cmpWrite (s : State) (u : UnitN) (a : Nat) (v : Int) : Acted :=
  (((s.cmpTake u).setObj a v).cmpRearm u).done

/-- CMP_POSITION_WRITE (R255). -/
def execCmpPositionWrite (src : Src) (u : UnitN) (v : Int) (s : State) : Outcome State Fault Refusal :=
  .next (s.writeRow src (O.cmpPosition u) v fun s => s.cmpWrite u (O.cmpPosition u) v)
/-- CMP_DIRECTION_WRITE (R255). -/
def execCmpDirectionWrite (src : Src) (u : UnitN) (v : Int) (s : State) : Outcome State Fault Refusal :=
  .next (s.writeRow src (O.cmpDirection u) v fun s => s.cmpWrite u (O.cmpDirection u) v)
/-- CMP_SOURCE_WRITE (R255). -/
def execCmpSourceWrite (src : Src) (u : UnitN) (v : Int) (s : State) : Outcome State Fault Refusal :=
  .next (s.writeRow src (O.cmpSource u) v fun s => s.cmpWrite u (O.cmpSource u) v)
/-- CMP_ENABLE_WRITE (R255): 1 re-arms, 0 disarms. -/
def execCmpEnableWrite (src : Src) (u : UnitN) (v : Int) (s : State) : Outcome State Fault Refusal :=
  .next (s.writeRow src (O.cmpEnable u) v fun s => s.cmpWrite u (O.cmpEnable u) v)

/-- COMPARE_SOURCE_VALID (R259): the source is valid again: re-armed as at a write. -/
def execCompareSourceValid (u : UnitN) (s : State) : Outcome State Fault Refusal :=
  if s.units[u].sourceInvalid && s.cmpValid u then .next (s.cmpRearm u) else .next s

/-! ### Homing (R261 to R267) -/

/-- The line of HOME_SWITCH now stands at the level that follows the edge (R264). -/
def State.homeSwitchLevel (s : State) (a : AxisN) : Bool :=
  let w := s.cfgN (O.homeSwitch a)
  let after : Bool := s.cfgN (O.homeEdge a) == 0
  if h : w / 4 < 48 then
    let c := s.channels[w / 4]
    let lvl := match w % 4 with
      | 0 => c.a
      | 1 => c.b
      | _ => c.z
    lvl == after
  else false

/-- Begin an edge phase, or first the move away from a switch that is already active (R264). -/
def State.homeEdgePhase (s : State) (a : AxisN) : State :=
  s.modHome a fun h => { h with
    phase := if s.homeSwitchLevel a then .leave else .edge, startPos := (s.axis a).prof.pos }

/-- HOME_COMMAND 1 (R261). -/
def State.homeStart (s : State) (a : AxisN) : Acted :=
  let m := s.cfgN (O.homeMethod a)
  if (s.axis a).field.state != .running || !s.follows a || m == 0 then s.lock
  else if s.isStepper a && (s.channelOf a).isNone && (m == 1 || m == 3)
      && s.cfgN (O.homeSpeed a) < s.cfgN (O.stallMinSpeed a) then (s, .outOfRange, 0)
  else
    let s := s.modHome a fun h => { h with
      state := .running, homed := false, latched := none, phase := .stall, slowSince := none
      startPos := (s.axis a).prof.pos
      torqueLimit := (m == 1 || m == 3) && !s.isStepper a
      cfg := { method := m, reverse := s.cfgN (O.homeDir a) == 1, speed := s.cfgN (O.homeSpeed a)
               slow := s.cfgN (O.homeSpeedSlow a), position := s.cfg (O.homePosition a)
               backoff := s.cfgN (O.homeBackoff a), distance := s.cfgN (O.homeDistance a)
               torque := s.cfgN (O.homeTorque a), stallTime := s.cfgN (O.homeStallTime a)
               goBack := s.cfgN (O.homeReturn a) == 1 } }
    let s := s.modProf a fun p => { p with halting := false, move := if p.move == .tracking then p.move else .moving }
    (if m == 2 then s.homeEdgePhase a else s).done

/-- HOME_COMMAND (R261, R266): 1 starts, 2 aborts. -/
def State.homeCommand (s : State) (a : AxisN) (v : Int) : Acted :=
  if v = 1 then s.homeStart a else (s.homeFail a).done

/-- HOME_START: HOME_COMMAND 1. -/
def execHomeStart (src : Src) (a : AxisN) (s : State) : Outcome State Fault Refusal :=
  .next (s.writeRow src (O.homeCommand a) 1 fun s => s.homeCommand a 1)
/-- HOME_ABORT: HOME_COMMAND 2. -/
def execHomeAbort (src : Src) (a : AxisN) (s : State) : Outcome State Fault Refusal :=
  .next (s.writeRow src (O.homeCommand a) 2 fun s => s.homeCommand a 2)

/-- The stall of a stall phase (R263): the generator stops at the axis position. Method 1 sets its coordinates there;
method 3 goes on to the edge. A stall in an edge phase fails the homing (R266). -/
def State.homeStallTaken (s : State) (a : AxisN) : State :=
  let h := (s.axis a).home
  if h.state != .running then s
  else match h.phase with
    | .stall =>
      let pos := s.axisPos a
      let keep := s.isStepper a && (s.channelOf a).isNone
      let s := s.modProf a fun p => { p with p := if keep then p.p else pos * unit96, v := 0, a := 0, j := 0 }
      if h.cfg.method == 1 then
        s.modHome a fun h => { h with
          latched := some pos, phase := .toTarget
          target := h.cfg.position - (if h.cfg.reverse then -1 else 1) * h.cfg.backoff }
      else s.homeEdgePhase a
    | .leave | .edge => s.homeFail a
    | .stopping | .toTarget => s

/-- HOME_STALL (R263): |SPEED_EST| has stayed below 0.1 × HOME_SPEED for HOME_STALL_TIME with CUR_LIMIT set.
DEDUCED, log entry 143. -/
def execHomeStall (a : AxisN) (s : State) : Outcome State Fault Refusal :=
  let x := s.axis a
  let v := if x.field.speed < 0 then -x.field.speed else x.field.speed
  if s.isStepper a then .next s
  else if x.home.state == .running && x.field.curLimit && 10 * v < (x.home.cfg.speed : Rat)
      && x.home.slowSince.any fun t => t + x.home.cfg.stallTime * ticksPerMs ≤ s.ref.time then
    .next (s.homeStallTaken a)
  else .next s

/-- The axis position at a reference tick up to the present one (R264): the counter without the counts of later timestamps; without a
channel the generator's, on its present segment. -/
def State.axisPosAt (s : State) (a : AxisN) (t : Nat) : Int :=
  let p := (s.axis a).prof
  match s.channelOf a with
  | some f =>
    let c := s.channels[f]
    let later := (c.counts.filter fun x => t < x.1).foldl (fun q x => q + x.2) 0
    diff32 (c.position - later.floor + p.homeOffset) 0
  | none =>
    let n : Int := -((s.ref.time - t : Nat) : Int)
    diff32 ((p.p + n * p.v + n * (n - 1) / 2 * p.a + n * (n - 1) * (n - 2) / 6 * p.j).fdiv unit96) 0

/-- A transition accepted on a line of channel f, with its timestamp, for the homings whose switch it is (R264, R265): after the edge
the axis comes to rest, and with HOME_RETURN 1 then moves on (Table 7.11). -/
def State.homeLine (s : State) (f : ChanN) (line : Nat) (level : Bool) (stamp : Nat) : State :=
  s.each allAxes fun s a =>
    let h := (s.axis a).home
    let w := s.cfgN (O.homeSwitch a)
    if h.state != .running || w / 4 != f.val || w % 4 != line then s
    else
      let after : Bool := s.cfgN (O.homeEdge a) == 0
      match h.phase with
      | .leave => if level == after then s else s.modHome a fun h => { h with
          phase := .edge, startPos := (s.axis a).prof.pos }
      | .edge =>
        if level != after then s
        else
          let s := s.modHome a fun h => { h with
            latched := some (s.axisPosAt a stamp), phase := .stopping, target := h.cfg.position }
          if h.cfg.goBack then s else s.modProf a fun p => { p with halting := true }
      | .stall | .stopping | .toTarget => s

/-- A fault of channel f ends the homings that use it, and a restart or retirement clears HOMED of the axes that read
it (R266, R267). -/
def State.homeChannel (s : State) (f : ChanN) (fault clear : Bool) : State :=
  s.each allAxes fun s a =>
    let uses := s.channelOf a == some f || s.cfgN (O.homeSwitch a) / 4 == f.val
    let s := if fault && uses then s.homeFail a else s
    if clear && s.channelOf a == some f then s.modHome a fun h => { h with homed := false } else s

/-- The coordinates are set at the first planner tick after the stall or the latch (R265); the shift is no motion for a compare unit, and
no crossing that waits is lost by it. DESIGN CHOICE, log entry 154. -/
def State.homeShift (s : State) (a : AxisN) : State :=
  match (s.axis a).home.latched with
  | none => s
  | some pos =>
    let s := s.cmpSettle
    let d := diff32 (s.axis a).home.cfg.position pos
    let s := s.modProf a fun p => { p with
      homeOffset := diff32 (p.homeOffset + d) 0, p := wrapP (p.p + d * unit96) }
    let s := s.modHome a fun h => { h with latched := none, homed := true, startPos := h.startPos + d }
    let s := s.event 0x500C a
    s.each allUnits fun s u => if s.cmpAxis u == some a then s.cmpRearm u true else s

/-! ### Planner ticks (R233 to R252) -/

/-- An object that takes effect at the next planner tick. DEDUCED, log entry 41. -/
def isPlannerObj (a : Nat) : Bool := (cardOf a).any fun c => c.effect == .nextPlanner

/-- A waiting planner value was written at least 5 µs before the tick (R233). DEDUCED, log entry 41. -/
def State.plannerTakes (s : State) (a : Nat) : Bool :=
  isPlannerObj a && match storeGet s.stagedAt a with
    | some t => t + 2000 ≤ s.ref.time
    | none => true
/-- The writes that take effect at this planner tick (R233). -/
def State.plannerDue (s : State) : List Nat := (s.staged.map (·.1)).filter s.plannerTakes
/-- They come into force. DEDUCED, log entry 41. -/
def State.plannerReads (s : State) : State := s.applyStaged s.plannerTakes

/-- A firing at least 5 µs ago releases STAGED_TARGET at this planner tick (R260). -/
def State.triggerDue (s : State) (a : AxisN) : Bool := (s.axis a).prof.triggered.any fun t => t + 2000 ≤ s.ref.time
/-- A firing at least 5 µs ago makes STAGED_TARGET the target (R260). -/
def State.plannerTrigger (s : State) (a : AxisN) : State :=
  if s.triggerDue a then
    let s := s.setObj (O.targetPos a) (s.cfg (O.stagedTarget a))
    (s.setObj (O.triggerUnit a) 255).modProf a fun p => { p with triggered := none }
  else s

/-- The generator in TRACKING sets P and V from the axis (R237). -/
def State.plannerTrack (s : State) (a : AxisN) : State :=
  let v := heldVel (s.axis a).field.speed
  let s := s.modProf a fun p => { p with followWarn := false, followSince := none }
  match s.channelOf a with
  | some f =>
    let pos := s.axisPos a
    let v := heldVel s.channels[f].speed
    s.modProf a fun p => { p with p := pos * unit96, v, a := 0, j := 0 }.withDir
  | none =>
    if s.isStepper a then s.modProf a fun p => { p with v := 0, a := 0, j := 0 }
    else s.modProf a fun p => { p with v, a := 0, j := 0 }.withDir

/-- The soft limits act (R249). -/
def State.limitsOn (s : State) (a : AxisN) : Bool :=
  let h := (s.axis a).home
  s.cfg (O.limitMin a) < s.cfg (O.limitMax a) && h.state != .running
    && (h.homed || s.cfgN (O.homeMethod a) == 0)

/-- The target planned for at this tick, clamped to the soft limits (R249). -/
def State.plannerTarget (s : State) (a : AxisN) : State :=
  let x := s.axis a
  if x.home.state == .running then
    if x.home.phase == .toTarget then s.modProf a fun p => { p with target := x.home.target, clamped := false }
    else s
  else
    let t := s.targetOf a
    let lo := s.cfg (O.limitMin a)
    let hi := s.cfg (O.limitMax a)
    let c := if s.limitsOn a then max lo (min hi t) else t
    let clamped : Bool := c != t && !s.velocityMode a
    let fresh : Bool := clamped && (!x.prof.clamped || x.prof.target != c)
    let s := s.modProf a fun p => { p with target := if clamped then c else t, clamped }
    if fresh then s.event 0x500E a else s

/-- The following error (R251). -/
def State.plannerFollow (s : State) (a : AxisN) : State :=
  let x := s.axis a
  let lim := s.cfg (O.followMax a)
  let watch := lim != 0 && (x.field.state == .running || x.field.state == .stopping) && x.prof.move != .tracking
    && s.follows a && !(x.home.state == .running && x.home.phase == .stall)
  let past : Bool := watch && lim * unit96 < (wrapP (x.prof.p - s.axisPos a * unit96)).natAbs
  let s := s.modProf a fun p => { p with
    followWarn := past, followSince := if past then some (p.followSince.getD s.ref.time) else none }
  if past && !x.prof.followWarn then s.event 0x5108 a else s

/-- The segment is late or fails its check: J = 0; the third in a row stops a RUNNING axis (R252). -/
def State.plannerLate (s : State) (a : AxisN) (fails : Bool) : State :=
  let c := (s.axis a).field.crest
  let s := if fails then s.checkFail 4 c (some c) else s
  let s := s.modProf a fun p => { p with j := 0, planLate := true, lateRun := p.lateRun + 1, planned := none }
  let s := s.event 0x5104 a
  if 3 ≤ (s.axis a).prof.lateRun && (s.axis a).field.state == .running then
    (s.event 0x5205 a).enter a .stopping
  else s

/-- A move arrives at this tick (R236): P takes the target, V, A and J are 0. Homing's last move completes it (R265). -/
def State.plannerArrive (s : State) (a : AxisN) : State :=
  let x := s.axis a
  let target := if x.prof.halting then x.prof.pos else x.prof.target
  let s := s.modProf a fun p => { p with
      p := target * unit96, v := 0, a := 0, j := 0, move := .idle, eta := 0, overshoot := false, turning := false
      accelOver := false, limitBrake := false, target, halting := false }
    let ends : Bool := x.home.state == .running && (x.home.phase == .stopping || x.home.phase == .toTarget)
    let s := if x.prof.halting || ends then s.setObj (O.targetPos a) target else s
    if ends then s.modHome a fun h => { h with state := .done, torqueLimit := false } else s

/-- The limits of the plans of axis a (R235), scaled by a grant (R227, R243), and on a stepper within the speed at F_ELEC_MAX (R172,
R208); under an active SLS within 0.95 × SLS_LIMIT, with STOP_DECEL where the axis runs faster (R381). -/
def State.bounds (s : State) (a : AxisN) : Bounds :=
  let q : Rat := if (s.axis a).prof.grantScaled then Config.sqrt (s.axis a).field.grant.scale else 1
  let speed : Rat := q * s.cfgN (O.profileSpeed a)
  let top : Rat := if s.isStepper a then s.cfgF (O.fElecMax a) * s.countsRev a / s.cfgN (O.polePairs a) else speed
  let stop := accUnits (s.cfgN (O.stopDecel a))
  let sls : Bool := (s.axis a).safe.slsSince.isSome
  let fast : Bool := sls && decide (velUnits (s.slsTop a) < (s.axis a).prof.v.natAbs)
  { speed := velUnits (min (min speed top) (if sls then s.slsTop a else speed)), acc := accUnits (q * s.cfgN (O.profileAccel a))
    dec := if fast then stop else accUnits (q * s.cfgN (O.profileDecel a)), jerk := jerkUnits (s.cfgN (O.profileJerk a))
    stop }

/-- What the planner of axis a heads for (R236, R249, R262, R264, R266): a homing phase moves at its speed, within
PROFILE_SPEED; an aborted or completed one comes to rest. -/
def State.aim (s : State) (a : AxisN) (b : Bounds) : Aim :=
  let x := s.axis a
  let h := x.home
  let sign : Int := if h.cfg.reverse then -1 else 1
  let slow : Bool := h.cfg.method == 3
  let edge : Int := if slow then -sign * h.cfg.slow else sign * h.cfg.speed
  let at_ := fun (v : Int) => Aim.velocity (max (-b.speed) (min b.speed (velUnits v)))
  if h.state == .running then match h.phase with
    | .stall => at_ (sign * h.cfg.speed)
    | .leave => at_ (if slow then sign * h.cfg.slow else -sign * h.cfg.slow)
    | .edge => at_ edge
    | .stopping => .velocity 0
    | .toTarget => .position h.target
  else if x.prof.halting then .velocity 0
  else if s.velocityMode a then at_ (s.velocityOf a)
  else .position x.prof.target

/-- The distance to the soft limit along a heading, while the limits act (R249); negative outside it. -/
def State.limitRoom (s : State) (a : AxisN) (σ : Int) : Option Int :=
  if s.limitsOn a then
    some (σ * wrapP ((if 0 < σ then s.cfg (O.limitMax a) else s.cfg (O.limitMin a)) * unit96 - (s.axis a).prof.p))
  else none

/-- What the planner decides at a tick: the jerk of the segment, whether the plan takes V through zero to the opposite sign, the
distance by which it passes the target, whether |A| lies above its limit, whether it brakes in a stop that ends at its target or at a
soft limit, the ticks to arrival. -/
structure Plan where
  jerk : Int := 0
  turning : Bool := false
  beyond : Option Nat := none
  above : Bool := false
  stops : Bool := false
  limitBrake : Bool := false
  ticks : Option Rat := none
  deriving DecidableEq, Repr

/-- The motion goes on at least by this distance along its own direction: to rest, or to the point where V is zero. -/
def Bounds.excursion (b : Bounds) (m : Motion) (back : Bool) : Rat :=
  if back then (b.turn m).1
  else if b.settled m < 0 then (runPhases m.v m.a [b.swing m]).1
  else (b.rest m).1

/-- The plan of axis a from the P, V and A of the tick (R233, R235, R242, R244 to R249). -/
def State.plan (s : State) (a : AxisN) (b : Bounds) (aim : Aim) : Plan :=
  let p := (s.axis a).prof
  let m : Motion := ⟨p.v, p.a⟩
  let dm : Int := if p.v < 0 then -1 else 1
  -- heading, goal velocity and distance to rest along it, signed distance to the target
  let (σ, goal, room, dist) : Int × Int × Option Int × Option Int := match aim with
    | .position t =>
      let d := wrapP (t * unit96 - p.p)
      let σ := b.heading m d
      let room := (s.limitRoom a σ).elim (σ * d) fun r => min (σ * d) (r - b.spare)
      (σ, b.speed, some room, some d)
    | .velocity g =>
      let σ : Int := if 0 < p.v * g || g = 0 || p.v = 0 && 0 < g then (if p.v = 0 && g < 0 then -1 else dm)
        else if g < 0 then -1 else 1
      match s.limitRoom a σ with
      | some r => if r ≤ 0 then (σ, min 0 (σ * g), none, none) else (σ, σ * g, some (r - b.spare), none)
      | none => (σ, σ * g, none, none)
  let f := m.along σ
  let back : Bool := decide (f.v < 0)
  let far := b.excursion (m.along dm) back
  let wall := if p.v = 0 then none else s.limitRoom a dm
  let brake : Bool := wall.any fun r => decide (((r : Int) : Rat) < far)
  let jerk := if brake then dm * b.limitJerk (m.along dm) (wall.getD 0) else σ * b.toward f goal room
  let stop : Rat := if brake then (wall.getD 0 : Int) else far
  let turning : Bool := back && dist.all fun d => !brake || decide (((dm * d : Int) : Rat) < stop)
  let beyond := dist.bind fun d =>
    if turning && 0 ≤ dm * d then some ((stop - (dm * d : Int)) / (unit96 : Rat)).floor.toNat else none
  { jerk, turning, beyond, above := b.above m, limitBrake := brake
    stops := dist.isSome && !brake && decide (0 < f.v ∧ f.a < 0 ∧ f.v ≤ goal)
    ticks := dist.map fun d => b.arrivalTicks f (σ * d) }

/-- The limits that the next segment of axis a keeps to: those of a stop in progress that ends at the same target, where PROFILE_DECEL
alone has been raised since (R248). DEDUCED, log entry 156. -/
def State.heldBounds (s : State) (a : AxisN) (b : Bounds) (aim : Aim) : Bounds :=
  let p := (s.axis a).prof
  match p.stopping with
  | some h => if p.planned.any (fun x => x.1 == aim) && { h with dec := b.dec } == b && h.dec ≤ b.dec then h else b
  | none => b

/-- ETA in ms, rounded up, of a planned time in ticks: a plan ends on a planner tick, of which there are twenty in a
millisecond (Table 7.6). -/
def etaOf (ticks : Option Rat) : Nat :=
  match ticks with
  | none => 0xFFFF
  | some t => min 0xFFFF (((t / segTicks + 1 / 2).floor.toNat + 19) / 20)

/-- A segment at a velocity leaves a stop before the soft limit in its way (R249). -/
def State.limitClear (s : State) (a : AxisN) (b : Bounds) (v : Int) : Bool :=
  v == 0 || (s.limitRoom a (if v < 0 then -1 else 1)).all fun r => b.stopOpen ⟨v.natAbs, 0⟩ (r - b.spare) 0

/-- The plan has reached what it heads for (R234, R236, R249): P and V may step there. -/
def State.planEnds (s : State) (a : AxisN) (b : Bounds) (aim : Aim) : Bool :=
  let p := (s.axis a).prof
  let m : Motion := ⟨p.v, p.a⟩
  match aim with
  | .position t => (wrapP (t * unit96 - p.p)).natAbs < unit96 && b.residue m 0 p.limitBrake
  | .velocity g => b.residue m g false && s.limitClear a b g

/-- A segment's token passes its check at the generator (R28, R252). -/
def segOk (flip : BitVec 8) (jerk : Int) : Bool := flipFirst flip (checksOf 2 jerk) == checksOf 2 jerk
/-- The direction of a velocity that is headed for. -/
def Aim.sign : Aim → Int
  | .position _ => 1
  | .velocity v => if v < 0 then -1 else 1

/-- V stands at a soft limit in the way of a velocity: the limit is a target (R249). -/
def State.limitReached (s : State) (a : AxisN) (b : Bounds) (aim : Aim) : Bool :=
  let p := (s.axis a).prof
  match aim with
  | .position _ => false
  | .velocity g => g ≠ 0 && (s.limitRoom a aim.sign).any fun r =>
      r.natAbs < unit96 && b.residue ⟨p.v, p.a⟩ 0 p.limitBrake

/-- The segment that the planner delivers (R233 to R250). At a replan, and where the plan comes to cross zero velocity, the
switchback and the overshoot are reported (R244, R246). DEDUCED, log entry 11. -/
def State.plannerSegment (s : State) (a : AxisN) (b : Bounds) (aim : Aim) (stopping : Option Bounds) (q : Plan) (replan : Bool) :
    State :=
  let was := (s.axis a).prof
  let fresh : Bool := replan || was.planned != some (aim, b) || (q.turning && !was.turning)
  let s := s.modProf a fun p => { p with
    j := q.jerk, planLate := false, lateRun := 0, move := .moving, planned := some (aim, b), turning := q.turning
    accelOver := q.above && !q.limitBrake && (was.accelOver || was.planned.any fun x => x.2 != b), stopping
    limitBrake := q.limitBrake, switchback := p.switchback || (fresh && q.turning)
    overshoot := if fresh then q.beyond.isSome else p.overshoot, eta := etaOf q.ticks }
  let back := fresh && q.turning
  let s := if back then s.count (O.switchbackCount a) else s
  let s := if back && s.logDue was.switchLogged then
      (s.modProf a fun p => { p with switchLogged := some s.ref.time }).event 0x5001 a
    else s
  let s := match fresh, q.beyond with
    | true, some d => (s.setObj (O.overshootDist a) d).event 0x5102 a
    | _, _ => s
  if q.limitBrake && !was.limitBrake then s.event 0x510A a else s

/-- The axis moves toward a soft limit that a stop at STOP_DECEL cannot hold (R250). -/
def State.limitOverrun (s : State) (a : AxisN) (b : Bounds) : Bool :=
  let p := (s.axis a).prof
  p.v ≠ 0 && (s.limitRoom a (if p.v < 0 then -1 else 1)).any fun r => b.overruns p.v r

/-- A tick of an axis that is planned for: it overruns a limit, it is at rest at its target, it arrives or settles, or the next
segment is delivered (R233 to R250, R252). -/
def State.plannerMove (s : State) (a : AxisN) (flip : BitVec 8) (replan : Bool) : State :=
  let b := s.bounds a
  let aim := s.aim a b
  let p := (s.axis a).prof
  let done := fun (s : State) => s.modProf a fun p => { p with
    planLate := false, lateRun := 0, planned := some (aim, b), turning := false, accelOver := false, limitBrake := false
    overshoot := false, stopping := none }
  if s.limitOverrun a b then (s.event 0x520B a).enter a .stopping
  else if (s.planEnds a b aim || s.limitReached a b aim) && !segOk flip 0 then s.plannerLate a true
  else if s.planEnds a b aim then
    match aim with
    | .position _ => if p.move == .idle then done s else (done s).plannerArrive a
    | .velocity g =>
      let stops : Bool := (s.axis a).home.state == .running && (s.axis a).home.phase == .stopping
      if p.halting || stops && !(s.axis a).home.cfg.goBack then (done s).plannerArrive a
      else
        let s := if stops then s.modHome a fun h => { h with phase := .toTarget } else s
        (done s).modProf a fun p => { p with v := g, a := 0, j := 0, move := .moving, eta := 0xFFFF }.withDir
  else if s.limitReached a b aim then
    (done s).modProf a fun p => { p with
      p := p.p + aim.sign * (s.limitRoom a aim.sign).getD 0, v := 0, a := 0, j := 0, move := .moving, eta := 0xFFFF }
  else
    let held := s.heldBounds a b aim
    let q := s.plan a held aim
    let stopping := if q.stops then some held else none
    if segOk flip q.jerk then s.plannerSegment a b aim stopping q replan else s.plannerLate a true

/-- A homing phase that travels HOME_DISTANCE without its event fails (R266). -/
def State.homeTravel (s : State) (a : AxisN) : State :=
  let h := (s.axis a).home
  if h.state == .running && (h.phase == .stall || h.phase == .edge || h.phase == .leave)
      && h.cfg.distance ≤ (diff32 (s.axis a).prof.pos h.startPos).natAbs then s.homeFail a
  else s

/-- One axis at a planner tick; `wrote` says that a write for it takes effect (R241). The planner runs on the crest that
computes the axis: without one no segment comes (R231). -/
def State.plannerAxis (s : State) (a : AxisN) (g : Option Segment) (wrote : Bool) : State :=
  let replan : Bool := wrote || s.triggerDue a
  let s := s.plannerTrigger a
  let s := s.homeShift a
  match (s.axis a).prof.move with
  | .tracking => (s.plannerTrack a).modProf a fun p => { p with planned := none }
  | .stopRamp => ((s.homeTravel a).plannerFollow a).modProf a fun p => { p with planned := none }
  | .idle | .moving =>
    let s := (s.plannerTarget a).homeTravel a
    let f := (s.axis a).field
    let up : Bool := !f.unplaced && s.runs (Dom.crest f.crest)
    let s := match up, g with
      | true, some g => if g.late then s.plannerLate a false else s.plannerMove a g.flip replan
      | _, _ => s.plannerLate a false
    s.plannerFollow a

/-- PLANNER_TICK (R233): the planner reads its inputs and delivers the next segment of every axis.
DEDUCED, log entry 11. -/
def execPlannerTick (segments : List Segment) (s : State) : Outcome State Fault Refusal :=
  if !s.runs Dom.feed || s.ref.time % 20000 ≠ 0 then .next s
  else
    let due := s.plannerDue
    let s := s.plannerReads
    let s := s.each allAxes fun s a =>
      if s.axisType a == 0 then s else s.plannerAxis a segments[a.val]? (due.any fun n => axisOfIndex (n / 256) == some a)
    .next s.cmpProfiles

/-- FOLLOWING_FAULT (R251): the following error has lasted 100 ms with FOLLOW_ACTION 1, in RUNNING or in STOPPING. -/
def execFollowingFault (a : AxisN) (s : State) : Outcome State Fault Refusal :=
  let long : Bool := (s.axis a).prof.followSince.any fun t => t + 100 * ticksPerMs ≤ s.ref.time
  if s.cfgN (O.followAction a) == 1 && (s.axis a).prof.followWarn && long then
    match (s.axis a).field.state with
    | .running => .next ((s.event 0x5209 a).enter a .stopping)
    | .stopping => .next (s.event 0x5209 a)
    | .disabled | .ready | .holdAsc | .fault | .safeOff | .lockedOut => .next s
  else .next s

/-- The mean acceleration of the axis over the last 50 µs, counts/s²: against the newest estimate at least that old, or the oldest there
is (R238). DEDUCED, log entry 155. -/
def State.meanAccel (s : State) (a : AxisN) : Rat :=
  let f := (s.axis a).field
  match f.speeds.getLast? with
  | some (t, v) => if t < s.ref.time then (f.speed - v) * ticksPerS / (s.ref.time - t : Nat) else 0
  | none => 0

/-- The handover of R194 and R238: the generator leaves TRACKING at the caught position and speed, with the mean
acceleration of the last 50 µs. While a group member follows, its generator stays in TRACKING (R274). -/
def State.handover (s : State) (a : AxisN) : State :=
  if (s.slotOf a).isSome && (s.axis a).member.role != .leader then s else
  let v := heldVel (s.axis a).field.speed
  let pos := s.axisPos a
  let keepP := (s.channelOf a).isNone
  let raw := s.meanAccel a
  s.modProf a fun p =>
    let slows : Bool := (0 < v && raw < 0) || (v < 0 && 0 < raw)
    let lim : Rat := s.cfgN (if slows then O.profileDecel a else O.profileAccel a)
    { p with
      p := if keepP then p.p else pos * unit96
      v, a := accUnits (max (-lim) (min lim raw)), j := 0, move := .moving }.withDir

end Sys2Proof.Machine
end

