-- ==== Sys2Proof/Machine/Sensing.lean ====
section
/-! DEFINITION. Current sensing, sigma-delta inputs, the saddle and the balance of paralleled legs (03). -/

namespace Sys2Proof.Machine

open Host

/-! ### Readings -/

/-- The voltage of a 14-bit code over ±10.0 V (R90). -/
def codeVolts (code : Int) : Rat := (code : Rat) * 10 / 8192
/-- The offset of the input of leg l (R91). -/
def State.ciOffsetNow (s : State) (a : AxisN) (l : LegN) : Rat :=
  if s.cfgN (O.ciAutozero a) == 1 then s.inputs[l].zero else s.cfgF (O.ciOffset l)
/-- The reading of a code at the input of leg l, in A (R91). -/
def State.ciReading (s : State) (a : AxisN) (l : LegN) (code : Int) : Rat :=
  s.cfgF (O.ciGain l) * (codeVolts code - s.ciOffsetNow a l)
/-- The conversion lies at or beyond ±9.95 V (R112). -/
def saturated (code : Int) : Bool := 995 * 8192 ≤ 1000 * code.natAbs

/-- |q|. -/
def qabs (q : Rat) : Rat := if q < 0 then -q else q
/-- The sign of a number. -/
def qsign (q : Rat) : Int := if q < 0 then -1 else if 0 < q then 1 else 0
/-- Clamp to ±m. -/
def clampQ (m q : Rat) : Rat := if m < q then m else if q < -m then -m else q
/-- Sum of a list. -/
def qsum (qs : List Rat) : Rat := qs.foldl (· + ·) 0
/-- Mean of a list; 0 when empty. -/
def qmean (qs : List Rat) : Rat := if qs.isEmpty then 0 else qsum qs / qs.length

/-- Legs of phase p of axis a in service whose input is its own reading, given those inputs unusable this cycle. -/
def State.ownInputs (s : State) (a : AxisN) (bad : List LegN) (p : Nat) : List LegN :=
  (s.phaseInService a p).filter fun l => !s.inputs[l].substituted && !bad.contains l

/-- The inputs that a stepper axis reads, coil by coil (R210). -/
def State.coilInputs (s : State) (a : AxisN) : List (List LegN) :=
  let legs := s.legsOf a
  let n := if s.cfgN (O.stepSense a) == 0 then 1 else 2
  [legs.take n, (legs.drop 2).take n]

/-- Every phase has a reading: an own input in each for n ≥ 2, at most one substituted phase for n = 1 (R114); on a stepper axis
one input of each coil (DESIGN CHOICE, log entry 130). -/
def State.phasesReadable (s : State) (a : AxisN) (bad : List LegN) : Bool :=
  if s.isStepper a then
    (s.coilInputs a).all fun ls => ls.any fun l => !s.inputs[l].substituted && !bad.contains l
  else
  let lacking := (List.range (s.phaseCount a)).filter fun p => (s.ownInputs a bad p).isEmpty
  if s.phaseLegs a == 1 then lacking.length ≤ 1 else lacking.isEmpty

/-- SADDLE_STATUS.MODE (R99). -/
def State.saddleMode (s : State) (a : AxisN) : SaddleMode :=
  if 4 ≤ s.phaseLegs a then .search else if (s.axis a).saddle.limited then .limited else .fixed

/-- Vdc of the axis (R165, R95). -/
def State.vdc (s : State) (a : AxisN) : Rat :=
  match (List.finRange 16).find? fun (i : SdN) => s.cfgN (O.sdRole i) == 1 && s.cfgN (O.sdAxis i) == a.val with
  | none => s.cfgF (O.vdcNom a)
  | some i => if s.sds[i].stale && s.sds[i].holdOver then s.cfgF (O.vdcNom a) else s.sds[i].value

/-- A cause like R93: the axis is held until a start command. -/
def State.currentImplausible (s : State) (a : AxisN) : State :=
  (s.event 0x220B a).otherCause a (some .currentImplausible)

/-- Substitute the input of leg l, announced with its code (R114); a phase left without a reading is handled as
0x220B. -/
def State.substitute (s : State) (a : AxisN) (l : LegN) (code : Nat) : State :=
  let s := s.modInput l fun i => { i with substituted := true, trim := 0 }
  let s := s.announce code l
  if s.phasesReadable a [] then s else s.currentImplausible a

/-! ### Meanings -/

/-- OVERCURRENT (R93): a comparator trip is a cause under R76 with ASC on the low sides; on a substituted input, and
while a reaction is held, it is logged only. DEDUCED, log entry 17. -/
def execOvercurrent (l : LegN) (s : State) : Outcome State Fault Refusal :=
  let s := (s.modInput l fun i => { i with ocLatch := true }).event 0x2207 l
  match s.axisOf l with
  | some a =>
    let held : Bool := (s.axis a).reaction.gate != Reaction.normal
    .next (if s.inputs[l].substituted || held then s else s.otherCause a (some .overcurrent))
  | none => .next s

/-- OVERCURRENT_CLEARED (R513): every comparator of the axis has stayed inside ±OC_LEVEL for 1 ms. -/
def execOvercurrentCleared (a : AxisN) (s : State) : Outcome State Fault Refusal :=
  .next (s.modReact a fun r => { r with causes := r.causes.filter (· != .overcurrent) })

/-- An axis whose ENABLE is complete: READY, or SAFE_OFF while an enable is removed (Table 5.12). At READY, TARGET_POS
takes the tracked position (R239). -/
def State.finishEnable (s : State) (a : AxisN) : State :=
  let x := s.axis a
  let s := s.modField a fun f => { f with zeroing := false }
  if x.safe.senP && x.safe.senL then
    ((s.setObj (O.targetPos a) x.prof.pos).unstage (O.targetPos a)).enter a .ready
  else
    let s := s.modReact a fun r => { r with gate := .allOff, cause := .safety }
    s.enter a .safeOff

/-- ZERO_MEASUREMENT_COMPLETE (R92): the 256 conversions of every input of the axis have been taken; their means are stored and
judged, and the axis becomes READY. -/
def execZeroMeasurementComplete (a : AxisN) (codes : List (List Int)) (s : State) : Outcome State Fault Refusal :=
  if !(s.axis a).field.zeroing || codes.length != (s.legsOf a).length then .next s
  else
    let s := s.each ((s.legsOf a).zip codes) fun s (l, xs) =>
      let m := qmean (xs.map codeVolts)
      let bad : Bool := s.cfgN (O.zeroTol a) < 1000 * qabs (m - s.cfgF (O.ciOffset l))
      let s := s.modInput l fun i => { i with zero := m, zeroFailed := bad }
      if bad then (if s.inputs[l].substituted then s.event 0x2202 l else s.substitute a l 0x2202) else s
    .next (s.finishEnable a)

/-- SD_NO_DATA (R95): the input is lost; SD_NOW is stale. -/
def execSdNoData (i : SdN) (s : State) : Outcome State Fault Refusal :=
  if s.sds[i].stale then .next s
  else .next ((s.modSd i fun d => { d with stale := true, holdOver := false }).event 0x2208 i)

/-- SD_DC_HOLD_EXPIRY (R95): the 1 ms hold of a lost DC-link value ends. -/
def execSdDcHoldExpiry (i : SdN) (s : State) : Outcome State Fault Refusal :=
  if s.sds[i].stale && s.cfgN (O.sdRole i) == 1 then .next (s.modSd i fun d => { d with holdOver := true })
  else .next s

/-- SD_NOW from the value normalised to ±1 (R94). -/
def State.sdValue (s : State) (i : SdN) (q : Rat) : Rat := s.cfgF (O.sdGain i) * q + s.cfgF (O.sdOffset i)

/-- The group delay of input i in reference ticks: 1.5 × OSR clock periods, of the module's 20 MHz clock or of the
modulator's own, whose period the decimated output brings, 16 to 80 ticks (R94). -/
def State.sdDelay (s : State) (i : SdN) (clock : Rat) : Rat :=
  3 / 2 * (32 * 2 ^ s.cfgN (O.sdOsr i) : Nat) * (if s.cfgN (O.sdClock i) == 0 then 20 else max 16 (min 80 clock))
/-- The sums of each n neighbours of a list. -/
def windowSums (n : Nat) (xs : List Int) : List Int :=
  (List.range (xs.length + 1 - n)).map fun k => ((xs.drop k).take n).sum
/-- The output of a sinc3 filter that decimates by `osr`, from the 3·osr − 2 data bits it spans, normalised to ±1 of the
modulator's full scale (R94); none with another number of bits. -/
def sinc3 (osr : Nat) (bits : List Bool) : Option Rat :=
  match windowSums osr (windowSums osr (windowSums osr (bits.map fun b => if b then 1 else -1))) with
  | [y] => some ((y : Rat) / ((osr * osr * osr : Nat) : Rat))
  | _ => none
/-- SD_OSR of input i as a ratio (R94). -/
def State.sdRatio (s : State) (i : SdN) : Nat := 32 * 2 ^ s.cfgN (O.sdOsr i)
/-- A decimated output is taken: SD_NOW, its timestamp, and the check it receives at the decimator; one whose check fails at the
crest is discarded (R28, R94). DESIGN CHOICE, log entry 147. -/
def State.sdTake (s : State) (x : SdValue) : State :=
  match sinc3 (s.sdRatio x.input) x.bits with
  | none => s
  | some q =>
    let v := s.sdValue x.input q
    let check := checkOf (f32Of v)
    if check ^^^ x.flip != check then s
    else s.modSd x.input fun d => { d with value := v, stamp := (x.tick : Rat) - s.sdDelay x.input x.clock, check }

/-- SD_RECOVERED (R95): 1 ms of valid data. -/
def execSdRecovered (x : SdValue) (s : State) : Outcome State Fault Refusal :=
  .next ((s.modSd x.input fun d => { d with stale := false, holdOver := false }).sdTake x)

/-- LIMIT_RELEASE (R102): DEPTH_DEMAND has stayed at or below M_FIXED for LIMIT_RELEASE. -/
def execLimitRelease (a : AxisN) (s : State) : Outcome State Fault Refusal :=
  if (s.axis a).saddle.limited && (s.axis a).saddle.depth ≤ s.fixedDepth a then
    .next (s.modSaddle a fun x => { x with limited := false })
  else .next s

/-- CI_REINSTATE (R114): the substitution of an input of a DISABLED axis ends. -/
def State.ciReinstate (s : State) (l : LegN) : Acted :=
  let dis := match s.axisOf l with
    | some a => s.isDisabled a
    | none => true
  if s.inputs[l].substituted && dis then
    ((s.modInput l fun i => { i with substituted := false, implausible := false, satRun := 0 }).event 0x200A l).done
  else s.lock

/-- CI_REINSTATE: a write of CI_REINSTATE. -/
def execCiReinstate (src : Src) (l : LegN) (v : Int) (s : State) : Outcome State Fault Refusal :=
  .next (s.writeRow src (O.ciReinstate l) v fun s => s.ciReinstate l)

/-! ### The crest's use of a sample (R100 to R114) -/

/-- What leg l's input counts as, given the inputs unusable this cycle: its own reading, or the mean of the own readings of
its phase (R112, R114). -/
def State.usedReading (s : State) (a : AxisN) (bad : List LegN) (l : LegN) : Rat :=
  let own := s.ownInputs a bad (s.phaseOf a l)
  if own.contains l then s.inputs[l].reading else qmean (own.map fun m => s.inputs[m].reading)
/-- Phase current p: the sum over its legs in service (R110, R114). -/
def State.phaseCurrent (s : State) (a : AxisN) (bad : List LegN) (p : Nat) : Rat :=
  qsum ((s.phaseInService a p).map (s.usedReading a bad))

/-- Component p of a triple of phases. -/
def phaseOfTriple (t : Rat × Rat × Rat) (p : Nat) : Rat :=
  match p with
  | 0 => t.1
  | 1 => t.2.1
  | _ => t.2.2

/-- The three phase currents; for n = 1 a phase without an own input is the negative sum of the other two (R114). -/
def State.phaseCurrents (s : State) (a : AxisN) (bad : List LegN) : Rat × Rat × Rat :=
  let u := s.phaseCurrent a bad 0
  let v := s.phaseCurrent a bad 1
  let w := s.phaseCurrent a bad 2
  if s.phaseLegs a != 1 then (u, v, w)
  else if (s.ownInputs a bad 0).isEmpty then (-(v + w), v, w)
  else if (s.ownInputs a bad 1).isEmpty then (u, -(u + w), w)
  else if (s.ownInputs a bad 2).isEmpty then (u, v, -(u + v))
  else (u, v, w)

/-- The readings become what the crest uses: CI_NOW shows an input's own reading, whether its leg is in service or not, and the
substitute of a saturated or substituted input (R91, R112, R114). DESIGN CHOICE, log entry 111. -/
def State.showReadings (s : State) (a : AxisN) (bad : List LegN) : State :=
  let i := (s.axis a).saddle.phase
  s.each ((s.legsOf a).map fun l =>
    (l, if !s.inputs[l].substituted && !bad.contains l then s.inputs[l].reading
        else if s.phaseLegs a == 1 && (s.ownInputs a bad (s.phaseOf a l)).isEmpty then phaseOfTriple i (s.phaseOf a l)
        else s.usedReading a bad l)) fun s (l, q) => s.modInput l fun i => { i with reading := q }

/-- Balance the legs of one phase (R109) and watch their circulating currents: a sample on which a leg has no c_j breaks its run
(R111). The trims of a phase that keeps one
own input are re-centred to 0. Trims are held exactly; the edge they move lies on the grid. DESIGN CHOICE,
log entry 105. -/
def State.balancePhase (s : State) (a : AxisN) (bad : List LegN) (p : Nat) : State :=
  let own := s.ownInputs a bad p
  let two : Bool := 2 ≤ own.length && s.phaseLegs a != 1
  let s := s.each ((s.legsOf a).filter fun l => s.phaseOf a l == p && !(two && own.contains l)) fun s l =>
    s.modInput l fun i => { i with circRun := 0 }
  if !two then s.each own fun s l => s.modInput l fun i => { i with trim := 0 }
  else
    let m := qmean (own.map fun l => s.inputs[l].reading)
    let g := s.cfgF (O.balGain a)
    let raw := own.map fun l => s.inputs[l].trim - g * (s.inputs[l].reading - m)
    let mean := qmean raw
    let lim : Rat := s.cfgN (O.balTrimMax a)
    let warn := s.cfgF (O.circWarn a)
    s.each (own.zip raw) fun s (l, t) =>
      let past : Bool := warn != 0 && warn < qabs (s.inputs[l].reading - m)
      let run := if past then min (s.inputs[l].circRun + 1) 11 else 0
      let s := s.modInput l fun i => { i with trim := clampQ lim (t - mean), circRun := run }
      if run == 10 then s.event 0x2109 l else s

/-- I_LIM = I_MAX × LEG_FRACTION / 1,000 (R170). -/
def State.iLim (s : State) (a : AxisN) : Rat := s.cfgF (O.iMax a) * s.legFraction a / 1000

/-- Deviation of each leg with an own input, in a phase of n ≥ 4 such legs, from the mean of the others (R113). -/
def State.deviations (s : State) (a : AxisN) (bad : List LegN) : List (LegN × Rat) :=
  (List.range 3).flatMap fun p =>
    let own := s.ownInputs a bad p
    if own.length < 4 then []
    else own.map fun l =>
      (l, qabs (s.inputs[l].reading - qmean ((own.filter (· != l)).map fun m => s.inputs[m].reading)))

/-- The identification after eight failed sum checks (R113). -/
def State.identify (s : State) (a : AxisN) (bad : List LegN) : State :=
  let ds := s.deviations a bad
  let tol := s.iLim a * s.cfgN (O.legDevTol a) / 100 / s.phaseLegs a
  match ds.find? fun d => tol < d.2 && ds.all fun e => e.1 == d.1 || 2 * e.2 ≤ d.2 with
  | some (l, _) => (s.modInput l fun i => { i with implausible := true }).substitute a l 0x2203
  | none => s.currentImplausible a

/-- Every phase has an input of its own (Table 2.16). -/
def State.phasesOwn (s : State) (a : AxisN) : Bool :=
  (List.range (s.phaseCount a)).all fun p => !(s.ownInputs a [] p).isEmpty

/-- The sum check of a valid sample (R113), and its eight passes toward R513. With SUM_TOL 0 no check is made, and a valid
sample counts as a pass. DESIGN CHOICE, log entry 112. -/
def State.sumCheck (s : State) (a : AxisN) (bad : List LegN) : State :=
  let tol := s.cfgN (O.sumTol a)
  let (u, v, w) := (s.axis a).saddle.phase
  if tol == 0 || qabs (u + v + w) ≤ s.iLim a * tol / 100 then
    let s := s.modSaddle a fun x => { x with sumFails := 0 }
    let s := s.modReact a fun r => { r with sumPassed := min (r.sumPassed + 1) 8 }
    if (s.axis a).reaction.sumPassed == 8 && s.phasesOwn a then
      s.modReact a fun r => { r with causes := r.causes.filter (· != .currentImplausible) }
    else s
  else
    let s := s.modReact a fun r => { r with sumPassed := 0 }
    let n := (s.axis a).saddle.sumFails + 1
    if n < 8 then s.modSaddle a fun x => { x with sumFails := n }
    else (s.modSaddle a fun x => { x with sumFails := 0 }).identify a bad

/-- One conversion as the crest takes it (R91, R112): reading, saturation, substitution at the third. -/
def State.takeConversion (s : State) (a : AxisN) (l : LegN) (c : Conversion) : State :=
  let sat := saturated c.code
  let run := if sat then min (s.inputs[l].satRun + 1) 3 else 0
  let s := s.modInput l fun i => { i with
    reading := if sat || i.substituted then i.reading else s.ciReading a l c.code
    satLast := sat, satRun := run }
  if !sat then s
  else if run == 3 && !s.inputs[l].substituted then s.substitute a l 0x2101
  else s.event 0x2101 l

/-- The conversions of a cycle reach the crest (R90, R112): those that pass their check are taken; one that fails is counted,
and leaves the sample unusable (Table 1.9 kind 0x02). -/
def State.takeSamples (s : State) (a : AxisN) (xs : List (LegN × Conversion)) : State :=
  s.each xs fun s (l, c) => if convOk c then s.takeConversion a l c else s.checkFail 2 l.val

/-- Prediction of a cycle for want of a usable sample (R100, R102, R106, R107). LIMITED mode and PREDICT_COUNT stay over a
DISABLE and a new start. DESIGN CHOICE, log entry 113. -/
def State.predictSample (s : State) (a : AxisN) (predicted : Rat × Rat × Rat) : State :=
  let x := (s.axis a).saddle
  let mx := s.cfgN (O.predictMax a)
  let n := min (x.predictCount + 1) (mx + 1)
  let mode := s.saddleMode a
  let s := s.modSaddle a fun x => { x with
    predicted := true, predictCount := n, phase := predicted, gap := 0 }
  if mode == .fixed && mx - 1 ≤ n then
    (s.modSaddle a fun x => { x with limited := true }).event 0x2004 a
  else if mode != .fixed && mx < n && x.predictCount ≤ mx then
    (s.event 0x2206 a).otherCause a (some .currentLost)
  else s

/-- The ripple of leg l's current at an instant: its deviation from the carrier-period mean, from the leg's edges, Vdc and
LEG_INDUCTANCE (R110). The current rises by Vdc(1 − D)/L while PULSE is high and falls by Vdc·D/L while it is low, and equals
its mean at the carrier's extrema. Time u runs from the leg's own carrier valley. DEDUCED, log entry 114. -/
def State.rippleAt (s : State) (a : AxisN) (l : LegN) (e : EdgeSet) (x : Int) : Rat :=
  let T := s.period16 a
  let u : Rat := ((x - s.carrierShift a l).fmod T : Int)
  let d := max 0 (min 1 (s.setDuty a l e))
  let half := d * T / 2
  -- 156.25 ps and µH
  let k := s.vdc a * (15625 / 100000000) / s.cfgF (O.legInductance a)
  if u ≤ half then k * ((1 - d) * u)
  else if T - half ≤ u then k * ((1 - d) * (u - T))
  else k * (d * (T / 2 - u))

/-- A valid sample (R97, R100, R109 to R113): the readings ripple-corrected outside FIXED mode, the phase currents, the
balance, the sum check. DESIGN CHOICE, log entry 111. -/
def State.validSample (s : State) (a : AxisN) (bad : List LegN) (ripple : List (LegN × Rat)) : State :=
  let s := if s.saddleMode a != .fixed && s.cfgF (O.legInductance a) != 0 then
      s.each ripple fun s (l, r) =>
        if bad.contains l || s.inputs[l].substituted then s
        else s.modInput l fun i => { i with reading := i.reading - r }
    else s
  let s := s.modSaddle a fun x => { x with
    predicted := false, predictCount := 0, phase := s.phaseCurrents a bad }
  let s := s.modReact a fun r => { r with causes := r.causes.filter (· != .currentLost) }
  let s := s.each (List.range 3) fun s p => s.balancePhase a bad p
  (s.showReadings a bad).sumCheck a bad

end Sys2Proof.Machine
end

