-- ==== Sys2Proof/Machine/Feedback.lean ====
section
/-! DEFINITION. Position and speed feedback: the edge filter's transitions, count formation of every type, the index
rule, direction, speed, serial words, faults, snapshots (04). -/

namespace Sys2Proof.Machine

open Host

/-! ### FB_STATUS, position arithmetic -/

/-- FB_STATUS (Table 4.7) of channel f as it stands in c. -/
def State.fbStatusOf (s : State) (f : ChanN) (c : Channel) : Nat :=
  let n := fun k => nibble (countIn c.faults k s.ref.time (s.cfgN O.fbRetireWindow))
  let st := if s.cfgN (O.fbType f) = 0 then 5 else match c.state with
    | .starting => 1
    | .valid => 2
    | .faulted => 3
    | .retired => 4
  fields [(28, st), (24, n 0), (20, n 1), (16, n 2), (12, n 3), (11, c.retireLatch.toNat), (10, c.extrapolated.toNat),
    (9, (!c.openPairs.isEmpty).toNat), (8, c.armed.toNat), (7, c.referenced.toNat), (6, c.gapPending.toNat),
    (5, c.period.toNat), (4, c.standstill.toNat), (3, c.dirLatch.toNat), (2, c.reverse.toNat), (1, c.glitchLatch.toNat),
    (0, c.validLast.toNat)]
/-- FB_STATUS (Table 4.7). -/
def State.fbStatus (s : State) (f : ChanN) : Nat := s.fbStatusOf f s.channels[f]

/-- A value wrapped to 32 signed bits (R119). -/
def wrap32 (x : Int) : Int := (x + 0x80000000).fmod 0x100000000 - 0x80000000
/-- The integer nearest to p / q, q > 0. -/
def nearestDiv (p q : Int) : Int := (2 * p + q).fdiv (2 * q)
/-- The value nearest to c among base + m × period (R141, R142). -/
def nearestOf (base period c : Int) : Int :=
  if period = 0 then base else base + period * nearestDiv (c - base) period
/-- +1 forward, −1 reverse. -/
def dirSign (reverse : Bool) : Int := if reverse then -1 else 1
/-- FB_TYPE of channel f. -/
def State.fbTypeOf (s : State) (f : ChanN) : Nat := s.cfgN (O.fbType f)
/-- FB_INVERT of channel f (R119). -/
def State.fbInverted (s : State) (f : ChanN) : Bool := s.cfgN (O.fbInvert f) == 1

/-! ### Faults of a channel (R149 to R153) -/

/-- Class, specific number of a feedback fault (Table 4.4). -/
def fbFaultCode : FbFault → Nat × Nat
  | .glitchBurst => (0, 2) | .quadError => (0, 3) | .hallInvalid => (0, 4) | .indexMismatch => (1, 5)
  | .ssiWord => (2, 7) | .amplitude => (0, 8) | .lineOpen => (3, 9) | .snapshotFailed => (0, 0xD)

/-- Latch a fault of channel f and count it; a fault already latched is not counted again. A channel whose count
reaches FB_RETIRE_COUNT is retired and announced (R150, R152). -/
def State.fbFault (s : State) (f : ChanN) (k : FbFault) : State :=
  let c := s.channels[f]
  if s.fbTypeOf f == 0 || c.state == .retired || c.latched.contains k then s
  else
    let (cls, spec) := fbFaultCode k
    let (fs, d, retire) := countFault c.faults cls s.ref.time (s.cfgN O.fbRetireWindow) (s.cfgN O.fbRetireCount)
    let s := s.modChan f fun c => { c with
      faults := fs
      latched := k :: c.latched
      state := if retire then .retired else .faulted
      retireLatch := c.retireLatch || retire }
    let s := if retire then s.announce (faultCode 3 d spec) f else s.event (faultCode 3 d spec) f
    let s := s.homeChannel f true retire
    if retire then s.cmpInvalidate else s

/-- Clear a latched fault; with none left the channel is VALID (R151). -/
def State.fbClear (s : State) (f : ChanN) (k : FbFault) : State :=
  s.modChan f fun c =>
    let l := c.latched.filter (· != k)
    if c.latched.contains k && c.state == .faulted then
      { c with latched := l, state := if l.isEmpty then .valid else .faulted }
    else c

/-- Place of a Hall state (U, V, W) in the forward sequence (R127). -/
def hallPlace (u v w : Bool) : Option Nat :=
  match u, v, w with
  | true, false, false => some 0
  | true, true, false => some 1
  | false, true, false => some 2
  | false, true, true => some 3
  | false, false, true => some 4
  | true, false, true => some 5
  | _, _, _ => none

/-- A Hall channel takes the state that stands on its lines: it is the first valid one, or it is invalid (R127, R150). -/
def State.hallStart (s : State) (f : ChanN) : State :=
  let c := s.channels[f]
  if s.fbTypeOf f != 2 then s
  else match hallPlace c.a c.b c.z with
    | some i => s.modChan f fun c => { c with hallPrev := some i, referenced := true }
    | none => s.fbFault f .hallInvalid

/-- Restart channel f: counter 0, REFERENCED clear, faults cleared; the counts of its faults stay, and a retired
channel stays RETIRED (R118, R122). Types 1 to 3 are valid at once; a Hall channel takes the state present. DIR, DIR_LATCH,
GLITCH_LATCH and INDEX_ARMED start afresh too. DESIGN CHOICE, log entry 148. -/
def State.fbRestart (s : State) (f : ChanN) : State :=
  let t := s.fbTypeOf f
  let s := s.homeChannel f false true
  let s := s.modChan f fun c =>
    { state := if c.state == .retired then .retired else if t == 1 || t == 2 || t == 3 then .valid else .starting
      faults := c.faults, retireLatch := c.retireLatch, a := c.a, b := c.b, z := c.z
      glitchLogged := c.glitchLogged, dirLogged := c.dirLogged
      lastEdge := c.lastEdge, lastCount := s.ref.time }
  ({ s with beforeTick := s.beforeTick.set f none }.hallStart f).cmpResync f

/-! ### Counts and direction (R119, R144, R145) -/

/-- Drop count history that no speed method can use: older than 100 ms and beyond 66 entries. -/
def pruneCounts (now : Nat) (cs : List (Nat × Rat)) : List (Nat × Rat) :=
  let keep := cs.takeWhile fun c => now - c.1 ≤ 100 * ticksPerMs
  if keep.length < 66 then cs.take 66 else keep

/-- Direction of motion after the position has reached its present value (R144). The count that completes a change is not among
the counts since that change (R146). DESIGN CHOICE, log entry 153. -/
def State.fbDirection (s : State) (f : ChanN) : State :=
  let c := s.channels[f]
  let d := wrap32 (c.position - c.extreme) * dirSign c.reverse
  if 0 < d then s.modChan f fun c => { c with extreme := c.position }
  else if s.cfg (O.dirHyst f) ≤ -d then
    let log : Bool := match c.dirLogged with
      | some t => ticksPerS ≤ s.ref.time - t
      | none => true
    let s := s.modChan f fun c => { c with
      reverse := !c.reverse, dirLatch := true, extreme := c.position, sinceDir := 0
      dirLogged := if log then some s.ref.time else c.dirLogged }
    let s := (s.count (O.dirChangeCount f)).emit (.fabric .fbDir f)
    if log then s.event 0x300A f else s
  else s

/-- The counter moves by n counts at a timestamp (R119). DESIGN CHOICE, log entry 31. -/
def State.fbMove (s : State) (f : ChanN) (n : Int) (stamp : Nat) : State :=
  if n = 0 then s
  else
    ((s.modChan f fun c => { c with
      position := wrap32 (c.position + n), lastCount := stamp, standstill := false }).cmpChannel f stamp false).fbDirection f
/-- What the speed methods see of a movement: q counts at a timestamp (R145, R147). -/
def State.fbTrace (s : State) (f : ChanN) (q : Rat) (stamp : Nat) : State :=
  if q = 0 then s
  else s.modChan f fun c => { c with
    counts := pruneCounts s.ref.time ((stamp, q) :: c.counts), sinceDir := c.sinceDir + 1 }
/-- n counts are accepted at a timestamp (R119, R145). DESIGN CHOICE, log entry 31. -/
def State.fbCount (s : State) (f : ChanN) (n : Int) (stamp : Nat) : State := (s.fbTrace f n stamp).fbMove f n stamp

/-! ### The index rule (R141 to R143) -/

/-- Correct the counter by −d without a trace in the counts (R143). -/
def State.fbCorrect (s : State) (f : ChanN) (d : Int) : State :=
  s.modChan f fun c => { c with position := wrap32 (c.position - d), extreme := wrap32 (c.extreme - d) }

/-- An index sets the counter: d is the counter minus its new value (R141). -/
def State.fbSetIndex (s : State) (f : ChanN) (d : Int) : State :=
  let s := ((s.fbCorrect f d).cmpChannel f s.ref.time true).modChan f fun c => { c with referenced := true, mismatchRun := 0 }
  (s.setObj (O.indexCorrection f) d).event 0x3006 f

/-- The check of an index while REFERENCED is set (R142). -/
def State.fbCheckIndex (s : State) (f : ChanN) (d : Int) : State :=
  if d = 0 then s.modChan f fun c => { c with mismatchRun := 0 }
  else if (d.natAbs : Int) ≤ s.cfg (O.indexTol f) then
    let s := ((s.fbCorrect f d).cmpChannel f s.ref.time true).modChan f fun c => { c with mismatchRun := 0 }
    (s.setObj (O.indexCorrection f) d).event 0x3006 f
  else
    let s := s.count (O.indexMismatchCount f) 1 0xFFFF
    let run := s.channels[f].mismatchRun + 1
    if run < 3 then s.modChan f fun c => { c with mismatchRun := run }
    else
      -- the latched fault clears immediately; REFERENCED stays clear (Table 4.3)
      let s := s.modChan f fun c => { c with mismatchRun := 0, referenced := false }
      (s.fbFault f .indexMismatch).fbClear f .indexMismatch

/-- An index event of the line Z or of a gear-tooth mark: `count` is the count it acts on, `base` its expected value, exact for
a setting in mode 2 (R141, R142). A gear-tooth mark passed in reverse has a base that lies below INDEX_VALUE by the counts of the
mark. DESIGN CHOICE, log entry 151. -/
def State.fbIndex (s : State) (f : ChanN) (count base period : Int) : State :=
  let c := s.channels[f]
  let d := count - nearestOf base period count
  match s.cfgN (O.indexMode f) with
  | 1 => if c.referenced then s.fbCheckIndex f d else s.fbSetIndex f d
  | 2 =>
    if c.armed && c.armedAt < s.ref.time then
      (s.fbSetIndex f (count - base)).modChan f fun c => { c with armed := false }
    else if c.referenced then s.fbCheckIndex f d else s
  | _ => s

/-- A type 5 check word: in every mode the count it acts on is checked against the word, `expect` (R137, R142); then it acts as
an index that sets the counter, where INDEX_MODE asks for one (R141). -/
def State.fbWord (s : State) (f : ChanN) (count expect range : Int) : State :=
  let was := s.channels[f]
  let s := if was.referenced then s.fbCheckIndex f (count - nearestOf expect range count) else s
  let count := count + wrap32 (s.channels[f].position - was.position)
  let iv := s.cfg (O.indexValue f)
  match s.cfgN (O.indexMode f) with
  | 1 => if was.referenced then s else s.fbSetIndex f (count - nearestOf iv (s.chanCpr f) count)
  | 2 =>
    if was.armed && was.armedAt < s.ref.time then
      (s.fbSetIndex f (count - iv)).modChan f fun c => { c with armed := false }
    else s
  | _ => s

/-! ### Decoding the lines (R121, R126 to R131) -/

/-- A/B decoding to four counts per period (R126); A leading B counts forward. DESIGN CHOICE, log entry 31. -/
def State.fbQuadrature (s : State) (f : ChanN) (a0 b0 : Bool) (stamp : Nat) : State :=
  let c := s.channels[f]
  if c.a != a0 && c.b != b0 then
    (s.modChan f fun c => { c with referenced := false }).fbFault f .quadError
  else if c.a != a0 || c.b != b0 then
    let fwd : Bool := if c.a != a0 then c.a != c.b else c.b == c.a
    let n : Int := if fwd != s.fbInverted f then 1 else -1
    (s.fbCount f n stamp).fbClear f .quadError
  else s

/-- Hall decoding (R127): each step counts. REFERENCED is set at a valid state, but not while the channel has an open line
(R150). -/
def State.fbHall (s : State) (f : ChanN) (stamp : Nat) : State :=
  let c := s.channels[f]
  match hallPlace c.a c.b c.z, c.hallPrev with
  | none, _ => s.fbFault f .hallInvalid
  | some i, none =>
    (s.modChan f fun c => { c with
      hallPrev := some i, referenced := !c.latched.contains .lineOpen }).fbClear f .hallInvalid
  | some i, some p =>
    let step := (i + 6 - p) % 6
    let s := s.modChan f fun c => { c with
      hallPrev := some i, referenced := c.referenced || !c.latched.contains .lineOpen }
    if step == 0 then s
    else if step == 1 || step == 5 then
      let n : Int := if (step == 1) != s.fbInverted f then 1 else -1
      (s.fbCount f n stamp).fbClear f .hallInvalid
    else s.fbFault f .hallInvalid

/-- The period P1 is regular against P2: |P1/P2 − 1| ≤ GT_ACCEL. -/
def gtRegular (p1 p2 accel : Nat) : Bool := 100 * ((p1 : Int) - p2).natAbs ≤ accel * p2

/-- Whether a gear-tooth channel now counts in reverse (R128). DEDUCED, log entry 140. -/
def State.gearDir (s : State) (f : ChanN) : Bool :=
  let c := s.channels[f]
  if s.cfgN (O.gtDirSource f) == 0 then c.b == s.fbInverted f
  else match s.readers f with
    | [] => c.gearReverse
    | a :: _ =>
      let v := (s.axis a).prof.v
      if v = 0 then c.gearReverse else v < 0

/-- Advance the stored periods at a rising edge. -/
def Channel.gearShift (c : Channel) (stamp : Nat) (p : Option Nat) : Channel :=
  { c with rise := some stamp, p1 := p, p2 := c.p1, cleanEdges := c.cleanEdges + 1 }

/-- |p/q − (k + 1)| ≤ GT_TOL. -/
def gtMatches (p q k tol : Nat) : Bool := 100 * ((p : Int) - (k + 1) * q).natAbs ≤ tol * q

/-- The n counts added for a gap at a timestamp are withdrawn: no motion, so neither the direction nor the speed sees them
(R130). -/
def State.fbWithdraw (s : State) (f : ChanN) (n : Int) (stamp : Nat) : State :=
  ((s.fbCorrect f n).cmpChannel f stamp false).modChan f fun c => { c with
    counts := c.counts.map fun p => if p.1 == stamp then (stamp, p.2 - n) else p }

/-- A rising A edge of a gear-tooth wheel (R128 to R131). -/
def State.fbGear (s : State) (f : ChanN) (stamp : Nat) : State :=
  let rev := s.gearDir f
  -- a change of direction since the last edge
  let s := s.modChan f fun c => { c with
    gearReverse := rev, cleanEdges := if rev == c.gearReverse then c.cleanEdges else 0 }
  let c := s.channels[f]
  let k := s.cfgN (O.gtRef f)
  let tol := s.cfgN (O.gtTol f)
  let accel := s.cfgN (O.gtAccel f)
  let pitches : Int := s.cfgN (O.gtPitches f)
  let iv := s.cfg (O.indexValue f)
  let p := c.rise.map (stamp - ·)
  let one := dirSign rev
  let shift := fun (s : State) => s.modChan f fun c => c.gearShift stamp p
  match c.heldEdge with
  | some (ph, sh, back) =>
    let s := s.modChan f fun c => { c with heldEdge := none }
    let pn := stamp - sh
    if c.p1.any fun p1 => 100 * ((ph + pn : Nat) - (p1 : Int)).natAbs ≤ tol * p1 then
      let s := (s.fbCount f one stamp).modChan f fun c => c.gearShift stamp (some (ph + pn))
      s.fbIndex f s.channels[f].position (if rev then iv - 1 else iv) pitches
    else
      let s := ((s.fbCount f (dirSign back) sh).fbCount f one stamp).event 0x310C f
      s.modChan f fun c => (c.gearShift sh (some ph)).gearShift stamp (some pn)
  | none =>
  match c.gap, p with
  | some (pg, held, back), some pn =>
    let s := shift ((s.fbCount f one stamp).modChan f fun c => { c with gap := none, gapPending := false })
    if gtMatches pg pn k tol then
      s.fbIndex f held (if back then iv - (k + 1) else iv) pitches
    else ((s.fbWithdraw f (dirSign back * k) (c.rise.getD stamp)).event 0x310C f)
  | _, _ =>
    match p, c.p1, c.p2 with
    | some pp, some p1, some p2 =>
      if 1 ≤ k && k ≤ 3 && gtRegular p1 p2 accel && gtMatches pp p1 k tol && 2 ≤ c.cleanEdges then
        let s := shift (s.fbCount f (one * (k + 1)) stamp)
        s.modChan f fun c => { c with gap := some (pp, c.position, rev), gapPending := true }
      else if k == 4 && gtRegular p1 p2 accel && 100 * pp ≤ (100 - tol) * p1 then
        s.modChan f fun c => { c with heldEdge := some (pp, stamp, rev) }
      else shift (s.fbCount f one stamp)
    | _, _, _ => shift (s.fbCount f one stamp)

/-- Pass-through output p takes levels (R148). -/
def State.ptDrive (s : State) (p : PtN) (a b z : Bool) : State :=
  { s with passes := s.passes.set p { driven := true, a, b, z } }.emit (.passThrough p a b z)
/-- The pass-through outputs that repeat channel f follow its lines (R148). -/
def State.fbRepeat (s : State) (f : ChanN) : State :=
  let c := s.channels[f]
  s.each (List.finRange 8) fun s (p : PtN) =>
    if s.cfgN (O.ptSource p) == f.val && s.passes[p].driven then s.ptDrive p c.a c.b c.z else s
/-- A glitch on a line of channel f passes through the outputs that repeat its lines raw (R148). -/
def State.fbGlitch (s : State) (f : ChanN) (line : Line) : State :=
  let c := s.channels[f]
  s.each (List.finRange 8) fun s (p : PtN) =>
    if s.cfgN (O.ptSource p) == f.val && s.cfgN (O.ptMode p) == 0 && s.passes[p].driven then
      (match line with
        | .a => s.ptDrive p (!c.a) c.b c.z
        | .b => s.ptDrive p c.a (!c.b) c.z
        | .z => s.ptDrive p c.a c.b (!c.z)).ptDrive p c.a c.b c.z
    else s

/-! ### Meanings -/

/-- The lines of channel f take their new levels. -/
def Channel.setLines (c : Channel) (levels : List (Line × Bool)) : Channel :=
  levels.foldl (fun c p => match p.1 with
    | .a => { c with a := p.2 }
    | .b => { c with b := p.2 }
    | .z => { c with z := p.2 }) c

/-- Transitions come on the present tick: the channel as it stands is what a snapshot on this tick sees (R121). -/
def State.keepBefore (s : State) (f : ChanN) : State :=
  match s.beforeTick[f] with
  | some (t, _) => if t == s.ref.time then s
                   else { s with beforeTick := s.beforeTick.set f (some (s.ref.time, s.channels[f])) }
  | none => { s with beforeTick := s.beforeTick.set f (some (s.ref.time, s.channels[f])) }
/-- The channel with every transition accepted on a tick before the present one (R121), also one accepted less than MIN_EDGE
before it, of which R125 says that it appears one snapshot later. DESIGN CHOICE, log entry 149. -/
def State.chanAtTick (s : State) (f : ChanN) : Channel :=
  match s.beforeTick[f] with
  | some (t, c) => if t == s.ref.time then c else s.channels[f]
  | none => s.channels[f]

/-- EDGE_ACCEPTED (R120, R121, R123, R126 to R131, R141): transitions accepted on one tick, the count before the index. While
FEED does not run nothing counts; the levels are those its filter finds at its start. DESIGN CHOICE, log entry 129. -/
def execEdgeAccepted (f : ChanN) (levels : List (Line × Bool)) (stamp : Nat) (s : State) :
    Outcome State Fault Refusal :=
  if !s.runs Dom.feed then .next (s.modChan f fun c => c.setLines levels)
  else
    let c := s.channels[f]
    let (a0, b0, z0) := (c.a, c.b, c.z)
    let s := (s.keepBefore f).modChan f fun c => { c.setLines levels with lastEdge := stamp }
    let s := s.fbRepeat f
    let home := fun (s : State) => s.each levels fun s p => match p.1 with
      | .a => s.homeLine f 0 p.2 stamp
      | .b => s.homeLine f 1 p.2 stamp
      | .z => s.homeLine f 2 p.2 stamp
    let n := s.channels[f]
    let t := s.fbTypeOf f
    let zRise : Bool := n.z && !z0 && (s.cfgN (O.indexGate f) == 0 || (n.a && n.b))
    let zIndex := fun (s : State) =>
      if zRise then s.fbIndex f s.channels[f].position (s.cfg (O.indexValue f)) (s.chanCpr f) else s
    .next <| home <| match t with
      | 1 => zIndex (s.fbQuadrature f a0 b0 stamp)
      | 2 => s.fbHall f stamp
      | 3 => if n.a && !a0 then s.fbGear f stamp else s
      | 5 => s.fbQuadrature f a0 b0 stamp
      | 7 => zIndex s
      | _ => s

/-- GLITCH_SEEN (R123, R124, R148): both transitions are discarded and counted as one glitch; a raw repeat passes them on. -/
def execGlitchSeen (f : ChanN) (line : Line) (s : State) : Outcome State Fault Refusal :=
  let s := if s.runs Dom.feed then s.fbGlitch f line else s
  if s.fbTypeOf f == 0 || !s.runs Dom.feed then .next s
  else
    let now := s.ref.time
    let c := s.channels[f]
    let log : Bool := match c.glitchLogged with
      | some t => ticksPerS ≤ now - t
      | none => true
    let recent := now :: c.glitches.filter fun t => now - t ≤ 10 * ticksPerMs
    let s := (s.count (O.glitchCount f)).modChan f fun c => { c with
      glitchLatch := true, glitches := recent
      glitchLogged := if log then some now else c.glitchLogged }
    let s := if log then s.event 0x3101 f else s
    .next (if s.cfgN O.glitchLimit ≤ recent.length then s.fbFault f .glitchBurst else s)

/-- STANDSTILL (R145): STANDSTILL_TIME has passed without a count. -/
def execStandstill (f : ChanN) (s : State) : Outcome State Fault Refusal :=
  let c := s.channels[f]
  if s.fbTypeOf f != 0 && s.cfgN (O.standstillTime f) * ticksPerMs ≤ s.ref.time - c.lastCount then
    .next (s.modChan f fun c => { c with standstill := true, speed := 0, cleanEdges := 0 })
  else .next s

/-- SSI_FRAME_START (R132, R133): the encoder latches its position at the first falling clock edge. -/
def execSsiFrameStart (f : ChanN) (s : State) : Outcome State Fault Refusal :=
  if s.fbTypeOf f == 4 || s.fbTypeOf f == 5 then
    .next (s.modChan f fun c => { c with frame := some s.ref.time })
  else .next s

/-- A bit list, most significant first, as a number. -/
def bitsVal (bs : List Bool) : Nat := bs.foldl (fun n b => 2 * n + b.toNat) 0

/-- The CRC of R134 over bits, most significant first. -/
def ssiCrc (width poly init : Nat) (bs : List Bool) : Nat :=
  bs.foldl (fun crc b =>
    let top := crc / 2 ^ (width - 1) % 2 == 1
    let sh := crc * 2 % 2 ^ width
    if top != b then Nat.xor sh poly else sh) init

/-- A serial word against the conditions of R135 but the step: CRC, error bit, idle levels. Answers the word. -/
def State.ssiWord (s : State) (f : ChanN) (bits : List Bool) (idleBefore idleAfter : Bool) : Option Nat :=
  let np := s.cfgN (O.ssiPosBits f)
  let err := s.cfgN (O.ssiErrBit f)
  let ne := if err == 0 then 0 else 1
  let nc := s.cfgN (O.ssiCrcBits f)
  let poly := s.cfgN (O.ssiCrcPoly f)
  let body := bits.take (np + ne)
  let crc := ssiCrc nc (poly % 0x10000) (s.cfgN (O.ssiCrcInit f)) body
  let crc := if poly / 0x10000 % 2 == 1 then Nat.xor crc (2 ^ nc - 1) else crc
  let errBit := (bits.drop np).headD false
  let ok := bits.length == np + ne + nc && idleBefore && idleAfter
    && (nc == 0 || bitsVal (bits.drop (np + ne)) == crc)
    && (err == 0 || errBit == (err == 2))
  if ok then some (bitsVal (bits.take np)) else none

/-- Step between serial words of a range, in (−range/2, range/2] (R136). -/
def wordStep (range : Nat) (w prev : Nat) : Int :=
  let d := ((w : Int) - prev).fmod range
  if range < 2 * d then d - range else d

/-- A good word (R136, R137): it sets the counter the first time; then a type 4 word moves it by its step and a type 5
word is an index on the counter as it stood when the word was latched: the counts whose timestamps lie before that tick.
DESIGN CHOICE, log entry 150. While a type 5 channel has an open line no word sets the counter (R150). -/
def State.ssiGood (s : State) (f : ChanN) (w t0 : Nat) : State :=
  let c := s.channels[f]
  let range := 2 ^ s.cfgN (O.ssiPosBits f)
  let sgn := dirSign (s.fbInverted f)
  let s := s.modChan f fun c => { c with
    frame := none, word := some w, badRun := 0, goodRun := min (c.goodRun + 1) 3, extrapolated := false
    state := if c.state == .starting then .valid else c.state }
  match c.word with
  | none =>
    let p := wrap32 (sgn * w)
    if s.fbTypeOf f == 5 && c.latched.contains .lineOpen then s.modChan f fun c => { c with word := none }
    else (s.modChan f fun c => { c with
      position := p, extreme := p, lastGood := p, lastGoodAt := t0, shown := p, referenced := true }).cmpResync f
  | some prev =>
    if s.fbTypeOf f == 4 then
      let s := s.fbMove f (sgn * wordStep range w prev) t0
      s.modChan f fun c => { c with lastGood := c.position, lastGoodAt := t0 }
    else
      let after := (c.counts.filter fun p => t0 ≤ p.1).foldl (fun q p => q + p.2) 0
      s.fbWord f (c.position - after.floor) (sgn * w) range

/-- A bad word (R135). -/
def State.ssiBad (s : State) (f : ChanN) : State :=
  let s := (s.count (O.ssiBadCount f)).modChan f fun c => { c with
    frame := none, goodRun := 0, badRun := c.badRun + 1, extrapolated := true }
  if s.cfgN (O.ssiBadMax f) < s.channels[f].badRun then s.fbFault f .ssiWord else s

/-- SSI_FRAME_COMPLETE (R134 to R137). -/
def execSsiFrameComplete (f : ChanN) (bits : List Bool) (idleBefore idleAfter : Bool) (s : State) :
    Outcome State Fault Refusal :=
  let c := s.channels[f]
  match c.frame with
  | none => .next s
  | some t0 =>
    let range := 2 ^ s.cfgN (O.ssiPosBits f)
    match s.ssiWord f bits idleBefore idleAfter with
    | none => .next (s.ssiBad f)
    | some w =>
      let far := c.word.any fun prev => range < 4 * (wordStep range w prev).natAbs
      .next (if far then s.ssiBad f else s.ssiGood f w t0)

/-- AMPLITUDE (R140): ten consecutive analog samples lie outside the window. -/
def execAmplitude (f : ChanN) (s : State) : Outcome State Fault Refusal :=
  if s.fbTypeOf f == 6 || s.fbTypeOf f == 7 then
    .next ((s.modChan f fun c => { c with referenced := false }).fbFault f .amplitude)
  else .next s

/-- EXC_OVERLOAD (R139): the output is switched off for 10 ms. DEDUCED, log entry 32. -/
def execExcOverload (e : ExcN) (s : State) : Outcome State Fault Refusal :=
  .next ({ s with excOff := s.excOff.set e true }.event 0x320E e)

/-- EXC_RETRY (R139): the 10 ms have passed. -/
def execExcRetry (e : ExcN) (s : State) : Outcome State Fault Refusal :=
  .next { s with excOff := s.excOff.set e false }

/-- The pairs a type uses (Table 4.1). -/
def usedPairs : Nat → List Pair
  | 1 | 2 => [.a, .b, .z]
  | 3 => [.a, .b]
  | 4 => [.d]
  | 5 => [.a, .b, .d]
  | 6 => [.sin, .cos]
  | 7 => [.sin, .cos, .z]
  | _ => []

/-- LINE_OPEN (R149, R150): a used pair stays below 200 mV for 10 µs. -/
def execLineOpen (f : ChanN) (pair : Pair) (s : State) : Outcome State Fault Refusal :=
  let t := s.fbTypeOf f
  if !(usedPairs t).contains pair then .next s
  else
    let s := s.modChan f fun c => { c with
      openPairs := if c.openPairs.contains pair then c.openPairs else pair :: c.openPairs
      referenced := c.referenced && (t == 4 || t == 6 || t == 7)
      word := none }
    .next (s.fbFault f .lineOpen)

/-- FB_FAULT_CLEAR (R150, R151): the clearing condition of Table 4.3 holds. -/
def execFbFaultClear (f : ChanN) (fault : FbFault) (s : State) : Outcome State Fault Refusal :=
  let c := s.channels[f]
  if !c.latched.contains fault then .next s
  else match fault with
    | .glitchBurst =>
      if c.glitches.all fun t => 10 * ticksPerMs ≤ s.ref.time - t then .next (s.fbClear f fault) else .next s
    | .ssiWord => if 3 ≤ c.goodRun then .next (s.fbClear f fault) else .next s
    | .amplitude =>
      let s := s.fbClear f fault
      if s.fbTypeOf f == 6 && s.cfgN (O.anPeriods f) == 1 then
        .next (s.modChan f fun c => { c with referenced := true })
      else .next s
    | .lineOpen =>
      let s := (s.modChan f fun c => { c with openPairs := [] }).fbClear f fault
      -- the state present on a Hall channel's lines is its first valid state
      if s.fbTypeOf f == 2 && (hallPlace c.a c.b c.z).isSome then
        .next (s.modChan f fun c => { c with referenced := true })
      else .next s
    | .quadError | .hallInvalid | .indexMismatch | .snapshotFailed => .next (s.fbClear f fault)

/-- A write of FB_TYPE, FB_INVERT or COUNTS_PER_REV in force: the channel restarts (R118). -/
def State.fbSetAndRestart (s : State) (f : ChanN) (a : Nat) (v : Int) : Acted :=
  (((s.setObj a v).fbRestart f).cmpInvalidate).done

/-- FB_CHANNEL_RESTART (R118). -/
def execFbChannelRestart (src : Src) (f : ChanN) (obj : FbRestart) (v : Int) (s : State) :
    Outcome State Fault Refusal :=
  let a := restartObject f obj
  .next (s.writeRow src a v fun s => s.fbSetAndRestart f a v)

/-- FB_CHANNEL_VALID (R122): the first good word has come, or the tracking loop has settled. -/
def execFbChannelValid (f : ChanN) (s : State) : Outcome State Fault Refusal :=
  let c := s.channels[f]
  let t := s.fbTypeOf f
  if c.state == .starting && c.latched.isEmpty && (t == 1 || t == 2 || t == 3 || t == 6 || t == 7 || c.word.isSome)
      && t != 0 then
    .next (s.modChan f fun c => { c with state := .valid
                                         referenced := c.referenced || (t == 6 && s.cfgN (O.anPeriods f) == 1) })
  else .next s

/-- FB_REINSTATE (R153). -/
def State.fbReinstate (s : State) (f : ChanN) : Acted :=
  if s.channels[f].state == .retired && (s.readers f).all s.isDisabled then
    let s := (s.modChan f fun c => { c with state := .starting, faults := [], retireLatch := false }).fbRestart f
    (s.event 0x300B f).done
  else s.lock

/-- FB_REINSTATE: a write of FB_REINSTATE. -/
def execFbReinstate (src : Src) (f : ChanN) (v : Int) (s : State) : Outcome State Fault Refusal :=
  .next (s.writeRow src (O.fbReinstate f) v fun s => s.fbReinstate f)

/-- INDEX_ARM (R141): a mode-2 channel is armed for the first index after the write; in another mode the write is answered OK and
arms nothing. DESIGN CHOICE, log entry 152. -/
def State.indexArm (s : State) (f : ChanN) : Acted :=
  if s.cfgN (O.indexMode f) == 2 then
    (s.modChan f fun c => { c with armed := true, armedAt := s.ref.time }).done
  else s.done

/-- INDEX_ARM: a write of INDEX_ARM. -/
def execIndexArm (src : Src) (f : ChanN) (v : Int) (s : State) : Outcome State Fault Refusal :=
  .next (s.writeRow src (O.indexArm f) v fun s => s.indexArm f)

/-- PT_SOURCE in force (R148): the outputs follow the new source; 255 switches them off. -/
def State.ptSource (s : State) (p : PtN) (v : Int) : Acted :=
  let s := s.setObj (O.ptSource p) v
  if h : v.toNat < 48 ∧ s.runs Dom.feed = true then
    let c := s.channels[v.toNat]'(h.1)
    (s.ptDrive p c.a c.b c.z).done
  else ({ s with passes := s.passes.set p {} }).done

/-- PT_SOURCE_CHANGE (R148). -/
def execPtSourceChange (src : Src) (p : PtN) (v : Int) (s : State) : Outcome State Fault Refusal :=
  .next (s.writeRow src (O.ptSource p) v fun s => s.ptSource p v)

/-! ### Speed and snapshots (R120, R145 to R147, R150) -/

/-- Counts since a tick, as the window method sums them. -/
def countsSince (cs : List (Nat × Rat)) (t0 : Nat) : List (Nat × Rat) := cs.filter fun c => t0 < c.1

/-- The hold rule: the previous speed, of magnitude at most one count per time since the last count (R145). -/
def holdSpeed (v : Rat) (since : Nat) : Rat :=
  if since = 0 then v else clampQ ((ticksPerS : Rat) / since) v

/-- The window speed of a channel at the present tick (R145). -/
def State.windowSpeed (s : State) (f : ChanN) (c : Channel) : Rat :=
  let w := s.cfgN (O.speedWindow f) * ticksPerUs
  let now := s.ref.time
  let inside := c.counts.filter fun p => now < p.1 + w
  if c.standstill then 0
  else if inside.isEmpty then holdSpeed c.speed (now - c.lastCount)
  else (inside.foldl (fun q p => q + p.2) 0) * ticksPerS / w

/-- Walk the count history back over `left` counts: how many are covered and the timestamp before them. -/
def periodSpan : List (Nat × Rat) → Nat → Rat → Option (Rat × Nat)
  | [], _, _ => none
  | [_], _, _ => none
  | (_, n) :: (t, m) :: cs, left, got =>
    let got := got + qabs n
    if (left : Rat) ≤ got then some (got, t)
    else match periodSpan ((t, m) :: cs) left got with
      | some r => some r
      | none => some (got, t)

/-- The period speed (R146): counts since the last direction change only; with fewer than two, the hold rule. -/
def State.periodSpeed (s : State) (f : ChanN) (c : Channel) : Rat :=
  let cs := c.counts.take c.sinceDir
  if c.standstill then 0
  else match cs, periodSpan cs (s.cfgN (O.periodEdges f)) 0 with
    | (t0, _) :: _, some (n, t) =>
      if t0 ≤ t then holdSpeed c.speed (s.ref.time - c.lastCount)
      else (dirSign c.reverse : Rat) * n * ticksPerS / ((t0 - t : Nat) : Rat)
    | _, _ => holdSpeed c.speed (s.ref.time - c.lastCount)

/-- The channel with its speed at a snapshot, and the change of method (R146, R147). -/
def State.fbSpeed (s : State) (f : ChanN) (c : Channel) : Channel :=
  let t := s.fbTypeOf f
  let vw := s.windowSpeed f c
  if f.val < 16 && (t == 1 || t == 2 || t == 3 || t == 5) then
    let sw : Rat := s.cfgN (O.speedSwitch f)
    let hy : Rat := s.cfgN (O.speedHyst f)
    let vp := s.periodSpeed f c
    let v := qabs (if c.period then vp else vw)
    let period : Bool :=
      if c.period then !(sw * (1 + hy / 100) < v) else v < sw * (1 - hy / 100)
    { c with period, speed := if period then vp else vw }
  else { c with period := false, speed := vw }

/-- The tracking loop of a type 6 or 7 channel has moved by whole counts and a fraction since its last snapshot (R138); its
value is negated where the channel is inverted (R119). -/
def State.fbTrack (s : State) (f : ChanN) (moved : Int) (fraction : Nat) : State :=
  let c := s.channels[f]
  let inv := s.fbInverted f
  let was : Int := if inv then (65536 - (c.frac : Int)) % 65536 else c.frac
  let d := moved * 65536 + (fraction % 65536 : Nat) - was
  let d := if inv then -d else d
  let at_ := c.frac + d
  let s := (s.fbTrace f ((d : Rat) / 65536) s.ref.time).fbMove f (at_.fdiv 65536) s.ref.time
  let n := at_.fdiv 65536
  let frac := (at_.fmod 65536).toNat
  let s := s.modChan f fun c => { c with frac }
  { s with beforeTick := s.beforeTick.set f (s.beforeTick[f].map fun p =>
    (p.1, { p.2 with position := wrap32 (p.2.position + n), frac, counts := s.channels[f].counts })) }

/-- Where the channel stands for a snapshot on the present tick, with its fraction (R120, R133, R138, R150): a type 4 word
advanced from its latch by the last speed; while a fault is latched or the last word was bad, the last good position advanced
by the last good speed. -/
def State.fbPlace (s : State) (f : ChanN) (c : Channel) : Rat :=
  let since : Rat := ((s.ref.time - c.lastGoodAt : Nat) : Rat) / ticksPerS
  if c.state != .valid || c.badRun != 0 then c.lastGood + c.goodSpeed * since
  else if s.fbTypeOf f == 4 then c.lastGood + c.speed * since
  else (c.position : Rat) + (c.frac : Rat) / 65536

/-- A snapshot of channel f for an axis (R120, R121): position and fraction, speed, flags, timestamp of the last accepted edge
and the checks of its words (R28). -/
def State.takeSnapshot (s : State) (f : ChanN) (x : SampleIn) : State × Snapshot :=
  let t := s.fbTypeOf f
  let s := if t == 6 || t == 7 then s.fbTrack f x.moved x.fraction else s
  let c := s.chanAtTick f
  let faulted : Bool := c.state != .valid
  let bridged : Bool := faulted || c.badRun != 0
  let q := s.fbPlace f c
  let step : Rat := if t == 4 && !bridged then wrapQ (q - c.shown) else 0
  let s := s.fbTrace f step s.ref.time
  let c := if step = 0 then c else { c with counts := s.channels[f].counts }
  let c := if bridged then c else s.fbSpeed f c
  let keep := fun (k : Channel) =>
    let k := { k with period := c.period, speed := c.speed, validLast := !faulted, extrapolated := bridged }
    if bridged then k
    else if t == 4 then { k with shown := q, goodSpeed := c.speed }
    else { k with lastGood := q, lastGoodAt := s.ref.time, goodSpeed := c.speed }
  let s := s.modChan f keep
  let x : Snapshot := {
    position := wrap32 q.floor, fraction := if t ≤ 3 then 0 else ((q - q.floor) * 65536).floor.toNat
    speed := c.speed, valid := !faulted, flags := s.fbStatusOf f (keep c), stamp := c.lastEdge }
  (s, { x with checks := x.sum })

end Sys2Proof.Machine
end

