-- ==== Sys2Proof/Machine/Loop.lean ====
section
/-! DEFINITION. The computations of the axis loop of PM and induction motors: frames and motor model, angle and speed, the
observer, torque into current, the limits, the current loop, the voltages and the edge sets (R58, R64, R100, R104, R108,
R160 to R178, R186). -/

namespace Sys2Proof.Machine

open Host

/-! ### Vectors -/

/-- A vector of the plane: α and β, or d and q. -/
abbrev Vec := Rat × Rat
/-- A quantity of the phases U, V and W. -/
abbrev Tri := Rat × Rat × Rat

/-- The part of a number of revolutions below a whole one. -/
def frac1 (x : Rat) : Rat := x - x.floor
/-- A difference of angles, from −½ up to ½ revolution. -/
def turnDiff (x : Rat) : Rat := frac1 (x + 1 / 2) - 1 / 2
/-- The amplitude-invariant Clarke transform. -/
def clarke (t : Tri) : Vec := ((2 * t.1 - t.2.1 - t.2.2) / 3, (t.2.1 - t.2.2) / Config.sqrt 3)
/-- The phase quantities of a vector, without zero sequence. -/
def phasesOf (v : Vec) : Tri :=
  let h := Config.sqrt 3 / 2 * v.2
  (v.1, h - v.1 / 2, -h - v.1 / 2)
/-- The Park transform into a frame at an angle in revolutions. -/
def park (θ : Rat) (v : Vec) : Vec :=
  (Config.cos θ * v.1 + Config.sin θ * v.2, Config.cos θ * v.2 - Config.sin θ * v.1)
/-- The inverse Park transform (R163). -/
def unpark (θ : Rat) (v : Vec) : Vec :=
  (Config.cos θ * v.1 - Config.sin θ * v.2, Config.sin θ * v.1 + Config.cos θ * v.2)
/-- The square of a magnitude. -/
def vecSq (v : Vec) : Rat := v.1 * v.1 + v.2 * v.2
/-- The angle of a vector. -/
def vecTurn (v : Vec) : Rat := Config.angle v.1 v.2
/-- A vector shortened in its own direction to a magnitude whose square is given (R164). -/
def vecWithin (v : Vec) (limSq : Rat) : Vec :=
  if limSq < vecSq v then
    let k := Config.sqrt (limSq / vecSq v)
    (k * v.1, k * v.2)
  else v
/-- The min-max zero-sequence voltage added (R164). -/
def centre (t : Tri) : Tri :=
  let z := -(max t.1 (max t.2.1 t.2.2) + min t.1 (min t.2.1 t.2.2)) / 2
  (t.1 + z, t.2.1 + z, t.2.2 + z)

/-! ### The motor and the state of the axis -/

/-- ψ from the nameplate, in Wb (R167). -/
def State.psiMagnet (s : State) (a : AxisN) : Rat :=
  s.cfgF (O.keNom a) * Config.sqrt (2 / 3) / ((10472 / 100) * s.cfgN (O.polePairs a))

/-- The motor of axis a (R167, R173): for type 1, LQ is taken equal to LD; an induction axis uses LSIGMA on both. -/
def State.motor (s : State) (a : AxisN) : Motor :=
  let ind : Bool := s.axisType a == 3
  let ld := (if ind then s.cfgF (O.lsigma a) else s.cfgF (O.ld a)) / 1000
  { induction := ind, poles := s.cfgN (O.polePairs a), cpr := s.countsRev a, rs := s.cfgF (O.rs a), ld
    lq := if s.axisType a == 2 then s.cfgF (O.lq a) / 1000 else ld
    psi := if ind then 0 else s.psiMagnet a
    lm := s.cfgF (O.lm a) / 1000, tauR := s.cfgF (O.tauR a) / 1000 }

/-- Electrical revolutions per count. -/
def Motor.turnsPerCount (m : Motor) : Rat := m.poles / m.cpr
/-- The torque of dq currents, with the rotor flux of an induction motor (R168, R173). -/
def Motor.torque (m : Motor) (psiR : Rat) (i : Vec) : Rat :=
  3 / 2 * m.poles * (if m.induction then psiR * i.2 else (m.psi + (m.ld - m.lq) * i.1) * i.2)
/-- The current after a time by the motor model: voltage, resistance, inductance and back-EMF (R100). `f` is the electrical
frequency in Hz. -/
def Motor.next (m : Motor) (f : Rat) (i v e : Vec) (dt : Rat) : Vec :=
  let w := 2 * Config.pi * f
  (Config.integrate i.1 ((v.1 - m.rs * i.1 + w * m.lq * i.2 - e.1) / m.ld) dt,
   Config.integrate i.2 ((v.2 - m.rs * i.2 - w * m.ld * i.1 - e.2) / m.lq) dt)

/-- The working state of the cycle executed last (R35). -/
def Field.loop (f : Field) : Loop := f.work[f.executed % 2]

/-- The axis runs under field control. -/
def State.driving (s : State) (a : AxisN) : Bool :=
  let f := (s.axis a).field
  f.state == .running || f.state == .stopping
/-- The gates of the axis switch under the current loop: field control outside a precharge, or the sweep of a flying start
(R190). -/
def State.fieldActive (s : State) (a : AxisN) : Bool :=
  let f := (s.axis a).field
  (s.driving a && !f.regain || f.catching.sweeping) && (s.axis a).reaction.gate == Reaction.normal
/-- |SPEED_EST|. -/
def State.absSpeed (s : State) (a : AxisN) : Rat := qabs (s.axis a).field.speed
/-- |speed| is at least OBS_MIN_SPEED. -/
def State.obsFast (s : State) (a : AxisN) : Bool := (s.cfgN (O.obsMinSpeed a) : Rat) ≤ s.absSpeed a

/-- The channel of axis a is VALID. -/
def State.axisChanValid (s : State) (a : AxisN) : Bool :=
  match s.channelOf a with
  | some f => s.chanValid f
  | none => false

/-! ### Applied voltages and the prediction (R100, R166) -/

/-- The edge set that governed the cycle that ends with the sample now used, before and after its update point: the same one
twice where that update point has not passed (R162). -/
def State.setsOfCycle (s : State) (a : AxisN) (L : Leg) : EdgeSet × EdgeSet :=
  let f := (s.axis a).field
  let c := f.cycles[(f.executed + 1) % 2]
  let before := if c.past || c.number + 1 != f.executed then L.last else L.active
  if s.cfgN (O.updateMode a) == 1 then (before, before) else (before, L.active)

/-- The voltage that an edge set applies at leg l, in V from the middle of the DC link: dropped intervals and the dead-time
compensation left out (R166). -/
def State.setVolts (s : State) (a : AxisN) (l : LegN) (e : EdgeSet) : Rat :=
  (s.appliedDuty a l e - e.comp - 1 / 2) * s.vdc a

/-- The applied-voltage estimate of the phases over the last cycle (R166): 0 while the gates do not switch.
DESIGN CHOICE, log entry 115. -/
def State.appliedVolts (s : State) (a : AxisN) : Tri :=
  if !s.fieldActive a then (0, 0, 0)
  else
    let volts := fun p => qmean ((s.phaseInService a p).map fun l =>
      let (b, n) := s.setsOfCycle a (s.leg l)
      (s.setVolts a l b + s.setVolts a l n) / 2)
    (volts 0, volts 1, volts 2)

/-- The phase currents predicted for a cycle from the last corrected current (R100). -/
def State.predictCurrents (s : State) (a : AxisN) (w : Loop) (dt : Rat) : Tri :=
  let m := s.motor a
  let f := (s.axis a).field
  let hz := f.speed * m.turnsPerCount
  let i := m.next hz w.idq (park w.theta (clarke (s.appliedVolts a))) (park w.theta f.obs.emf) dt
  phasesOf (unpark (w.theta + hz * dt) i)

/-! ### Angle and frequency (R160, R172, R173, R182, R192) -/

/-- Electrical angle of the channel's snapshot (R160). -/
def State.chanAngle (s : State) (a : AxisN) : Rat :=
  let x := (s.axis a).field.snapshot
  frac1 ((s.motor a).turnsPerCount * ((x.position : Rat) + (x.fraction : Rat) / 65536)
    + ((s.axis a).field.commOffset : Rat) / 65536)

/-- ω_sl in Hz (R173): LM·iq/(TAU_R·ψr)/2π. -/
def State.slipHz (s : State) (a : AxisN) (iq : Rat) : Rat :=
  let m := s.motor a
  m.lm * iq / (m.tauR * (s.axis a).field.psiR * 2 * Config.pi)

/-- The velocity of a set-point, in counts/s. -/
def SetPoint.speed (p : SetPoint) : Rat := (p.vel : Rat) * ticksPerS / (2 ^ 96 : Nat)
/-- The largest speed set-point: that of F_ELEC_MAX (R172). -/
def State.speedMax (s : State) (a : AxisN) : Rat := s.cfgF (O.fElecMax a) / (s.motor a).turnsPerCount
/-- The position error of a set-point against the snapshot of the cycle, in counts; 0 without a channel (R176). -/
def State.posError (s : State) (a : AxisN) (p : SetPoint) : Rat :=
  let x := (s.axis a).field.snapshot
  let pos : Rat := (p.pos : Rat) / (2 ^ 96 : Nat)
  if (s.channelOf a).isSome then wrapQ (pos - ((x.position : Rat) + (x.fraction : Rat) / 65536)) else 0
/-- The limit of the speed reference: that of F_ELEC_MAX (R172), and under an active SLS 0.95 × SLS_LIMIT, to which it comes down at
STOP_DECEL from the speed at the activation (R381). DEDUCED, log entry 42. -/
def State.speedLimit (s : State) (a : AxisN) : Rat :=
  match (s.axis a).safe.slsSince with
  | some t =>
    let braked : Rat := (s.axis a).safe.slsFrom - (s.cfgN (O.stopDecel a) : Rat) * ((s.safety.cyclesP - t : Nat) : Rat) / 2000
    min (s.speedMax a) (max (s.slsTop a) braked)
  | none => s.speedMax a

/-- The speed set-point that a loop follows (R172, R176): where it follows the position, 2π times the bandwidth times the position
error is added, outside STOPPING (R197). -/
def State.speedSet (s : State) (a : AxisN) (p : SetPoint) (position : Bool) (bw : Rat) : Rat :=
  let add := if position && (s.axis a).field.state != .stopping then 2 * Config.pi * bw * s.posError a p else 0
  clampQ (s.speedLimit a) (p.speed + add)
/-- The speed set-point of the axis's own speed loop (R176). -/
def State.setSpeed (s : State) (a : AxisN) (p : SetPoint) : Rat :=
  s.speedSet a p (s.cfgN (O.controlMode a) == 2) (s.cfgF (O.posBw a))

/-- Signed electrical frequency of the control frame, in Hz: that of the rotor, slip included on an induction axis, or of the
turning vector in current-frequency mode and in the sweep (R172, R173, R190, R192). -/
def State.frameHz (s : State) (a : AxisN) (sp : SetPoint) (iq : Rat) : Rat :=
  let f := (s.axis a).field
  let m := s.motor a
  if f.catching.sweeping then (if f.catching.sweepReverse then -f.catching.sweepHz else f.catching.sweepHz)
  else if f.angleSource == .currentFrequency && s.driving a then clampQ (s.speedLimit a) sp.speed * m.turnsPerCount
  else f.speed * m.turnsPerCount + (if m.induction then s.slipHz a iq else 0)

/-- The angle of the control frame in this cycle: of the channel, blended over 16 cycles after a takeback (R182); of the
rotor plus slip, corrected by the flux observer above OBS_MIN_SPEED (R173); of the observer; or of the turning vector
(R190, R192). DEDUCED, log entry 116. -/
def State.controlAngle (s : State) (a : AxisN) (w : Loop) (sp : SetPoint) (dt : Rat) : Rat :=
  let f := (s.axis a).field
  if f.catching.sweeping then f.catching.sweepAngle
  else match f.angleSource with
    | .rideThrough | .observer => frac1 f.obs.angle
    | .currentFrequency => frac1 (w.theta + s.frameHz a sp 0 * dt)
    | .channel =>
      let θ := s.chanAngle a
      if s.axisType a == 3 then (if f.obsHealthy then frac1 f.obs.angle else frac1 (θ + f.slipAngle))
      else frac1 (θ + turnDiff (f.obs.angle - θ) * f.blend / 16)

/-! ### Speed while the gates are held (R186) -/

/-- The speed of a vector that has turned through an angle, in counts/s. -/
def Motor.turnSpeed (m : Motor) (turns : Rat) (ticks : Nat) : Rat := turnDiff turns * ticksPerS / ticks / m.turnsPerCount

/-- The newest value of the phase-voltage input of a phase, where it delivers (R95, Table 5.9). -/
def State.phaseVolt (s : State) (a : AxisN) (role : Nat) : Option SdInput :=
  ((List.finRange 16).find? fun (i : SdN) =>
    s.cfgN (O.sdRole i) == role && s.cfgN (O.sdAxis i) == a.val && !s.sds[i].stale).map fun i => s.sds[i]
/-- The Clarke vector of the three phase voltages and its reference tick, where all three inputs deliver. -/
def State.voltVector (s : State) (a : AxisN) : Option (Nat × Vec) :=
  match s.phaseVolt a 2, s.phaseVolt a 3, s.phaseVolt a 4 with
  | some u, some v, some w => some (u.stamp.floor.toNat, clarke (u.value, v.value, w.value))
  | _, _, _ => none

/-- A vector is taken: its rotation since the last one gives the speed. -/
def Turning.take (t : Turning) (m : Motor) (v : Vec) (tick : Nat) : Turning × Option Rat :=
  ({ last := some (vecSq v, vecTurn v, tick) },
    match t.last with
    | some (_, θ, n) => if n < tick then some (m.turnSpeed (vecTurn v - θ) (tick - n)) else none
    | none => none)

/-- A cycle of diode conduction: a pulse's crest is the last vector before the magnitude falls, and two crests at most 10 ms
apart give the speed. DEDUCED, log entry 117. -/
def Turning.diode (t : Turning) (m : Motor) (floor : Rat) (v : Vec) (tick : Nat) : Turning × Option Rat :=
  let now : Option (Rat × Rat × Nat) := some (vecSq v, vecTurn v, tick)
  match t.last with
  | none => ({ t with last := now, rising := true }, none)
  | some (q, θ, n) =>
    if t.rising && vecSq v < q && floor ≤ q then
      ({ last := now, rising := false, crest := some (θ, n) },
        match t.crest with
        | some (φ, k) => if k < n && n - k ≤ 10 * ticksPerMs then some (m.turnSpeed (θ - φ) (n - k)) else none
        | none => none)
    else ({ t with last := now, rising := t.rising && vecSq v == q || q < vecSq v }, none)

/-- The estimates up to the first that is at least 50 µs old (R238). -/
def lastSpeeds (now : Nat) : List (Nat × Rat) → List (Nat × Rat)
  | [] => []
  | x :: xs => if x.1 + 20000 ≤ now then [x] else x :: lastSpeeds now xs

/-- The speed estimate of a cycle (R178, R186): under field control the channel while it supplies the angle, else the
observer; with the gates held, the first available source, and the last value without one. -/
def State.commitSpeed (s : State) (a : AxisN) : State :=
  let f := (s.axis a).field
  let m := s.motor a
  let i := clarke (s.axis a).saddle.phase
  let floor := s.cfgF (O.iRated a) / 50 * (s.cfgF (O.iRated a) / 50)
  let now := f.cycles[f.executed % 2].sampledAt
  let (t, v) : Turning × Option Rat :=
    if s.driving a then
      ({}, some (if f.angleSource == .channel && (s.channelOf a).isSome then f.snapshot.speed else f.obs.speed))
    else if s.axisChanValid a then ({}, some f.snapshot.speed)
    else if (s.axis a).reaction.gate.isAsc then
      if s.isPM a && floor ≤ vecSq i then f.turning.take m i now else ({}, none)
    else match s.voltVector a with
      | some (tick, u) => f.turning.take m u tick
      | none => f.turning.diode m floor i now
  s.modField a fun f => { f with
    turning := t, speed := v.getD f.speed
    speeds := lastSpeeds s.ref.time ((s.ref.time, v.getD f.speed) :: f.speeds) }

/-! ### The observer (R178, R179) -/

/-- The observer of a cycle, its innovation and the runs that R179 and R183 count: a predicted sample gives no innovation
(R178). DESIGN CHOICE, log entry 10. -/
def State.runObserver (s : State) (a : AxisN) (dt : Rat) : State :=
  let f := (s.axis a).field
  let d := (s.axis a).saddle
  let i := clarke d.phase
  let n := clarke f.obs.next
  let lim := s.cfgF (O.obsInnovMax a) * s.cfgF (O.iRated a)
  let hi : Bool := lim * lim < vecSq (i.1 - n.1, i.2 - n.2)
  let obs := Config.observer f.obs d.phase (s.appliedVolts a) (s.vdc a) (s.motor a) (s.cfgF (O.obsBw a)) dt
  s.modField a fun f =>
    let f := if d.predicted then f else { f with
      innovRun := if hi then min (f.innovRun + 1) 8 else 0
      innovGood := if f.obsLost && !hi then f.innovGood + 1 else 0 }
    { f with obs, obsLost := f.obsLost && f.innovGood < 64 }

/-- OBS_HEALTHY (R179). -/
def State.judgeObserver (s : State) (a : AxisN) : State :=
  s.modField a fun f => { f with obsHealthy := s.obsFast a && !f.obsLost }

/-! ### Torque, speed and position (R176, R177) -/

/-- The speed loop: the torque it asks for, and its integrator (R176, R177). DESIGN CHOICE, log entry 118. -/
def State.speedLoop (s : State) (a : AxisN) (w : Loop) (sp : SetPoint) (dt : Rat) : Rat × Rat :=
  let e := s.setSpeed a sp - (s.axis a).field.speed
  let bw := 2 * Config.pi * s.cfgF (O.speedBw a)
  let kp := s.cfgF (O.inertia a) * bw * 2 * Config.pi / s.countsRev a
  let int := Config.integrate w.speedInt (kp * bw / 4 * e) dt
  (kp * e + int, int)

/-- T* (R176, R197, R284): TORQUE_SET and the sharing term in torque mode, the loops' torque otherwise and in STOPPING; a
member that its group brings to rest keeps the sharing term; an isolated one stops within its own limit (R282). -/
def State.torqueWish (s : State) (a : AxisN) (loopTorque : Rat) : Rat :=
  let grouped : Bool := (s.slotOf a).isSome && match (s.axis a).member.role with
    | .leader | .follower | .rejoining => true
    | .none | .isolated | .outOfService => false
  if s.cfgN (O.controlMode a) == 0 && ((s.axis a).field.state != .stopping || grouped) then
    let share : Rat := match s.slotOf a with
      | some _ => (s.axis a).member.applied / s.cfgF (O.memberRatio a)
      | none => 0
    s.cfgF (O.torqueSet a) + share
  else
    let m := (s.axis a).member
    if (s.slotOf a).isSome && m.role == .isolated then
      clampQ ((m.isoShare : Rat) / 32768 * m.isoCap / s.cfgF (O.memberRatio a)) loopTorque
    else loopTorque

/-- T* under an active SLS (R381): a member in CONTROL_MODE 0 gives no torque in a direction that would drive it past
0.95 × SLS_LIMIT. DEDUCED, log entry 42. -/
def State.torqueDemand (s : State) (a : AxisN) (loopTorque : Rat) : Rat :=
  let t := s.torqueWish a loopTorque
  let v := (s.axis a).field.speed
  let past : Bool := decide (s.slsTop a ≤ qabs v) && decide (0 < t * v)
  if (s.axis a).safe.slsSince.isSome && (s.slotOf a).isSome && s.cfgN (O.controlMode a) == 0 && past then 0 else t

/-! ### Torque into current (R168, R174) -/

/-- The square of a type 2 motor's torque on the R168 curve, by x = −id: there is² = 2x² + xψ/ΔL. -/
def Motor.curveSq (m : Motor) (x : Rat) : Rat :=
  let dL := m.lq - m.ld
  let k := 3 / 2 * m.poles * (m.psi + dL * x)
  k * k * (x * x + m.psi * x / dL)
/-- Halve the range that holds the least x whose torque reaches a value. -/
def Motor.halve (m : Motor) (tSq : Rat) : Nat → Rat → Rat → Rat
  | 0, _, hi => hi
  | n + 1, lo, hi =>
    let x := (lo + hi) / 2
    if tSq ≤ m.curveSq x then m.halve tSq n lo x else m.halve tSq n x hi
/-- −id of the smallest current that gives a torque on a type 2 motor, within 0.5 % (R168). -/
def Motor.leastId (m : Motor) (T : Rat) : Rat := m.halve (T * T) 40 0 (qabs T / (3 / 2 * m.poles * m.psi))

/-- The references before any limit (R168, R174): id*, iq*. -/
def State.baseCurrents (s : State) (a : AxisN) (T : Rat) : Vec :=
  let m := s.motor a
  let k : Rat := 3 / 2 * m.poles
  match s.axisType a with
  | 1 => (0, T / (k * m.psi))
  | 2 =>
    let x := m.leastId T
    (-x, qsign T * Config.sqrt (x * x + m.psi * x / (m.lq - m.ld)))
  | _ => (s.cfgF (O.idMag a), T / (k * (s.axis a).field.psiR))

/-- The references of the largest torque under a current limit (R168, R170): id before field weakening, and |iq|.
DEDUCED, log entry 27. -/
def State.largestCurrents (s : State) (a : AxisN) (lim : Rat) : Vec :=
  let m := s.motor a
  match s.axisType a with
  | 1 => (0, lim)
  | 2 =>
    let x := m.psi / (4 * (m.lq - m.ld))
    let id := x - Config.sqrt (x * x + lim * lim / 2)
    (id, Config.sqrt (lim * lim - id * id))
  | _ =>
    let id := s.cfgF (O.idMag a)
    (id, Config.sqrt (max 0 (lim * lim - id * id)))

/-! ### Limits (R164, R169 to R171) -/

/-- V_LIM² (R164): DEPTH_LIMIT is taken as 1,000 in FIXED mode. -/
def State.vLimSq (s : State) (a : AxisN) : Rat :=
  let m : Rat := if s.saddleMode a == .fixed then 1 else (s.depthLimit a : Rat) / 1000
  let v := m * s.vdc a
  v * v * (if s.cfgN (O.modMode a) == 0 then 1 / 4 else 1 / 3)

/-- The lowest d reference (R169, R174). -/
def State.idFloor (s : State) (a : AxisN) (base : Rat) : Rat :=
  if s.axisType a == 3 then base / 5 else min base (-s.cfgF (O.fwIdMax a))

/-- The voltage regulator of R169 and R174: what it takes from the d reference and, at the field limit, from |q|. It acts
while |v*| exceeds the threshold and gives back when the margin returns. DESIGN CHOICE, log entry 108. -/
def State.voltRegulator (s : State) (a : AxisN) (w : Loop) (base dt : Rat) : Rat × Rat :=
  let margin := (1 - (s.cfgN (O.fwMargin a) : Rat) / 100) * Config.sqrt (s.vLimSq a) - Config.sqrt (vecSq w.vdq)
  let next := fun last => Config.regulator last margin (s.cfgF (O.curBw a) / 10) dt
  let room := s.idFloor a base - base
  let cut := if margin < 0 then max room (min w.fieldCut (next w.fieldCut)) else min 0 (max w.fieldCut (next w.fieldCut))
  let q := -w.iqCut
  let qCut := if margin < 0 && cut ≤ room then min q (next q) else min 0 (max q (next q))
  (cut, -qCut)

/-- The current limit in force: I_LIM (R170), or HOME_TORQUE % of it in homing's stall phase (R263). -/
def State.currentLimit (s : State) (a : AxisN) : Rat :=
  let h := (s.axis a).home
  if h.torqueLimit then s.iLim a * h.cfg.torque / 100 else s.iLim a

/-- R170: id*, iq* within the limit, and whether iq* is reduced. -/
def limitCurrent (lim id iq : Rat) : Rat × Rat × Bool :=
  if lim < qabs id then (if id < 0 then -lim else lim, 0, decide (iq ≠ 0))
  else if iq * iq ≤ lim * lim - id * id then (id, iq, false)
  else (id, qsign iq * Config.sqrt (lim * lim - id * id), true)

/-- The power the axis may draw, W (R171, R293); none = its acting grant does not limit it, or answers no demand of its present
state. -/
def State.drawLimit (s : State) (a : AxisN) : Option Rat :=
  let r := (s.axis a).field.grant
  if (s.axis a).field.state == .stopping || r.reason == .notRequesting || r.sampledAt < (s.axis a).field.stateAt then none
  else match r.code with
    | .full | .scaled => some r.power
    | .deferred | .refused => some 0

/-- The part of the torque that the grant and REGEN_LIMIT leave (R171), at the voltages of the last cycle. -/
def State.powerPart (s : State) (a : AxisN) (v : Vec) (id iq : Rat) : Rat :=
  let p0 := 3 / 2 * v.1 * id
  let p1 := 3 / 2 * v.2 * iq
  let up : Rat := match s.drawLimit a with
    | some g => if 0 < p1 && g < p0 + p1 then (g - p0) / p1 else 1
    | none => 1
  let r := s.cfgF (O.regenLimit a)
  let down : Rat := if p1 < 0 && p0 + p1 < -r then (-r - p0) / p1 else 1
  max 0 (min 1 (min up down))

/-! ### The current references (R168 to R175, R191, R192, R194) -/

/-- The working current references of a cycle, and the flags that say which limits act. -/
structure Refs where
  id : Rat := 0
  iq : Rat := 0
  weak : Bool := false
  volt : Bool := false
  cur : Bool := false
  power : Bool := false
  /-- what the voltage regulator holds after the cycle -/
  cut : Rat × Rat := (0, 0)
  deriving DecidableEq, Repr

/-- The references of a cycle under field control, or of the sweep (R168 to R175, R190, R192, R194): while an axis brakes to
the catch limit, its torque is the largest that the limits allow. DEDUCED, log entries 27 and 28. -/
def State.references (s : State) (a : AxisN) (w : Loop) (T dt : Rat) : Refs :=
  let f := (s.axis a).field
  let lim := s.currentLimit a
  let braking : Bool := f.catching.phase == .braking
  let (base, iqT) : Vec := if braking then
      let i := s.largestCurrents a lim
      (i.1, -qsign f.speed * i.2)
    else s.baseCurrents a T
  let (cut, qCut) := s.voltRegulator a w base dt
  if f.catching.sweeping then { id := min (s.cfgF (O.searchCurrent a)) lim }
  else if f.catching.phase == .magnetising then
    let (id, iq, _) := limitCurrent lim (base + cut) 0
    { id, iq, weak := decide (cut < 0), cut := (cut, 0) }
  else if f.angleSource == .currentFrequency && !braking then
    let want := if s.axisType a == 3 then s.cfgF (O.idMag a) else s.cfgF (O.ifCurrent a)
    { id := 0, iq := min want lim, cur := decide (lim < want) }
  else
    let less := qsign iqT * max 0 (qabs iqT - qCut)
    let (id, iq, limited) := limitCurrent lim (base + cut) less
    let part := s.powerPart a (vecWithin w.vdq (s.vLimSq a)) id iq
    { id, iq := iq * part, weak := decide (cut < 0), volt := decide (0 < qCut), cur := limited || braking
      power := decide (part < 1), cut := (cut, qCut) }

/-- R191: the references ramp from the measured currents at CUR_BW. DESIGN CHOICE, log entry 108. -/
def State.rampRefs (s : State) (a : AxisN) (w : Loop) (id iq dt : Rat) : Vec × Option Vec :=
  match w.ramp with
  | none => ((id, iq), none)
  | some r =>
    let bw := s.cfgF (O.curBw a)
    let v : Vec := (Config.ramp r.1 id bw dt, Config.ramp r.2 iq bw dt)
    (v, if v == (id, iq) then none else some v)

/-! ### The current loop (R163, R164, R167) -/

/-- PI control with decoupling in the rotor frame: the voltage references before V_LIM, and the integrators, which hold while
the vector is shortened to it (R164, R167). `hz` is the frequency of the frame, `psi` the flux linkage.
DEDUCED, log entry 119. -/
def State.currentLoop (s : State) (a : AxisN) (w : Loop) (ref i : Vec) (hz psi dt : Rat) : Vec × Vec :=
  let m := s.motor a
  let bw := 2 * Config.pi * s.cfgF (O.curBw a)
  let om := 2 * Config.pi * hz
  let e : Vec := (ref.1 - i.1, ref.2 - i.2)
  let int : Vec := (Config.integrate w.vInt.1 (bw * m.rs * e.1) dt, Config.integrate w.vInt.2 (bw * m.rs * e.2) dt)
  let v : Vec := (bw * m.ld * e.1 + int.1 - om * m.lq * i.2, bw * m.lq * e.2 + int.2 + om * (m.ld * i.1 + psi))
  (v, if s.vLimSq a < vecSq v then w.vInt else int)

/-- Seconds from the sample instant of the cycle to the middle of the interval that its edge set governs (R162, R163). -/
def State.midDelay (s : State) (a : AxisN) (c : Cycle) : Rat :=
  let t : Rat := s.carrierTicks a
  ((if s.cfgN (O.updateMode a) == 1 then 3 / 4 * t else t) - c.offset) / ticksPerS

/-! ### The edge sets (R58, R64, R104, R164, R166) -/

/-- Largest magnitude of a triple. -/
def peak (t : Tri) : Rat := max (qabs t.1) (max (qabs t.2.1) (qabs t.2.2))
/-- sign_b of R166. -/
def signBand (band i : Rat) : Rat := if band = 0 then qsign i else clampQ 1 (i / band)

/-- The dead-time compensation of leg l's duty (R166). -/
def State.deadComp (s : State) (a : AxisN) (l : LegN) : Rat :=
  signBand (s.cfgF (O.dtCompBand a)) (phaseOfTriple (s.axis a).saddle.phase (s.phaseOf a l))
    * ((s.deadtimeEff l : Rat) * (5 / 32)) / s.periodNs a
/-- The compensation of a phase: the mean of its legs'. -/
def State.phaseComp (s : State) (a : AxisN) (p : Nat) : Rat :=
  qmean (((s.legsOf a).filter fun l => s.phaseOf a l == p).map (s.deadComp a))
/-- A triple by phases. -/
def triOf (f : Nat → Rat) : Tri := (f 0, f 1, f 2)

/-- The phase voltages of a reference vector, with zero sequence as MOD_MODE asks (R164). -/
def State.modulate (s : State) (a : AxisN) (v : Vec) : Tri :=
  if s.cfgN (O.modMode a) == 0 then phasesOf v else centre (phasesOf v)

/-- Depth of phase voltages, dead-time compensation included, per mille (R104). -/
def State.depthOf (s : State) (a : AxisN) (u : Tri) : Rat :=
  1000 * 2 * peak (triOf fun p => phaseOfTriple u p / s.vdc a + s.phaseComp a p)

/-- The largest factor at most 1 by which phase voltages may be scaled so that no phase passes a depth, its compensation
included (R104). -/
def State.depthScale (s : State) (a : AxisN) (u : Tri) (depth : Rat) : Rat :=
  (List.range 3).foldl (fun k p =>
    let x := phaseOfTriple u p / s.vdc a
    let c := s.phaseComp a p
    if 0 < x then min k (max 0 ((depth / 2 - c) / x))
    else if x < 0 then min k (max 0 ((depth / 2 + c) / -x))
    else k) 1

/-- The duties of the phases, without compensation, for a reference vector in the plane and the volts of dropped intervals, which
go to the phases they were dropped in (R104, R164, R166): the sum within V_LIM, and in SEARCH and LIMITED mode within DEPTH_LIMIT.
Common-mode injection centres the sum, zero sequence and all. -/
def State.phaseDuties (s : State) (a : AxisN) (v : Vec) (carry : Tri) : Tri :=
  let c := clarke carry
  let zero : Rat := if s.cfgN (O.modMode a) == 0 then (carry.1 + carry.2.1 + carry.2.2) / 3 else 0
  let w := s.modulate a (vecWithin (v.1 + c.1, v.2 + c.2) (s.vLimSq a))
  let u := triOf fun p => phaseOfTriple w p + zero
  let k := if s.saddleMode a == .fixed then 1 else s.depthScale a u ((s.depthLimit a : Rat) / 1000)
  triOf fun p => 1 / 2 + k * phaseOfTriple u p / s.vdc a

/-- The duty of leg l before its trim, within the depth limit (R104, R166). -/
def State.legDuty (s : State) (a : AxisN) (d : Tri) (l : LegN) : Rat :=
  let m : Rat := if s.saddleMode a == .fixed then 1 else (s.depthLimit a : Rat) / 1000
  1 / 2 + clampQ (m / 2) (phaseOfTriple d (s.phaseOf a l) + s.deadComp a l - 1 / 2)

/-- An edge set with a refresh pulse stands in the carrier period that this commit completes (R64): in double update the
commit before it was for the same period. -/
def State.refreshedHalf (s : State) (a : AxisN) (l : LegN) (k : Nat) : Bool :=
  let e := (s.leg l).shadow[(k + 1) % 2]
  s.cfgN (O.updateMode a) == 1 && !(s.axis a).field.cycles[k % 2].peak && e.cycle + 1 == k && e.refresh

/-- A refresh pulse is inserted (R64): VBS_WARN is set, the commanded low-side conduction is shorter than 1.2 µs, the
leg's next off interval ends in the interval of the commit, and none was made in this period. DEDUCED, log entry 24. -/
def State.refreshDue (s : State) (a : AxisN) (l : LegN) (k : Nat) (e : EdgeSet) : Bool :=
  let (x, len) := s.updatePhase a (s.axis a).field.cycles[k % 2].peak
  (s.leg l).vbsWarn && !s.refreshedHalf a l k && s.refreshFits a l e x len &&
    decide ((1 - s.setDuty a l e) * s.periodNs a - ((s.deadtimeEff l : Rat) * (5 / 32)) < 1200)

/-- A leg that the crest writes with a commit: one in service, recharging or latched. -/
def Leg.written (L : Leg) : Bool :=
  match L.state with
  | .inService | .latched | .recharging => true
  | .off | .retired | .notAssigned => false

/-- The edge set of leg l for cycle k (R51, R64, R109, R166), with the check of its commit word (R28). -/
def State.edgeSet (s : State) (a : AxisN) (d : Tri) (k : Nat) (l : LegN) : EdgeSet :=
  let duty := s.legDuty a d l
  let e : EdgeSet := { cycle := k, duty, trim := s.inputs[l].trim, comp := s.deadComp a l }
  let e := { e with refresh := s.refreshDue a l k e }
  let word := s.commitWord a l e
  { e with word, check := checkOf word }

/-- The volts of a phase that its legs drop under an edge set (R58, R166). -/
def State.droppedVolts (s : State) (a : AxisN) (k p : Nat) : Rat :=
  qmean ((s.phaseInService a p).map fun l =>
    let e := (s.leg l).shadow[k % 2]
    (max 0 (min 1 (s.setDuty a l e)) - s.appliedDuty a l e) * s.vdc a)

/-- The shadow registers of the legs that acknowledge are written, then the commit flag is set (R36, R37). A stepper's
commit has no edges. -/
def State.writeShadows (s : State) (a : AxisN) (k : Nat) (d : Tri) : State :=
  let stepper := s.isStepper a
  let s := s.modLegs (s.legsOf a) fun l L =>
    if L.written && !L.silent then
      { L with shadow := L.shadow.set (k % 2) (if stepper then { cycle := k, check := checkOf 0 } else s.edgeSet a d k l) }
    else L
  let s := s.modLegs (s.legsOf a) fun _ L => { L with silent := false }
  s.modField a fun f =>
    { f with cycles := f.cycles.set (k % 2) { f.cycles[k % 2] with committed := some s.ref.time } }

/-! ### Depth readings (R108) -/

/-- The largest root of q·x² + 2·h·x + c = 0, 0 where there is none. -/
def topRoot (q h c : Rat) : Rat :=
  if q = 0 || h * h < q * c then 0 else max 0 ((Config.sqrt (h * h - q * c) - h) / q)

/-- The q current of a torque at a d current, and the flux that meets it (R168, R174). -/
def Motor.iqFor (m : Motor) (T id psi : Rat) : Rat :=
  T / (3 / 2 * m.poles * (if m.induction then psi else psi + (m.ld - m.lq) * id))

/-- The electrical speed in rad/s at which the steady voltage of dq currents meets a limit; 0 where it already exceeds it at
standstill. -/
def Motor.speedFor (m : Motor) (psi : Rat) (i : Vec) (v : Rat) : Rat :=
  let x := m.lq * i.2
  let y := m.ld * i.1 + psi
  topRoot (x * x + y * y) (m.rs * (y * i.2 - x * i.1)) (m.rs * m.rs * vecSq i - v * v)

/-- The largest q current whose steady voltage meets a limit at an electrical speed in rad/s. -/
def Motor.iqAt (m : Motor) (psi om id v : Rat) : Rat :=
  let y := om * (m.ld * id + psi)
  topRoot (om * om * m.lq * m.lq + m.rs * m.rs) (m.rs * (y - om * m.lq * id))
    (m.rs * m.rs * id * id + y * y - v * v)

/-- The field at the limit of R169 or R174: the d current and the flux linkage. -/
def State.fieldEnd (s : State) (a : AxisN) : Vec :=
  let m := s.motor a
  let base := (s.baseCurrents a (s.axis a).field.torque).1
  let id := max (-s.iLim a) (s.idFloor a base)
  (id, if m.induction then m.lm * id else m.psi)

/-- The voltage threshold of R169 with and without the depth limit. -/
def State.voltEnd (s : State) (a : AxisN) (limited : Bool) : Rat :=
  let m : Rat := if limited then (s.depthLimit a : Rat) / 1000 else 1
  (1 - (s.cfgN (O.fwMargin a) : Rat) / 100) * m * s.vdc a * (if s.cfgN (O.modMode a) == 0 then 1 / 2 else 1 / Config.sqrt 3)

/-- The voltage-limited speed at the present torque, counts/s, by the law of R169: with the field at its limit the steady
voltage meets the threshold. DEDUCED, log entry 120. -/
def State.voltageSpeed (s : State) (a : AxisN) (limited : Bool) : Rat :=
  let m := s.motor a
  let (id, psi) := s.fieldEnd a
  let iq := m.iqFor (qabs (s.axis a).field.torque) id psi
  let om := m.speedFor psi (id, iq) (s.voltEnd a limited)
  let slip := if m.induction then m.lm * iq / (m.tauR * psi) else 0
  max 0 (om - slip) / (2 * Config.pi) / m.turnsPerCount

/-- The largest torque that the voltage and I_LIM allow at the present speed. DEDUCED, log entry 120. -/
def State.voltageTorque (s : State) (a : AxisN) (limited : Bool) : Rat :=
  let m := s.motor a
  let (id, psi) := s.fieldEnd a
  let lim := s.iLim a
  let iq := m.iqAt psi (2 * Config.pi * s.absSpeed a * m.turnsPerCount) id (s.voltEnd a limited)
  m.torque psi (id, min iq (Config.sqrt (max 0 (lim * lim - id * id))))

/-- DEPTH_READINGS_UPDATE (R108): the 1 ms update of the depth readings. -/
def execDepthReadingsUpdate (a : AxisN) (s : State) : Outcome State Fault Refusal :=
  if s.axisType a == 0 || s.isStepper a || (s.axis a).field.unplaced then .next s
  else
    let d := (s.axis a).saddle.depth
    let whole := fun (q : Rat) => max 0 (min 0xFFFFFFFF (wholeOf q))
    let cost := max 0 (s.voltageTorque a false - s.voltageTorque a true)
    let s := ((s.setObj (O.depthDemand a) (wholeOf (min d 1000))).setObj (O.speedUnlimited a)
      (whole (s.voltageSpeed a false))).setObj (O.speedAtLimit a) (whole (s.voltageSpeed a true))
    let s := s.modSaddle a fun x => { x with torqueCost := cost }
    if d ≤ s.depthLimit a then
      .next (s.modSaddle a fun x => { x with depthBelow := some (x.depthBelow.getD s.ref.time) })
    else
      let long : Bool := match (s.axis a).saddle.depthBelow with
        | some t => ticksPerS ≤ s.ref.time - t
        | none => false
      let s := s.modSaddle a fun x => { x with depthBelow := none }
      .next (if long && s.saddleMode a != .fixed then s.event 0x2005 a else s)

end Sys2Proof.Machine
end

