-- ==== Sys2Proof/Machine/Field.lean ====
section
/-! DEFINITION. Field control of PM and induction axes: the axis states and commands, the flying start, the observer
and encoder rules, the induced-voltage check (05), and the end of a reaction (R83). -/

namespace Sys2Proof.Machine

open Host

/-! ### What holds an axis back -/

/-- The scope of a lock-out holds axis a (Table 11.4). -/
def State.scopeCovers (s : State) (x : LockScope) (a : AxisN) : Bool :=
  match x with
  | .input i => (s.safeCfgN (O.siAxes i)).testBit a
  | .output k => s.safeCfgN (O.sbcAxis k) == a.val
  | .axis b => b == a
  | .device => true
/-- A latched lock-out covers axis a (LOCKOUT_STATUS). -/
def State.lockedOut (s : State) (a : AxisN) : Bool := s.safety.lockouts.any fun x => s.scopeCovers x.scope a

/-- The motor is catchable (R185); a stepper always is (R217). -/
def State.catchable (s : State) (a : AxisN) : Bool :=
  s.isStepper a ||
    s.axisChanValid a || s.obsFast a || s.absSpeed a < (s.cfgN (O.stopSpeed a) : Rat)

/-- A START would be refused in any state: KE_LATCH (R188), an empty phase (R82), no crest (R80), a lock-out (R383),
an SS1 demand (R373). -/
def State.startBarred (s : State) (a : AxisN) : Bool :=
  let x := s.axis a
  x.field.keLatch || s.phaseEmpty a || x.field.unplaced || s.lockedOut a ||
    x.safe.p.ss1 || x.safe.p.ss1Run

/-! ### The flying start (R189 to R194) -/

/-- A start is accepted: the method is selected in the next cycle (Table 5.10). Its precharge and what follows it are a new
start-up period, unless the recovery after a reaction already runs (R85). -/
def State.startCatch (s : State) (a : AxisN) (intoStopping : Bool) : State :=
  let s := s.rejoinLegs a
  let s := if (s.axis a).field.recovering then s else s.newPeriod a
  s.modField a fun f => { f with catching := { running := true, intoStopping } }

/-- The held or ended reaction lets go of the gates: REACTION_STATUS is NORMAL. -/
def State.releaseReaction (s : State) (a : AxisN) : State :=
  s.modReact a fun r => { aboveAsc := r.aboveAsc, hasRun := r.hasRun }

/-- The channel's angle is known (R189). -/
def State.angleKnown (s : State) (f : ChanN) : Bool :=
  let t := s.cfgN (O.fbType f)
  t == 2 || t == 4 || t == 5 || (t == 6 && s.cfgN (O.anPeriods f) == 1) || s.channels[f].referenced

/-- The axis has a VALID channel, with its angle known on a PM axis (Table 5.9, R192). -/
def State.channelUsable (s : State) (a : AxisN) : Bool :=
  match s.channelOf a with
  | some f => s.chanValid f && (!s.isPM a || s.angleKnown f)
  | none => false

/-- All three phase-voltage inputs of the axis deliver (Table 5.9). -/
def State.phaseVolts (s : State) (a : AxisN) : Bool := [2, 3, 4].all fun role => (s.phaseVolt a role).isSome

/-- The method of Table 5.9. -/
def State.catchMethod (s : State) (a : AxisN) : CatchMethod :=
  if s.channelUsable a then .sensor
  else if !s.isPM a then .search
  else if s.phaseVolts a then .voltage
  else .pulse

/-- The measurement is complete (R190, R191): angle and speed are kept, as they hold at a reference tick; a due precharge
follows, or control EN rises at the next update point. A pulse or a sweep had its precharge before. -/
def State.catchMeasured (s : State) (a : AxisN) (angle speed : Rat) (at_ : Nat) : State :=
  let m := (s.axis a).field.catching.method
  let before : Bool := m == some .pulse || m == some .search
  let s := if before then s.gatesOff a else s
  let due : Bool := !before && s.prechargeDue a
  let s := s.modField a fun f => { f with
    speed
    catching := { f.catching with
      angle := frac1 angle, speed, angleAt := at_, sweeping := false
      phase := if due then .precharge else f.catching.phase, ready := !due } }
  if due then s.lowPulse a else s

/-- The sweep of SEARCH begins at F_ELEC_MAX, in the direction of the speed stored at the last stop (R190). -/
def State.startSweep (s : State) (a : AxisN) : State :=
  s.modField a fun f => { f with catching := { f.catching with
    phase := .measuring, sweeping := true, sweepHz := s.cfgF (O.fElecMax a), sweepAngle := 0
    sweepReverse := (f.storedSpeed.getD 0) < 0 } }

/-- The length of a pulse, in µs: CATCH_PULSE, and a due precharge is the first one (R191). -/
def State.pulseUs (s : State) (a : AxisN) (due : Bool) : Nat :=
  if due then max (s.cfgN O.bsPrecharge) (s.cfgN (O.catchPulse a)) else s.cfgN (O.catchPulse a)

/-- The first cycle after the start command: the reaction lets go, and the method is selected (R189, Table 5.10
step 1). A stepper goes through the precharge to its alignment (R217). -/
def State.catchSelect (s : State) (a : AxisN) : State :=
  let s := (s.releaseReaction a).gatesOff a
  let due := s.prechargeDue a
  if s.isStepper a then
    let s := s.modField a fun f => { f with catching := { f.catching with
      method := some .sensor, phase := .precharge, ready := !due } }
    if due then s.lowPulse a else s
  else
    let m := s.catchMethod a
    let f := (s.axis a).field
    let s := s.modField a fun f => { f with catching := { f.catching with
      angleAt := s.ref.time, method := some m, phase := if m == .pulse || (m == .search && due) then .precharge else .measuring } }
    match m with
    | .sensor => s.catchMeasured a (s.chanAngle a) f.snapshot.speed f.cycles[f.executed % 2].sampledAt
    | .voltage => s
    | .pulse =>
      (s.modField a fun f => { f with catching := { f.catching with
        pulse := s.pulseUs a due, angleAt := s.ref.time } }).lowPulse a
    | .search => if due then s.lowPulse a else s.startSweep a

/-- The direction the command asks for: its sign (R194). -/
def State.commandSign (s : State) (a : AxisN) : Rat :=
  if s.cfgN (O.controlMode a) == 0 then s.cfgF (O.torqueSet a)
  else if s.velocityMode a then s.velocityOf a
  else diff32 (s.targetOf a) (s.axisPos a)

/-- The caught speed opposes the command above CATCH_LIMIT (R194). -/
def State.mustBrake (s : State) (a : AxisN) : Bool :=
  let v := (s.axis a).field.speed
  v * s.commandSign a < 0 && (s.cfgN (O.catchLimit a) : Rat) < qabs v

/-- The angle source of an axis that starts (R179, R192, Table 5.16). DEDUCED, log entry 29. -/
def State.startSource (s : State) (a : AxisN) : AngleSource :=
  if s.isStepper a || s.channelUsable a then .channel
  else if s.obsFast a && !(s.axis a).field.obsLost then .observer
  else .currentFrequency

/-- A group stop asked for by member a (R284): STOP_REQUEST, and on the leader the ramp of the group.
DEDUCED, log entry 42. -/
def State.groupStop (s : State) (a : AxisN) : State :=
  match s.slotOf a with
  | none => s
  | some g =>
    let s := s.modMember a fun m => { m with stopRequest := true }
    if (s.axis a).member.role == .leader then s.modSlot g fun x => { x with stopping := true } else s

/-- The start is complete: the planner takes over, or the axis brakes to the catch limit first (R194). A STOP given
during the catch stops from the caught state (R199), and a member of a group asks for the group stop then (R284). -/
def State.catchRelease (s : State) (a : AxisN) : State :=
  let c := (s.axis a).field.catching
  let stop : Bool := c.stopAfter || c.intoStopping
  if !s.isStepper a && !stop && s.mustBrake a then
    s.modField a fun f => { f with catching := { f.catching with phase := .braking } }
  else
    let s := s.handover a
    let s := s.modField a fun f => { f with catching := {} }
    if stop && (s.axis a).field.state == .running then
      (if c.stopAfter then s.groupStop a else s).enter a .stopping
    else s

/-- The working state with which the loops begin (R191, R192): the frame at the caught angle, advanced at the caught speed;
the measured currents as initial state, from which the references ramp; the integrators at the caught back-EMF. In
current-frequency mode the vector of the q axis then lies 90° ahead of the caught angle.
DEDUCED, log entries 28, 109 and 119. -/
def State.caughtLoop (s : State) (a : AxisN) : Loop :=
  let c := (s.axis a).field.catching
  let m := s.motor a
  let hz := c.speed * m.turnsPerCount
  let θ := frac1 (c.angle + hz * (s.ref.time - c.angleAt : Nat) / ticksPerS)
  let i := park θ (clarke (s.axis a).saddle.phase)
  { theta := θ, idq := i, vInt := (0, 2 * Config.pi * hz * m.psi), ramp := some i
    setPoint := (s.axis a).field.loop.setPoint }

/-- The observer as it follows from a catch without a usable channel (R190). DEDUCED, log entry 109. -/
def State.caughtObserver (s : State) (a : AxisN) (w : Loop) : Observer :=
  let m := s.motor a
  { angle := w.theta, speed := (s.axis a).field.catching.speed, psi := m.psi, emf := unpark w.theta w.vInt
    next := (s.axis a).saddle.phase }

/-- Control EN rises at the update point: RUNNING, or STOPPING where it resumes so (Table 5.10 step 4, R83). Latched legs
stay without it (R52), and no self-test slice goes on (R81). DEDUCED, log entry 30. -/
def State.enRise (s : State) (a : AxisN) : State :=
  let fromReady : Bool := (s.axis a).field.state == .ready
  let s := s.endSlices a
  let s := s.modLegs (s.legsOf a) fun _ L => if L.state == .inService then L.enable else L
  let s := s.each (s.legsOf a) fun s l => s.modInput l fun i => { i with trim := 0 }
  let s := s.modReact a fun r => { r with hasRun := true }
  let src := s.startSource a
  let w := s.caughtLoop a
  let o := if src == .channel then (s.axis a).field.obs else s.caughtObserver a w
  let s := s.enter a .running
  let s := s.modField a fun f => { f with
    angleSource := src, recovering := false, fwReported := false, rideCause := none, encLost := false, snapBad := 0
    overspeedRun := 0, blend := 0, obs := o, work := f.work.set (f.executed % 2) w
    enRose := if fromReady then some s.ref.time else none
    catching := { f.catching with running := false, ready := false, method := none, phase := .none, sweeping := false } }
  if s.axisType a == 3 then
    s.modField a fun f => { f with catching := { f.catching with phase := .magnetising } }
  else if s.isStepper a then s.modField a fun f => { f with catching := { f.catching with phase := .precharge } }
  else s.catchRelease a

/-- The legs of an axis after a precharge: VBS as read, a leg in service still below 13.0 V latched as RECHARGE_FAILED, and no
precharge owed any more (R66, R89). -/
def State.prechargeLegs (s : State) (a : AxisN) (vbs : List Nat) : State :=
  let s := s.each ((s.legsOf a).zip vbs) fun s (l, mv) => s.setObj (O.vbsNow l) mv
  let s := s.modLegs (s.legsOf a) fun _ L => { L with precharge := false }
  s.each ((s.legsOf a).zip vbs) fun s (l, mv) =>
    if (s.leg l).state == .inService && mv < 13000 then s.legFault l .rechargeFailed .high else s

/-- PRECHARGE_END (R66, R191): the low sides turn off; a leg in service still below 13.0 V is latched as
RECHARGE_FAILED, the others start, or go on in an axis that runs. -/
def execPrechargeEnd (a : AxisN) (vbs : List Nat) (s : State) : Outcome State Fault Refusal :=
  let c := (s.axis a).field.catching
  if (s.axis a).field.regain then
    let s := s.prechargeLegs a vbs
    if !(s.axis a).field.regain then .next s
    else
      let s := (s.gatesOff a).modField a fun f => { f with regain := false }
      .next (s.modLegs (s.legsOf a) fun _ L => if L.state == .inService then L.enable else L)
  else if !(c.running && c.phase == .precharge) then .next s
  else
    let s := s.prechargeLegs a vbs
    if !(s.axis a).field.catching.running then .next s
    else
      let s := s.gatesOff a
      match c.method with
      | some .pulse => .next s
      | some .search => .next (s.startSweep a)
      | _ => .next (s.modField a fun f => { f with catching := { f.catching with ready := true } })

/-! ### What the methods measure (R190) -/

/-- 2 % of I_RATED, squared: below it no current counts. -/
def State.smallSq (s : State) (a : AxisN) : Rat := s.cfgF (O.iRated a) / 50 * (s.cfgF (O.iRated a) / 50)

/-- Angle, speed and their reference tick by the phase-voltage vectors (R190, VOLTAGE): the newest vector's angle less 90°, and
the turn from vector to vector; below 2 % of VDC_NOM standstill. None while fewer than two vectors were taken.
DEDUCED, log entry 109. -/
def State.measureVoltage (s : State) (a : AxisN) : Option (Rat × Rat × Nat) :=
  let c := (s.axis a).field.catching
  let m := s.motor a
  match c.volts, c.volts.reverse with
  | (t, v) :: rest, (t0, _) :: _ =>
    if t ≤ t0 then none
    else
      let lim := s.cfgF (O.vdcNom a) / 50
      let turns := qsum ((((t, v) :: rest).zip rest).map fun (x, y) => turnDiff (vecTurn x.2 - vecTurn y.2))
      some (vecTurn v - 1 / 4,
        if vecSq v < lim * lim then 0 else turns * ticksPerS / (t - t0 : Nat) / m.turnsPerCount, t)
  | _, _ => none

/-- What a pulse gives from its four current samples (R190, PULSE): the rotor angle as the back-EMF vector's less 90°, and |ω| in
electrical revolutions per second; none where no current passes 2 % of I_RATED. The samples lie a quarter of the pulse apart.
DEDUCED, log entry 109. -/
def State.measurePulse (s : State) (a : AxisN) (samples : List Tri) : Option (Rat × Rat) :=
  let m := s.motor a
  let i := samples.map clarke
  let dt : Rat := (s.axis a).field.catching.pulse / 4000000
  let l := (m.ld + m.lq) / 2
  let e : Vec := (l * Config.slope (i.map (·.1)) dt, l * Config.slope (i.map (·.2)) dt)
  if i.all fun v => decide (vecSq v ≤ s.smallSq a) then none
  else some (vecTurn e - 1 / 4, Config.sqrt (vecSq e) / m.psi / (2 * Config.pi))

/-- The signed speed that the two pulses agree on (R190): of +|ω| and −|ω| the one whose advance between the pulses lies nearer to
that of the angle, in counts/s. DEDUCED, log entry 109. -/
def Motor.pulseSpeed (m : Motor) (advance f dt : Rat) : Rat :=
  (if qabs (turnDiff (advance - f * dt)) ≤ qabs (turnDiff (advance + f * dt)) then f else -f) / m.turnsPerCount

/-- CATCH_SECOND_PULSE (R190): the second pulse of the PULSE method, once the currents of the first have decayed below 2 % of
I_RATED, and no earlier than π/(4|ω|) after it. `samples` are the phase currents of the first pulse. -/
def execCatchSecondPulse (a : AxisN) (samples : List Tri) (s : State) : Outcome State Fault Refusal :=
  let c := (s.axis a).field.catching
  if c.running && c.method == some .pulse && c.phase == .precharge && !c.secondPulse
      && samples.length == 4 && vecSq (clarke (s.axis a).saddle.phase) < s.smallSq a then
    match s.measurePulse a samples with
    | some (θ, f) =>
      if 8 * f * (s.ref.time - (c.angleAt + c.pulse * ticksPerUs) : Nat) < ticksPerS then .next s
      else
        .next ((s.modField a fun x => { x with catching := { x.catching with
          secondPulse := true, first := some (c.angleAt, θ, f), angleAt := s.ref.time
          pulse := s.pulseUs a false } }).lowPulse a)
    | none => .next s
  else .next s

/-- CATCH_MEASUREMENT_COMPLETE (R190): VOLTAGE after CATCH_MEASURE; PULSE after the second pulse, or after a first one that shows
standstill, with the phase currents of that pulse; SEARCH where the sweep has found the rotor or ended. -/
def execCatchMeasurementComplete (a : AxisN) (samples : List Tri) (s : State) : Outcome State Fault Refusal :=
  let c := (s.axis a).field.catching
  if !c.running || c.ready then .next s
  else match c.method, c.phase with
    | some .voltage, .measuring =>
      if s.ref.time < c.angleAt + s.cfgN (O.catchMeasure a) * ticksPerMs then .next s
      else match s.measureVoltage a with
      | some (θ, v, t) => .next (s.catchMeasured a θ v t)
      | none => .next s
    | some .search, .measuring => match c.found with
      | some v => .next (s.catchMeasured a c.sweepAngle v s.ref.time)
      | none => .next s
    | some .pulse, .precharge =>
      if samples.length != 4 then .next s
      else match s.measurePulse a samples, c.first with
        | none, _ => .next (s.catchMeasured a 0 0 s.ref.time)
        | some (θ, f), some (t, φ, _) =>
          let dt : Rat := (c.angleAt - t : Nat) / ticksPerS
          .next (s.catchMeasured a θ ((s.motor a).pulseSpeed (θ - φ) f dt) c.angleAt)
        | some _, none => .next s
    | _, _ => .next s

/-- CATCH_FAILED (R175, R193, R513): a cause under R76: the speed rule is applied and RESUME_PENDING cleared. A start from READY
that had no gate on goes to FAULT without a reaction (R195, R512). DEDUCED, log entry 33. -/
def execCatchFailed (a : AxisN) (s : State) : Outcome State Fault Refusal :=
  let f := (s.axis a).field
  if !f.catching.running && f.catching.phase != .magnetising then .next s
  else
    let s := s.event 0x4209 a
    if s.reacts a then
      .next (s.beginReaction a .other (s.speedRule a .low) true .low)
    else
      let s := (s.modField a fun f => { f with catching := {} }).gatesOff a
      .next (s.enter a .fault)

/-! ### Commands (R195 to R199) -/

/-- Place a DISABLED axis for its ENABLE (R201, R203): on its home crest where that crest is ACTIVE and can take it,
else where it is while that crest can take it, else on the crest R201 chooses; none = it fits nowhere. A placement on another
crest is logged (R202). -/
def State.enablePlace (s : State) (a : AxisN) : Option State :=
  let h := s.homeCrest a
  let f := (s.axis a).field
  let here : Bool := !f.unplaced && s.crests[f.crest].state == .active && s.crestLoad f.crest ≤ 1200000
  let move := fun (c : CrestN) => (s.placeAxis a c).event 0x400B a
  if here && f.crest == h then some s
  else if s.crests[h].state == .active && s.crestLoad h + (if f.crest == h && !f.unplaced then 0 else s.loopRate a) ≤ 1200000 then
    some (move h)
  else if here then some s
  else (s.bestCrest a).map move

/-- A confirmed self-test failure refuses ENABLE of the axis (Table 14.2). DEDUCED, log entry 35. -/
def State.testBars (s : State) (a : AxisN) : Bool :=
  [0x0800, 0x0900, 0x0A00].any fun t => (s.block (t + a.val)).confirmed

/-- A member axis is a PM or induction axis in CONTROL_MODE 0 on a port in mode 2 (R271, R300). -/
def State.memberOk (s : State) (a : AxisN) : Bool :=
  match s.slotOf a with
  | none => true
  | some g => !s.isStepper a && s.cfgN (O.controlMode a) == 0 && s.cfgN (O.canMode (s.cfgN (O.groupPort g))) == 2

/-- ENABLE (R196, Table 5.12). DEDUCED, log entry 35. -/
def State.axisEnable (s : State) (a : AxisN) : Acted :=
  let x := s.axis a
  let t := s.axisType a
  let retired : Bool := match s.channelOf a with
    | some f => s.cfgN (O.fbType f) != 0 && s.channels[f].state == .retired && s.cfgN (O.rideThrough a) == 0
    | none => false
  if t == 0 || (t == 2 && s.cfgF (O.lq a) ≤ s.cfgF (O.ld a)) || (t == 4 && s.cfgN (O.controlMode a) == 0)
      || !s.memberOk a then (s, .outOfRange, 0)
  else if x.field.state != .disabled || x.field.zeroing || s.lockedOut a || retired || s.power.mode != .run
      || s.power.bscan || s.engine.fullTest || s.testBars a then s.lock
  else match s.enablePlace a with
    | none => s.lock
    | some s =>
      let s := s.runQueue.modField a fun f => { f with
        lastCommand := 1, zeroing := true, missRun := 0, realigned := false, commOffset := s.cfg (O.commOffset a)
        disableAtStop := false, keStop := false, enRose := none }
      let s := s.modMember a fun m => { m with stopRequest := false }
      let s := s.modStep a fun p => { p with
        a := { p.a with offset := 0 }, b := { p.b with offset := 0 }, coilOpen := false }
      let s := s.leaveDisabled a
      (if s.cfgN (O.ciAutozero a) == 1 then s else s.finishEnable a).done

/-- START (R196, Table 5.12). DEDUCED, log entry 35. -/
def State.axisStart (s : State) (a : AxisN) : Acted :=
  let s0 := s
  let s := (s.rejoinLegs a).modReq (reqOf a) fun r => { r with refused := false }
  let x := s.axis a
  let ok := (s.modField a fun f => { f with lastCommand := 2, disableAtStop := false, keStop := false })
  if s.startBarred a || x.field.catching.running then s0.lock
  else match x.field.state with
    | .ready => (ok.startCatch a false).done
    | .stopping =>
      ((ok.enter a .running).modField a fun f => { f with fwReported := false }).done
    | .holdAsc | .fault =>
      if x.reaction.held || !x.reaction.causes.isEmpty then s0.lock
      else (ok.startCatch a false).done
    | .disabled | .running | .safeOff | .lockedOut => s0.lock

/-- The member follows or rejoins, so its stop is a request to the leader (R284). DEDUCED, log entry 35. -/
def State.stopsByGroup (s : State) (a : AxisN) : Bool :=
  (s.slotOf a).isSome && ((s.axis a).member.role == .follower || (s.axis a).member.role == .rejoining)

/-- Bring a RUNNING axis to STOPPING: a follower of a group waits for the STOP of its leader (R284). -/
def State.stopAxis (s : State) (a : AxisN) : State :=
  let s := s.groupStop a
  if s.stopsByGroup a then s else s.enter a .stopping

/-- STOP (R196, R198, R199). DEDUCED, log entry 35. -/
def State.axisStop (s : State) (a : AxisN) : Acted :=
  let x := s.axis a
  let ok := s.modField a fun f => { f with lastCommand := 3 }
  let after := ok.modField a fun f => { f with catching := { f.catching with stopAfter := true } }
  if x.field.catching.running then (after.modReact a fun r => { r with resumePending := false }).done
  else match x.field.state with
    | .running =>
      if x.field.catching.phase != .none then after.done
      else (ok.stopAxis a).done
    | .holdAsc | .fault => (ok.modReact a fun r => { r with resumePending := false }).done
    | .disabled | .ready | .stopping | .safeOff | .lockedOut => s.lock

/-- Enter DISABLED: gates off, no reaction, no catch, out of the migration queue (R201). -/
def State.toDisabled (s : State) (a : AxisN) : State :=
  let s := (s.releaseReaction a).gatesOff a
  let s := { s with migration := s.migration.filter (· != a) }
  let s := s.modField a fun f => { f with
    catching := {}, zeroing := false, recovering := false, disableAtStop := false, keStop := false }
  s.enter a .disabled

/-- DISABLE (R196, R198, R201). DEDUCED, log entry 35. -/
def State.axisDisable (s : State) (a : AxisN) : Acted :=
  let x := s.axis a
  let ok := s.modField a fun f => { f with lastCommand := 4 }
  match x.field.state with
  | .disabled => if x.field.zeroing then (ok.modField a fun f => { f with zeroing := false }).done else s.lock
  | .running =>
    let ok := ok.modField a fun f => { f with disableAtStop := true, catching := {} }
    let ok := ok.modStep a fun p => { p with aligning := false }
    ((if x.field.catching.phase != .none then ok.handover a else ok).stopAxis a).done
  | .stopping => ((ok.modField a fun f => { f with disableAtStop := true }).groupStop a).done
  | .holdAsc | .fault => if x.reaction.gate.isAsc then s.lock else (ok.toDisabled a).done
  | .ready | .safeOff | .lockedOut => (ok.toDisabled a).done

/-- A write of AXIS_COMMAND (R196). -/
def State.axisCommand (s : State) (a : AxisN) (v : Int) : Acted :=
  if v = 1 then s.axisEnable a else if v = 2 then s.axisStart a
  else if v = 3 then s.axisStop a else s.axisDisable a

/-- AXIS_ENABLE: AXIS_COMMAND 1. -/
def execAxisEnable (src : Src) (a : AxisN) (s : State) : Outcome State Fault Refusal :=
  .next (s.writeRow src (O.axisCommand a) 1 fun s => s.axisCommand a 1)
/-- AXIS_START: AXIS_COMMAND 2. -/
def execAxisStart (src : Src) (a : AxisN) (s : State) : Outcome State Fault Refusal :=
  .next (s.writeRow src (O.axisCommand a) 2 fun s => s.axisCommand a 2)
/-- AXIS_STOP: AXIS_COMMAND 3. -/
def execAxisStop (src : Src) (a : AxisN) (s : State) : Outcome State Fault Refusal :=
  .next (s.writeRow src (O.axisCommand a) 3 fun s => s.axisCommand a 3)
/-- AXIS_DISABLE: AXIS_COMMAND 4. -/
def execAxisDisable (src : Src) (a : AxisN) (s : State) : Outcome State Fault Refusal :=
  .next (s.writeRow src (O.axisCommand a) 4 fun s => s.axisCommand a 4)

/-- STOP_STANDSTILL (R196): |speed| has stayed below STOP_SPEED for 10 ms in STOPPING. A stop by KE_ABNORMAL ends in FAULT, also
where DISABLE was given meanwhile. DEDUCED, log entry 143; DESIGN CHOICE, log entry 146. -/
def execStopStandstill (a : AxisN) (s : State) : Outcome State Fault Refusal :=
  let f := (s.axis a).field
  if f.state == .stopping && s.absSpeed a < (s.cfgN (O.stopSpeed a) : Rat)
      && f.slowSince.any fun t => t + 10 * ticksPerMs ≤ s.ref.time then
    let s := s.modField a fun f => { f with storedSpeed := some f.speed }
    if f.keStop then
      .next (((s.gatesOff a).modField a fun f => { f with keStop := false, disableAtStop := false }).enter a .fault)
    else if f.disableAtStop then .next (s.toDisabled a)
    else .next ((s.gatesOff a).enter a .ready)
  else .next s

/-! ### The end of a reaction, reinstatement of a leg (R83, R89) -/

/-- REACTION_END (R83, R185): ASC_HOLD has passed, every phase has a leg in service and no cause remains. It resumes by
flying start when the motor is catchable, or stays held by the speed rule until a start command; under an SS1 the held reaction
continues (R373). DEDUCED, log entry 19. -/
def execReactionEnd (a : AxisN) (s : State) : Outcome State Fault Refusal :=
  let r := (s.axis a).reaction
  if r.held && r.began + s.cfgN (O.ascHold a) * ticksPerMs ≤ s.ref.time && !s.phaseEmpty a && r.causes.isEmpty
      && !(s.axis a).field.unplaced then
    let s := s.modReact a fun r => { r with held := false, window := false, follows := true }
    let s := (s.newPeriod a).modField a fun f => { f with recovering := true }
    if r.resumePending && s.catchable a && !(s.axis a).safe.p.ss1Run then
      .next ((s.modReact a fun r => { r with resumePending := false }).startCatch a r.resumeStopping)
    else .next (s.followFlag a)
  else .next s

/-- LEG_REINSTATE (R89). A retired leg that belongs to no axis is reinstated too, and is then NOT_ASSIGNED.
DESIGN CHOICE, log entry 128. -/
def State.legReinstate (s : State) (l : LegN) : Acted :=
  let dis : Bool := match s.axisOf l with
    | some a => s.isDisabled a
    | none => true
  if (s.leg l).state == .retired && dis then
    let s := s.modLeg l fun L => { L.allOff with
      state := .notAssigned, faults := [], retireLatch := false, latch := none, softOff := none, hsInhibit := false
      autoclears := 0, uvDigit := none, leftOut := false, silent := false, vgpOut := false, rejoin := false
      sliceLatch := false, precharge := true }
    (s.assignLegs.event 0x100C l).done
  else s.lock

/-- LEG_REINSTATE: a write of LEG_REINSTATE. -/
def execLegReinstate (src : Src) (l : LegN) (v : Int) (s : State) : Outcome State Fault Refusal :=
  .next (s.writeRow src (O.legReinstate l) v fun s => s.legReinstate l)

/-! ### Encoder, observer, induced voltage (R178 to R188) -/

/-- A condition has held since a reference tick for ENC_CHECK_TIME. -/
def State.checkedFor (s : State) (a : AxisN) (since : Option Nat) : Bool :=
  since.any fun t => t + s.cfgN (O.encCheckTime a) * ticksPerMs ≤ s.ref.time

/-- ENC_DISAGREE (R180, R199): channel and observer have differed for ENC_CHECK_TIME. -/
def execEncDisagree (a : AxisN) (s : State) : Outcome State Fault Refusal :=
  let f := (s.axis a).field
  if f.angleSource == .channel && s.axisChanValid a && f.obsHealthy && !s.isStepper a && s.checkedFor a f.apartSince then
    let s := s.modField a fun f => { f with encDisagree := true, apartSince := none }
    if s.cfgN (O.rideThrough a) == 1 then
      .next ((s.modField a fun f => { f with
        angleSource := .rideThrough, rideCause := some .disagreement, angleSince := none, speedSince := none }).event 0x4103 a)
    else .next ((s.event 0x4203 a).otherCause a none)
  else .next s

/-- ENCODER_TAKEBACK (R182): the channel has been VALID for ENC_CHECK_TIME in ride-through, with its angle at the observer's
throughout, or after a loss with the angles apart and agreeing speeds throughout: then the working commutation offset is realigned, once per ENABLE. -/
def execEncoderTakeback (a : AxisN) (s : State) : Outcome State Fault Refusal :=
  let f := (s.axis a).field
  let back := fun (s : State) => s.modField a fun f => { f with
    angleSource := .channel, rideCause := none, encLost := false, blend := 16, snapBad := 0, apartSince := none }
  if !(f.angleSource == .rideThrough && s.axisChanValid a) then .next s
  else if s.checkedFor a f.angleSince then .next (back s)
  else if f.rideCause == some .loss && s.checkedFor a f.apartSince && s.checkedFor a f.speedSince && !f.realigned then
    .next (back ((s.modField a fun f => { f with
      realigned := true, commOffset := (f.commOffset + roundNear (f.apart * 65536)).fmod 65536 }).event 0x400D a))
  else .next s

/-- OBSERVER_LOST (R183, R199): eight consecutive evaluated cycles exceed OBS_INNOV_MAX, at or above OBS_MIN_SPEED (R179). -/
def execObserverLost (a : AxisN) (s : State) : Outcome State Fault Refusal :=
  let f := (s.axis a).field
  if f.obsLost || f.innovRun < 8 || !s.obsFast a || s.isStepper a then .next s
  else
    let s := s.modField a fun f => { f with obsHealthy := false, obsLost := true, innovGood := 0, innovRun := 0 }
    if f.angleSource == .rideThrough || f.angleSource == .observer then
      .next ((s.event 0x4202 a).otherCause a none (s.cfgN (O.obsLossResume a) == 1))
    else .next (s.event 0x4101 a)

/-- KE_EST (R187): 1,000 × mean observer ψ / ψ of the nameplate (R167), rounded down (DESIGN CHOICE, log entry 145); the
root is taken of the square, so the value is exact. -/
def State.keEstimate (s : State) (a : AxisN) (meanPsi : Rat) : Nat :=
  let q := 1000 * meanPsi * (10472 / 100) * s.cfgN (O.polePairs a) / s.cfgF (O.keNom a)
  min 2000 (Nat.sqrt (q * q * 3 / 2).floor.toNat)

/-- KE_WINDOW_END (R187, R188): a counted window is judged; a broken one is discarded. DEDUCED, log entry 34. -/
def execKeWindowEnd (a : AxisN) (s : State) : Outcome State Fault Refusal :=
  let f := (s.axis a).field
  let counted : Bool := f.keWhole && decide (0 < f.keCycles) && s.isPM a
  let s := s.modField a fun f => { f with keWhole := true, keSum := 0, keCycles := 0 }
  if !counted then .next s
  else
    let k := s.keEstimate a (f.keSum / f.keCycles)
    let dev := ((k : Int) - 1000).natAbs
    let s := s.setObj (O.keEst a) k
    let due : Bool := f.keLogged.all fun t => 60 * ticksPerS ≤ s.ref.time - t
    let s := if 120 < dev && due then
        (s.modField a fun f => { f with keLogged := some s.ref.time }).event 0x4106 a
      else s
    let run := if 250 < dev then min (f.keRun + 1) 2 else 0
    let s := s.modField a fun f => { f with keRun := run }
    if run == 2 && !f.keLatch then
      let s := (s.modField a fun f => { f with keLatch := true, keStop := s.driving a }).event 0x4407 a
      .next (if (s.axis a).field.state == .running then s.stopAxis a
        else if (s.axis a).field.state == .stopping then s.groupStop a else s)
    else .next s

/-- KE_ACK (R188): a write of 1 clears KE_LATCH. -/
def State.keAck (s : State) (a : AxisN) : Acted := (s.modField a fun f => { f with keLatch := false, keRun := 0 }).done

/-- KE_ACK: a write of KE_ACK. -/
def execKeAck (src : Src) (a : AxisN) (v : Int) (s : State) : Outcome State Fault Refusal :=
  .next (s.writeRow src (O.keAck a) v fun s => s.keAck a)

end Sys2Proof.Machine
end

