-- ==== Sys2Proof/Machine/Mailbox.lean ====
section
/-! DEFINITION. The checks of bytes, binary16, and the transmit mailboxes of the CAN ports (R9, R222, R308 to R311). -/

namespace Sys2Proof.Machine

/-! ### Bytes (R9) -/

/-- The value of an object as bytes of its type. -/
def valBytes (a : Nat) (v : Int) : List Byte :=
  match cardOf a with
  | some c => leBytes (c.ty.bytes.getD 0) v
  | none => []

/-- A number rounded to the nearest whole one, ties to even. -/
def roundEven (q : Rat) : Int :=
  let f := q.floor
  let r := q - f
  if r < 1 / 2 then f else if 1 / 2 < r then f + 1 else if f % 2 = 0 then f else f + 1

/-- The binary16 pattern of a magnitude: nearest, ties to even, at most 65,504 (R319). -/
def f16Mag (q : Rat) : Nat :=
  let q := min q 65504
  -- subnormals below 2^−14 in steps of 2^−24; otherwise 11 significant bits
  let e : Nat := ((List.range 31).find? fun e => q < (2 : Rat) ^ (e + 1) / 16384).getD 29
  let m := roundEven (if q < 1 / 16384 then q * 16777216 else q * 16384 / 2 ^ e * 1024)
  if q < 1 / 16384 then m.toNat
  else min ((e + 1) * 1024 + (m.toNat - 1024)) 0x7BFF
/-- The binary16 pattern of a number (R319). -/
def f16Of (q : Rat) : Nat := if q < 0 then 0x8000 + f16Mag (-q) else f16Mag q

/-! ### Transmit mailboxes (R308 to R311) -/

/-- The port sends and acknowledges. -/
def CanPort.sends (p : CanPort) : Bool := p.state == .errorActive || p.state == .errorPassive

/-- The frame that a mailbox holds for the bus: in CLASSICAL mode no FD frame (R300). -/
def CanPort.pending (p : CanPort) (m : MailboxN) : Option CanFrame :=
  match p.boxes[m].frame with
  | some f => if p.classical && f.fd then none else some f
  | none => none

/-- The pending mailbox with the lowest identifier (R309). DEDUCED, log entry 49. -/
def CanPort.lowest (p : CanPort) : Option MailboxN :=
  (List.finRange 32).foldl (fun b (m : MailboxN) => match p.pending m, b with
    | none, _ => b
    | some _, none => some m
    | some f, some k => match p.pending k with
      | some g => if f.ident < g.ident then some m else some k
      | none => some m) none

/-- The attempt in progress ends without success: an abort that waited empties its mailbox, a newer frame that waited is the one
offered next (R310, R311). -/
def CanPort.settle (p : CanPort) : CanPort :=
  match p.offered with
  | none => p
  | some m =>
    let b := p.boxes[m]
    let b : Mailbox := if b.abort then {} else { frame := if b.next.isSome then b.next else b.frame }
    { p with offered := none, boxes := p.boxes.set m b }

/-- At an intermission, or on an idle bus, the port offers its lowest pending mailbox (R309). DEDUCED, log entry 49. -/
def CanPort.offer (p : CanPort) : CanPort :=
  if !p.sends then { p with offered := none }
  else if p.offered.isSome then p
  else { p with offered := p.lowest }

/-- The intermission after a frame of another node: the choice is made again (R309). -/
def CanPort.intermission (p : CanPort) : CanPort := p.settle.offer

/-- Put a frame into a mailbox. While an attempt of it is in progress the newer frame waits (R311). -/
def CanPort.put (p : CanPort) (m : MailboxN) (f : CanFrame) : CanPort :=
  let b := p.boxes[m]
  let b := if p.offered == some m then { b with next := some f, abort := false }
           else { b with frame := some f, abort := false }
  { p with boxes := p.boxes.set m b }.offer

/-- Empty a mailbox; an attempt in progress ends first (R310). -/
def CanPort.abort (p : CanPort) (m : MailboxN) : CanPort :=
  let b := p.boxes[m]
  let b := if p.offered == some m then { b with abort := true, next := none } else { b with frame := none, next := none }
  { p with boxes := p.boxes.set m b }

/-- Empty every mailbox and the receive queue (R324, R325). -/
def CanPort.clear (p : CanPort) : CanPort := { p with boxes := Vector.replicate 32 {}, rx := [], offered := none }

/-- Put a frame into mailbox m of port p; a retired or powered-down port takes none. It aborts a slice of
the controller (R456). -/
def State.canPut (s : State) (p : CanN) (m : MailboxN) (f : CanFrame) : State :=
  if s.can[p].state == .retired || !s.runs Dom.bus then s else (s.callBlock (0x0F00 + p.val)).modCan p fun c => c.put m f

/-- Drop the oldest queued frame that satisfies `p` (its content has reached its consumer). -/
def dropFirst (p : CanFrame → Bool) : List CanFrame → List CanFrame
  | [] => []
  | f :: fs => if p f then fs else f :: dropFirst p fs

/-- This device's segment and node as an identifier's bits [25:12] (R317). -/
def State.deviceBits (s : State) : Nat := s.cfgN O.segment * 0x100000 + s.cfgN O.node * 0x1000

end Sys2Proof.Machine
end

