-- ==== Sys2Proof/Machine/Sharing.lean ====
section
/-! DEFINITION. Ridge groups: members, leader, shares, isolation, and the sharing frames (08, and R317 to R320 of
09). -/

namespace Sys2Proof.Machine

open Host

/-! ### Members (R269 to R272) -/

/-- The port of group slot g (GROUP_PORT). -/
def State.groupPort (s : State) (g : SlotN) : CanN := ⟨s.cfgN (O.groupPort g) % 2, by omega⟩
/-- MEMBER_ENTRY k of slot g. -/
def State.memberEntry (s : State) (g : SlotN) (k : Nat) : Nat := s.cfgN (O.memberEntry g k)
/-- The entry is in use: its weight is not 0 (Table 8.3). -/
def entryUsed (e : Nat) : Bool := e % 256 != 0
/-- The entry names axis a of this device. DEDUCED, log entry 45. -/
def State.entryNames (s : State) (e : Nat) (a : AxisN) : Bool :=
  entryUsed e && e / 0x1000000 % 64 == s.cfgN O.segment && e / 0x10000 % 256 == s.cfgN O.node
    && e / 0x1000 % 16 == a.val
/-- The member-table entry of axis a in slot g. -/
def State.ownIndex (s : State) (g : SlotN) (a : AxisN) : Option MemberN :=
  (List.finRange 8).find? fun k => s.entryNames (s.memberEntry g k) a
/-- The local member axes of slot g, in ascending order. -/
def State.localMembers (s : State) (g : SlotN) : List AxisN := allAxes.filter fun a => s.slotOf a == some g

/-- GROUP_CHECK of slot g (R269). -/
def State.groupCheck (s : State) (g : SlotN) : Nat :=
  let objs := [O.groupNumber g, O.groupPort g, O.groupRate g, O.groupMode g, O.groupInertia g, O.groupSpeedBw g,
    O.groupPosBw g, O.groupCountsPerRev g] ++ (List.range 8).map fun k => O.memberEntry g k
  (crc32c (objs.flatMap fun a => valBytes a (s.cfg a))).toNat % 0x10000

/-- A frame of that tick is at most 2.5 ms old (R272, R275, R281). -/
def State.fresh (s : State) (t : Option Nat) : Bool := t.any fun t => 2 * (s.ref.time - t) ≤ 5 * ticksPerMs

/-- The member axis is in service: RUNNING or STOPPING, and not ISOLATED (R272). -/
def State.memberService (s : State) (a : AxisN) : Bool := s.driving a && (s.axis a).member.role != .isolated

/-- Entry k is in service as this device knows (R272). -/
def State.entryService (s : State) (g : SlotN) (k : MemberN) : Bool :=
  match (s.localMembers g).find? fun a => s.ownIndex g a == some k with
  | some a => s.memberService a
  | none => s.slots[g].peers[k].service && s.fresh s.slots[g].peers[k].heardAt
/-- The capability of entry k as this device knows. -/
def State.entryCap (s : State) (g : SlotN) (k : MemberN) : Rat :=
  match (s.localMembers g).find? fun a => s.ownIndex g a == some k with
  | some a => (s.axis a).member.cap
  | none => s.slots[g].peers[k].cap
/-- Σcap over the members in service (R273). -/
def State.capSum (s : State) (g : SlotN) : Rat :=
  qsum (((List.finRange 8).filter (s.entryService g)).map (s.entryCap g))
/-- The lowest-numbered member in service (R272). -/
def State.lowestMember (s : State) (g : SlotN) : Option MemberN := (List.finRange 8).find? (s.entryService g)
/-- A sharing frame of another member is at most 2.5 ms old (R281). -/
def State.hearsPeer (s : State) (g : SlotN) : Bool := s.slots[g].peers.toList.any fun p => s.fresh p.frameAt
/-- A MEMBER_STATUS of another member is at most 2.5 ms old (R275). -/
def State.hearsStatus (s : State) (g : SlotN) : Bool :=
  s.slots[g].peers.toList.any fun p => s.fresh p.statusAt
/-- Two group periods have passed since the leader's newest GROUP_REF (R272, R275). -/
def State.leaderSilent (s : State) (g : SlotN) : Bool :=
  s.slots[g].refAt.all fun t => 2 * ticksPerS ≤ (s.ref.time - t) * s.cfgN (O.groupRate g)
/-- The port of slot g carries sharing traffic: mode 2, neither bus-off, retired nor LONE (R281, R300). -/
def State.portShares (s : State) (g : SlotN) : Bool :=
  let p := s.can[s.groupPort g]
  s.runs Dom.bus && s.cfgN (O.canMode (s.groupPort g)) == 2 && p.sends && !p.lone
/-- The local leader of slot g. -/
def State.localLeader (s : State) (g : SlotN) : Option AxisN :=
  (s.localMembers g).find? fun a => (s.axis a).member.role == .leader

/-- The k-th slot of a port, for its mailboxes (Table 9.2). -/
def State.slotRank (s : State) (g : SlotN) : Nat :=
  ((List.finRange 16).filter fun (h : SlotN) => h.val < g.val && s.cfgN (O.groupNumber h) != 0
    && s.groupPort h == s.groupPort g).length
/-- The j-th local member axis of a port. -/
def State.memberRank (s : State) (a : AxisN) (g : SlotN) : Nat :=
  (allAxes.filter fun b => b.val < a.val && match s.slotOf b with
    | some h => s.groupPort h == s.groupPort g
    | none => false).length

/-! ### The GROUP_REF of a leader (R273, Table 9.5) -/

/-- An FD frame of the group from entry k (R317). -/
def State.shareFrame (s : State) (g : SlotN) (prio : Nat) (k : MemberN) (data : List Byte) : CanFrame :=
  { ident := prio * 0x4000000 + s.cfgN (O.groupNumber g) * 0x8000 + k.val * 0x1000
    extended := true, remote := false, fd := true, data }

/-- GROUP_REF of slot g from its leader a (Table 9.5). -/
def State.sendRef (s : State) (g : SlotN) (a : AxisN) (leaving : Bool) : State :=
  let k := s.slotRank g
  match s.ownIndex g a with
  | none => s
  | some i =>
    if h : k < 8 then
      let x := s.slots[g]
      let data := leBytes 2 x.seq ++ leBytes 2 (s.groupCheck g) ++ leBytes 4 (f32Of x.tG) ++ leBytes 4 (f32Of x.vG)
        ++ leBytes 1 (x.stopping.toNat * 2 + leaving.toNat) ++ leBytes 1 x.applied ++ leBytes 2 0
      let s := s.modSlot g fun x => { x with seq := (x.seq + 1) % 0x10000 }
      s.canPut (s.groupPort g) ⟨k, by omega⟩ (s.shareFrame g 1 i data)
    else s

/-! ### Isolation, leading, yielding (R274 to R283) -/

/-- Empty the GROUP_REF and GROUP_SHARE mailboxes of slot g (R311). -/
def State.stopLeading (s : State) (g : SlotN) : State :=
  let k := s.slotRank g
  let s := s.modSlot g fun x => { x with waitingShares := [], stopping := false }
  if h : k < 8 then
    s.modCan (s.groupPort g) fun p => (p.abort ⟨k, by omega⟩).abort ⟨8 + k, by omega⟩
  else s

/-- After a period out of the group the first frame of each kind from a sender is taken whatever its value (R320).
DEDUCED, log entry 43. -/
def State.forgetSeqs (s : State) (g : SlotN) : State :=
  s.modSlot g fun x => { x with peers := x.peers.map fun p => { p with
    refSeq := none, statusSeq := none, shareVersion := none } }

/-- Isolate member a (R281, R282): its share, the last T_g and the group's last Σcap are kept; announced. A generator that led goes
back to TRACKING, as it stays while the member follows (R274). DEDUCED, log entry 42. -/
def State.isolate (s : State) (a : AxisN) (g : SlotN) : State :=
  let m := (s.axis a).member
  if m.role == .isolated then s
  else
    let x := s.slots[g]
    let share := match s.ownIndex g a with
      | some k => x.shares[k]
      | none => 0
    let cap := x.lastCap
    let s := if m.role == .leader then s.stopLeading g else s
    let s := if (s.axis a).field.state == .running then s.modProf a fun p => { p with move := .tracking } else s
    let s := s.modMember a fun m => { m with
      role := .isolated, since := s.ref.time, isoShare := share, isoTorque := x.tG, isoRef := x.vG, isoCap := cap
      goodRefs := 0, goodFrom := none }
    (s.forgetSeqs g).announce 0x6103 a

/-- Isolate every member on port p (R281, R314, R324). -/
def State.isolatePort (s : State) (p : CanN) : State :=
  s.each allAxes fun s a => match s.slotOf a with
    | some g => if s.groupPort g == p then s.isolate a g else s
    | none => s

/-- The speed error of the group loop at its leader a, in group counts/s: the leader's profile velocity, in GROUP_MODE 2 with
the position loop added, less its speed (R273). -/
def State.groupError (s : State) (a : AxisN) (g : SlotN) (p : SetPoint) : Rat :=
  s.groupScale a g *
    (s.speedSet a p (s.cfgN (O.groupMode g) == 2) (s.cfgF (O.groupPosBw g)) - (s.axis a).field.speed)
/-- The proportional gain of the group loop: that of R177 with the objects of the group (R273). -/
def State.groupGain (s : State) (g : SlotN) : Rat :=
  s.cfgF (O.groupInertia g) * (2 * Config.pi * s.cfgF (O.groupSpeedBw g)) * 2 * Config.pi / s.cfgN (O.groupCountsPerRev g)
/-- The group loop of a cycle at its leader a: T_g within ±Σcap, and the integrator, which holds while the limit acts (R273). In
GROUP_MODE 0 a group that is brought to rest ramps by the speed loop, as R197 has an axis do. DEDUCED, log entry 131. -/
def State.groupLoop (s : State) (a : AxisN) (g : SlotN) (p : SetPoint) (dt : Rat) : Rat × Rat :=
  let lim := s.capSum g
  let last := s.slots[g].integrator
  if s.cfgN (O.groupMode g) == 0 && !s.slots[g].stopping then (clampQ lim (s.cfgF (O.groupTorqueSet g)), last)
  else
    let kp := s.groupGain g
    let e := s.groupError a g p
    let int := Config.integrate last (kp * (2 * Config.pi * s.cfgF (O.groupSpeedBw g)) / 4 * e) dt
    let t := kp * e + int
    (clampQ lim t, if lim < qabs t then last else int)

/-- Entry k leads slot g as this device knows; TAKEOVER is set where another one led (R272, Table 8.7). -/
def State.setLeader (s : State) (g : SlotN) (k : MemberN) : State :=
  let s := if s.slots[g].leader.any (· != k) then
      s.each (s.localMembers g) fun s a => s.modMember a fun m => { m with takeover := true }
    else s
  s.modSlot g fun x => { x with leader := some k }

/-- Member a leads (R274): its generator leaves TRACKING, the integrator is preset so that the loop gives the last T_g, and it
heads for the set-point of the last GROUP_SHARE; one that is STOPPING goes on with the group stop (R284). -/
def State.lead (s : State) (a : AxisN) (g : SlotN) : State :=
  let k := s.ownIndex g a
  let s := match k with
    | some k => s.setLeader g k
    | none => s
  let s := s.modSlot g fun x => { x with torques := [], stopping := (s.axis a).field.state == .stopping }
  let s := s.modMember a fun m => { m with role := .leader, takeover := true, inherited := true }
  let s := s.handover a
  let s := if (s.axis a).field.state == .stopping then s.enter a .stopping else s
  let p := (s.axis a).prof
  s.modSlot g fun x => { x with integrator := x.tG - s.groupGain g * s.groupError a g { pos := p.p, vel := p.v } }

/-- Member a yields to entry k (R277). -/
def State.yield (s : State) (a : AxisN) (g : SlotN) (k : MemberN) : State :=
  let s := s.stopLeading g
  let s := s.setLeader g k
  let s := s.modMember a fun m => { m with
    role := .follower, takeover := true, inherited := false, shortfall := false, since := s.ref.time }
  let s := s.modProf a fun p => { p with move := .tracking }
  s.event 0x6002 a

/-- A member takes over as leader (R275, R276). -/
def State.takeOver (s : State) (g : SlotN) : State :=
  match s.lowestMember g with
  | none => s
  | some k => match (s.localMembers g).find? fun a => s.ownIndex g a == some k with
    | some a => if (s.axis a).member.role == .leader then s else (s.lead a g).event 0x6001 a
    | none => (s.setLeader g k).modSlot g fun x => { x with refAt := some s.ref.time }

/-- The axis of leader a has left RUNNING and STOPPING (R276): the final GROUP_REF, which keeps its mailbox, carries LEAVING; the
GROUP_SHARE mailbox is emptied (R311); another member of this device takes over where it is the next. -/
def State.leaveLead (s : State) (a : AxisN) (g : SlotN) : State :=
  let s := s.sendRef g a true
  let k := s.slotRank g
  let s := if h : k < 8 then s.modCan (s.groupPort g) fun p => p.abort ⟨8 + k, by omega⟩ else s
  let s := s.modSlot g fun x => { x with waitingShares := [], stopping := false }
  let s := s.modMember a fun m => { m with role := .outOfService, inherited := false, shortfall := false }
  if (s.lowestMember g).isSome then s.takeOver g else s

/-- A member's role follows its axis: OUT_OF_SERVICE outside RUNNING and STOPPING, FOLLOWER when it comes into service. -/
def State.memberRefresh (s : State) (a : AxisN) : State :=
  match s.slotOf a with
  | none => s.modMember a fun m => { m with role := .none }
  | some g =>
    let m := (s.axis a).member
    if m.role == .isolated then s
    else if !s.driving a then
      if m.role == .leader then s.leaveLead a g
      else s.modMember a fun m => { m with role := .outOfService, inherited := false, shortfall := false }
    else if m.role == .outOfService || m.role == .none then
      (s.forgetSeqs g).modMember a fun m => { m with role := .follower, since := s.ref.time }
    else s

/-! ### The member's torque in a cycle (R273, R280, R282, R283) -/

/-- cap_i (R278): the largest drum torque at the present speed: the current limit with the field as it is weakened, the grant while
the member drives and outside STOPPING, REGEN_LIMIT while T_g brakes. -/
def State.memberCap (s : State) (a : AxisN) (g : SlotN) (w : Loop) : Rat :=
  let m := s.motor a
  let f := (s.axis a).field
  let lim := s.iLim a
  let id := max (-lim) ((s.largestCurrents a lim).1 + w.fieldCut)
  let t := qabs (m.torque f.psiR (id, Config.sqrt (max 0 (lim * lim - id * id))))
  let om := 2 * Config.pi * qabs f.speed / m.cpr
  let power := if s.slots[g].tG * f.speed < 0 then some (s.cfgF (O.regenLimit a)) else s.drawLimit a
  s.cfgF (O.memberRatio a) * match power with
    | some p => if om = 0 then t else min t (p / om)
    | none => t

/-- The group's part of an axis-loop execution: the member's capability, the group loop of a leader, and the drum torque
(R273, R278, R280, R282, R283). -/
def State.shareCommit (s : State) (a : AxisN) (w : Loop) (p : SetPoint) (dt : Rat) : State :=
  let s := s.memberRefresh a
  match s.slotOf a with
  | none => s
  | some g =>
    let cap := s.memberCap a g w
    let s := s.modMember a fun m => { m with cap }
    let m := (s.axis a).member
    let v := (s.axis a).field.speed * s.groupScale a g
    let s := if m.role == .leader then
        let (t, int) := s.groupLoop a g p dt
        let recent := s.slots[g].torques.filter fun p => s.ref.time - p.1 ≤ ticksPerMs
        s.modSlot g fun x => { x with
          tG := t, vG := v, integrator := int, torques := (s.ref.time, qabs t) :: recent, leader := s.ownIndex g a }
      else s
    let x := s.slots[g]
    let share : Nat := match s.ownIndex g a with
      | some k => x.shares[k]
      | none => 0
    let droop := s.cfgF (O.droopGain a)
    let follow := clampQ cap ((share : Rat) / 32768 * x.tG - droop * (v - x.vG))
    let ref := if m.role == .isolated || m.role == .rejoining then Config.lowPass m.isoRef v dt else m.isoRef
    let sL := (m.isoShare : Rat) / 32768
    let iso := clampQ (sL * m.isoCap) (sL * m.isoTorque - droop * (v - ref))
    let w := min 1 (((s.ref.time - m.since : Nat) : Rat) / (20 * ticksPerMs : Nat))
    let t := match m.role with
      | .leader | .follower => follow
      | .isolated => iso
      | .rejoining => iso + (follow - iso) * w
      | .none | .outOfService => 0
    s.modMember a fun m => { m with applied := t, isoRef := ref }

/-! ### Received frames (R272, R275 to R283, R320) -/

/-- A sequence value newer than the last one taken (R320). DEDUCED, log entry 43. -/
def newer (bits new : Nat) (last : Option Nat) : Bool :=
  match last with
  | none => true
  | some l =>
    let d := (new + 2 ^ bits - l % 2 ^ bits) % 2 ^ bits
    1 ≤ d && d ≤ 2 ^ (bits - 1) - 1

/-- A frame with another GROUP_CHECK isolates the slot's members (R281). -/
def State.checkMismatch (s : State) (g : SlotN) : State :=
  s.each (s.localMembers g) fun s a =>
    let m := (s.axis a).member
    let s := if m.mismatch then s else (s.modMember a fun m => { m with mismatch := true }).event 0x6107 a
    let s := s.modMember a fun m => { m with goodRefs := 0, goodFrom := none }
    s.isolate a g

/-- Entry k has been heard, in service or not (R272). DEDUCED, log entry 44. -/
def State.heard (s : State) (g : SlotN) (k : MemberN) (service : Bool) : State :=
  s.modSlot g fun x =>
    let p := x.peers[k]
    { x with peers := x.peers.set k { p with
      service, heardAt := some s.ref.time, frameAt := some s.ref.time
      knownSince := if service then some (p.knownSince.getD s.ref.time) else none } }

/-- The receive queue hands a sharing frame of the group to its consumer (R312). -/
def State.takeShared (s : State) (g : SlotN) (prio : Nat) (k : MemberN) : State :=
  let ident := prio * 0x4000000 + s.cfgN (O.groupNumber g) * 0x8000 + k.val * 0x1000
  s.modCan (s.groupPort g) fun p => { p with rx := dropFirst (fun f => f.ident == ident) p.rx }

/-- GROUP_REF as one local member sees it (R276, R277, R283, R284). DEDUCED, log entry 44. -/
def State.memberRef (s : State) (g : SlotN) (x : GroupRef) (known : Bool) (a : AxisN) : State :=
  let m := (s.axis a).member
  let i := (s.ownIndex g a).map (·.val)
  match m.role with
  | .isolated =>
    let n := if m.goodFrom == some x.member then m.goodRefs + 1 else 1
    let s := s.modMember a fun m => { m with goodRefs := n, goodFrom := some x.member }
    if 4 ≤ n && s.portShares g then
      (s.forgetSeqs g).modMember a fun m => { m with role := .rejoining, since := s.ref.time, mismatch := false }
    else s
  | .leader =>
    if i.any fun i => x.member.val < i then
      let s := s.yield a g x.member
      if known then s
      else (s.modMember a fun m => { m with dualLeader := true }).event 0x6108 a
    else s
  | .follower | .rejoining | .outOfService | .none => s

/-- A frame of another member has come: Σcap as it stands now is the group's last one (R282). -/
def State.capHeard (s : State) (g : SlotN) : State :=
  let c := s.capSum g
  s.modSlot g fun x => { x with lastCap := c }

/-- The lowest-numbered member in service on another device; one of this device that does not lead yet follows (R272, R277).
DEDUCED, log entry 44. -/
def State.lowestPeer (s : State) (g : SlotN) : Option MemberN :=
  (List.finRange 8).find? fun k => s.entryService g k && (s.localMembers g).all fun a => s.ownIndex g a != some k

/-- A GROUP_REF of entry k is the leader's (R272): the present leader's, or a lower-numbered member's; without a leader in service that
of the lowest member in service. A LEAVING frame is the final one of the leader (R276). DEDUCED, log entry 44. -/
def State.leads (s : State) (g : SlotN) (k : MemberN) (leaving : Bool) : Bool :=
  match s.slots[g].leader with
  | some l => k.val ≤ l.val || (!s.entryService g l && !leaving && s.lowestPeer g == some k)
  | none => !leaving && s.lowestPeer g == some k

/-- GROUP_REF_RECEIVED (R272, R277, R280, R284). -/
def execGroupRefReceived (g : SlotN) (x : GroupRef) (s : State) : Outcome State Fault Refusal :=
  let s := s.takeShared g 1 x.member
  let p := s.slots[g].peers[x.member]
  if s.cfgN (O.groupNumber g) == 0 || (s.localMembers g).isEmpty then .next s
  else if x.check != s.groupCheck g then .next (s.checkMismatch g)
  else if !newer 16 x.seq p.refSeq then .next s
  else
    let known : Bool := match p.knownSince with
      | some t => 100 * ticksPerMs ≤ s.ref.time - t && s.fresh p.heardAt
      | none => false
    let s := s.heard g x.member (!x.leaving)
    let s := s.modSlot g fun y => { y with peers := y.peers.set x.member { y.peers[x.member] with
      refSeq := some x.seq } }
    let s := s.each (s.localMembers g) fun s a => s.memberRef g x known a
    let s := s.capHeard g
    if (s.localLeader g).isSome || !s.leads g x.member x.leaving then .next s
    else
      let s := (s.setLeader g x.member).modSlot g fun y => { y with refAt := some s.ref.time, tG := x.tG, vG := x.vG }
      let s := if x.stop then s.each (s.localMembers g) fun s a =>
          let role := (s.axis a).member.role
          if (s.axis a).field.state == .running && role != .isolated then s.enter a .stopping else s
        else s
      .next (if x.leaving then s.takeOver g else s)

/-- GROUP_SHARE_RECEIVED (R272, R280, R320). -/
def execGroupShareReceived (g : SlotN) (x : GroupShare) (s : State) : Outcome State Fault Refusal :=
  let s := s.takeShared g 2 x.member
  let p := s.slots[g].peers[x.member]
  if s.cfgN (O.groupNumber g) == 0 || (s.localMembers g).isEmpty then .next s
  else if x.check != s.groupCheck g then .next (s.checkMismatch g)
  else if s.slots[g].leader != some x.member || !newer 7 x.shareVersion p.shareVersion then .next s
  else
    .next ((s.modSlot g fun y => { y with
      peers := y.peers.set x.member { y.peers[x.member] with
        shareVersion := some x.shareVersion, frameAt := some s.ref.time }
      shares := Vector.ofFn fun k => x.shares.getD k.val 0
      shareVersion := x.shareVersion, applied := x.shareVersion, velocityMode := x.velocityMode
      setPoint := x.setPoint }).capHeard g)

/-- Begin a group stop at the leader a (R284): STOP in its GROUP_REF, and its own ramp. -/
def State.beginGroupStop (s : State) (a : AxisN) (g : SlotN) : State :=
  if s.slots[g].stopping then s
  else
    let s := s.modSlot g fun y => { y with stopping := true }
    if (s.axis a).field.state == .running then s.enter a .stopping else s

/-- MEMBER_STATUS_RECEIVED (R272, R284): a leader that reports itself out of service gives way to the next member (R272). -/
def execMemberStatusReceived (g : SlotN) (x : MemberStatus) (s : State) : Outcome State Fault Refusal :=
  let s := s.takeShared g 3 x.member
  let p := s.slots[g].peers[x.member]
  if s.cfgN (O.groupNumber g) == 0 || (s.localMembers g).isEmpty then .next s
  else if x.check != s.groupCheck g then .next (s.checkMismatch g)
  else if !newer 8 x.seq p.statusSeq then .next s
  else
    let s := s.heard g x.member x.inService
    let s := s.modSlot g fun y => { y with peers := y.peers.set x.member { y.peers[x.member] with
      statusSeq := some x.seq, statusAt := some s.ref.time, cap := x.cap, stopRequest := x.stopRequest } }
    let s := s.capHeard g
    match s.localLeader g with
    | some a => .next (if x.stopRequest then s.beginGroupStop a g else s)
    | none => .next (if !x.inService && s.slots[g].leader == some x.member then s.takeOver g else s)

/-! ### Sending (R273, R279, R285, Tables 9.5 to 9.7) -/

/-- GROUP_REF_SEND (R273): the leader's frame of the period. Its STOP flag reaches the followers of this device with it
(R284). -/
def execGroupRefSend (g : SlotN) (s : State) : Outcome State Fault Refusal :=
  match s.localLeader g with
  | some a =>
    if s.memberService a then
      let s := s.sendRef g a false
      .next (if s.slots[g].stopping then s.each (s.localMembers g) fun s b =>
          let role := (s.axis b).member.role
          if (s.axis b).field.state == .running && (role == .follower || role == .rejoining) then s.enter b .stopping
          else s
        else s)
    else .next s
  | none => .next s

/-- The division of R279: the fixed members' shares, and the free members. `fuel` bounds the rounds: every round fixes
at least one member. -/
def shareRounds (tpk : Rat) (w cap : MemberN → Rat) : Nat → List MemberN → List (MemberN × Rat) →
    List (MemberN × Rat) × Bool
  | 0, _, fixed => (fixed, false)
  | fuel + 1, free, fixed =>
    let rest := tpk - qsum (fixed.map (·.2))
    let wsum := qsum (free.map w)
    let share := fun i => rest * w i / wsum
    let past := free.filter fun i => cap i < share i
    if free.isEmpty then (fixed, true)
    else if past.isEmpty then (fixed ++ free.map fun i => (i, share i), false)
    else shareRounds tpk w cap fuel (free.filter fun i => !past.contains i) (fixed ++ past.map fun i => (i, cap i))

/-- T_pk: the largest |T_g| of the last 1 ms (R279). -/
def State.torquePeak (s : State) (g : SlotN) : Rat :=
  ((s.slots[g].torques.filter fun p => s.ref.time - p.1 ≤ ticksPerMs).map (·.2)).foldl max (qabs s.slots[g].tG)

/-- The shares of R279 in 2^−15, by entry, and whether every member is at its capability; with no peak torque, by
weight. DEDUCED, log entry 140. -/
def State.computeShares (s : State) (g : SlotN) (lead : MemberN) : List Nat × Bool :=
  let mem := (List.finRange 8).filter (s.entryService g)
  let w := fun (k : MemberN) => ((s.memberEntry g k % 256 : Nat) : Rat)
  let tpk := s.torquePeak g
  let capSum := qsum (mem.map (s.entryCap g))
  let wsum := qsum (mem.map w)
  let (fr, short) : (MemberN → Rat) × Bool :=
    if tpk = 0 then (fun k => if wsum = 0 then 0 else w k / wsum, false)
    else
      let (res, empty) := shareRounds tpk w (s.entryCap g) 9 mem []
      if empty then (fun k => if capSum = 0 then 0 else s.entryCap g k / capSum, true)
      else (fun k => ((res.find? fun p => p.1 == k).map (·.2)).getD 0 / tpk, false)
  let raw := (List.finRange 8).map fun k => if mem.contains k then (32768 * fr k).floor.toNat else 0
  let total := raw.foldl (· + ·) 0
  ((List.finRange 8).zip raw |>.map fun (k, n) => if k == lead then n + (32768 - total) else n, short)

/-- The set-point the leader hands on, in group counts, with its mode (R274). -/
def State.groupSetPoint (s : State) (a : AxisN) (g : SlotN) : Bool × Int :=
  let v := s.velocityMode a
  (v, wholeOf (((if v then s.velocityOf a else s.targetOf a : Int) : Rat) * s.groupScale a g))

/-- GROUP_SHARE_SEND (R273, R279): the leader computes the shares and sends them; on the leader they act once the frame
is acknowledged (R280). -/
def execGroupShareSend (g : SlotN) (s : State) : Outcome State Fault Refusal :=
  match s.localLeader g with
  | none => .next s
  | some a => match s.ownIndex g a with
    | none => .next s
    | some i =>
      let (shares, short) := s.computeShares g i
      let (vel, sp) := s.groupSetPoint a g
      let was := (s.axis a).member.shortfall
      let s := s.modMember a fun m => { m with shortfall := short }
      let s := if short && !was then s.event 0x6106 a else s
      let inS := (List.finRange 8).foldl (fun n k => if s.entryService g k then n + 2 ^ k.val else n) 0
      let ver := (s.slots[g].shareVersion + 1) % 128
      let s := s.modSlot g fun x => { x with
        shareVersion := ver, waitingShares := (ver, shares) :: x.waitingShares.take 1, velocityMode := vel
        setPoint := sp }
      let data := leBytes 2 (s.groupCheck g) ++ leBytes 1 (vel.toNat * 128 + ver) ++ leBytes 1 inS ++ leBytes 4 sp
        ++ shares.flatMap fun (n : Nat) => leBytes 2 n
      let k := s.slotRank g
      if h : k < 8 then .next (s.canPut (s.groupPort g) ⟨8 + k, by omega⟩ (s.shareFrame g 2 i data))
      else .next s

/-- The frame f of mailbox m of port p has been acknowledged: the shares of the GROUP_SHARE that it is act on its leader (R280). -/
def State.shareAcked (s : State) (p : CanN) (m : MailboxN) (f : CanFrame) : State :=
  s.each (List.finRange 16) fun s g =>
    if s.cfgN (O.groupNumber g) != 0 && s.groupPort g == p && 8 + s.slotRank g == m.val then
      match s.slots[g].waitingShares.find? fun x => f.data[2]?.any fun b => x.1 == b.toNat % 128 with
      | some (v, sh) => s.modSlot g fun x => { x with
          shares := Vector.ofFn fun k => sh.getD k.val 0, applied := v
          waitingShares := x.waitingShares.takeWhile fun y => y.1 != v }
      | none => s
    else s

/-- MEMBER_STATUS_SEND (R276, R284, R285, Table 9.7): the status of member axis a. A leader whose axis has left RUNNING and
STOPPING sends its final GROUP_REF with it; STOP_REQUEST stands until the axis has left RUNNING. -/
def execMemberStatusSend (a : AxisN) (s : State) : Outcome State Fault Refusal :=
  match s.slotOf a with
  | none => .next s
  | some g => match s.ownIndex g a with
    | none => .next s
    | some i =>
      let s := s.memberRefresh a
      let m := (s.axis a).member
      let inS := s.memberService a
      let data := leBytes 1 m.seq ++ leBytes 1 (m.stopRequest.toNat * 2 + inS.toNat) ++ leBytes 2 (s.groupCheck g)
        ++ leBytes 2 (f16Of (m.cap / 1000)) ++ leBytes 2 (f16Of (m.applied / 1000))
      let running : Bool := (s.axis a).field.state == .running
      let s := s.modMember a fun m => { m with
        seq := (m.seq + 1) % 256, sentService := inS, stopRequest := m.stopRequest && running }
      let s := match s.localLeader g with
        | some b => if m.stopRequest then s.beginGroupStop b g else s
        | none => s
      let j := s.memberRank a g
      if h : j < 8 then .next (s.canPut (s.groupPort g) ⟨16 + j, by omega⟩ (s.shareFrame g 3 i data))
      else .next s

/-! ### Silence, age, return (R275 to R283) -/

/-- LEADER_TAKEOVER (R275): two group periods have passed without a GROUP_REF. -/
def execLeaderTakeover (g : SlotN) (s : State) : Outcome State Fault Refusal :=
  if (s.localMembers g).isEmpty || (s.localLeader g).isSome || !s.leaderSilent g then .next s
  else
    let s := match s.slots[g].leader with
      | some k => s.modSlot g fun x => { x with
          peers := x.peers.set k { x.peers[k] with service := false, knownSince := none } }
      | none => s
    if s.hearsStatus g then .next (s.takeOver g)
    else .next (s.each (s.localMembers g) fun s a => if s.driving a then s.isolate a g else s)

/-- MEMBER_AGE_OUT (R272): the newest frame of entry k is older than 2.5 ms. -/
def execMemberAgeOut (g : SlotN) (k : MemberN) (s : State) : Outcome State Fault Refusal :=
  if s.fresh s.slots[g].peers[k].heardAt then .next s
  else .next (s.modSlot g fun x => { x with
    peers := x.peers.set k { x.peers[k] with service := false, heardAt := none, knownSince := none } })

/-- LEAD_RESUME (R277): a returned member with a lower number than the leader begins to lead after 100 ms of following; a leader of
this device yields, as one does that receives its GROUP_REF. DEDUCED, log entry 44. -/
def execLeadResume (g : SlotN) (s : State) : Outcome State Fault Refusal :=
  match (s.localMembers g).find? fun a => (s.axis a).member.role == .follower
      && (match s.ownIndex g a, s.slots[g].leader with
          | some i, some k => i.val < k.val
          | some _, none => false
          | none, _ => false)
      && 100 * ticksPerMs ≤ s.ref.time - (s.axis a).member.since with
  | some a =>
    let s := match s.localLeader g, s.ownIndex g a with
      | some b, some k => s.yield b g k
      | _, _ => s
    .next (s.lead a g)
  | none => .next s

/-- MEMBER_ISOLATED (R281): the port is bus-off or LONE, or no sharing frame of another member has come for 2.5 ms. -/
def execMemberIsolated (a : AxisN) (s : State) : Outcome State Fault Refusal :=
  match s.slotOf a with
  | some g => .next (if !s.portShares g || !s.hearsPeer g then s.isolate a g else s)
  | none => .next s

/-- ISOLATED_TIMEOUT (R282): isolated for ISOLATED_MAX. -/
def execIsolatedTimeout (a : AxisN) (s : State) : Outcome State Fault Refusal :=
  if (s.axis a).member.role == .isolated && s.cfgN (O.isolatedMax a) != 0
      && s.cfgN (O.isolatedMax a) * ticksPerS ≤ s.ref.time - (s.axis a).member.since then
    let s := s.event 0x6109 a
    .next (if (s.axis a).field.state == .running then s.enter a .stopping else s)
  else .next s

/-- MEMBER_REJOINED (R283): the 20 ms ramp ends. -/
def execMemberRejoined (a : AxisN) (s : State) : Outcome State Fault Refusal :=
  if (s.axis a).member.role == .rejoining && 20 * ticksPerMs ≤ s.ref.time - (s.axis a).member.since then
    let s := match s.slotOf a with
      | some g => s.forgetSeqs g
      | none => s
    .next ((s.modMember a fun m => { m with role := .follower, since := s.ref.time }).event 0x6004 a)
  else .next s

end Sys2Proof.Machine
end

