-- ==== Sys2Proof/Machine/Can.lean ====
section
/-! DEFINITION. The CAN ports on the wire: reception and its filters, the mailboxes, the error counters, bus-off,
retirement, and the mode of a port (09). -/

namespace Sys2Proof.Machine

open Host

/-! ### Sessions of a medium -/

/-- End a session: its level returns to READ, its claims and its credential end, and its outstanding requests are still
answered (R342, R346, R515). An Orham or service-port session keeps its replies for repeated requests (R343). DEDUCED, log entry
67. -/
def State.endSession (s : State) (k : Fin 8) : State :=
  { s with net := { s.net with
    sessions := s.net.sessions.set k
      { outstanding := s.net.sessions[k].outstanding, src := s.net.sessions[k].src
        kept := if k = canSession then [] else s.net.sessions[k].kept }
    claims := s.net.claims.filter fun c => c.session != k.val } }

/-! ### Reception (R300, R312, R316, R321) -/

/-- The port takes part in reception. -/
def CanPort.listens (p : CanPort) : Bool := p.sends || p.state == .listen

/-- A valid received frame or an acknowledged transmission ends LONE (R316). -/
def State.canHeard (s : State) (p : CanN) : State :=
  let was := s.can[p].lone
  let s := s.modCan p fun c => { c with ackRun := 0, lone := false }
  if was then s.event 0x7005 p else s

/-- Both error counters are at or below 127 again (R313). -/
def CanPort.recover (c : CanPort) : CanPort :=
  if c.state == .errorPassive && c.tec ≤ 127 && c.recCount ≤ 127 then { c with state := .errorActive } else c

/-- The receive filters of port p (R312): sharing slots, the dictionary address, Thodar connections. -/
def State.canMatches (s : State) (p : CanN) (f : CanFrame) : Bool :=
  let prio := f.ident / 0x4000000
  if prio == 0 then
    f.ident / 0x1000 * 0x1000 == s.deviceBits && f.ident % 0x400 == 0
      && s.safeCfgN (O.thodarMedium (f.ident / 0x400 % 4)) == p.val + 2
  else if prio ≤ 3 then
    f.ident % 0x1000 == 0 && (List.finRange 16).any fun (g : SlotN) =>
      s.cfgN (O.groupNumber g) != 0 && s.groupPort g == p
        && s.cfgN (O.groupNumber g) == f.ident / 0x8000 % 0x800
  else if prio == 4 then
    f.ident / 0x1000 * 0x1000 == 0x10000000 + s.deviceBits && (f.fd || f.data.length == 8)
  else false

/-- Count a discarded frame of port p. DEDUCED, log entry 49. -/
def State.canDiscard (s : State) (p : CanN) : State := s.count (O.rxDiscardCount p)

/-- The receive queue is full: the arriving frame is lost, logged at most once per second (R312). -/
def State.canOverrun (s : State) (p : CanN) : State :=
  let s := (s.count (O.rxOverrunCount p)).modCan p fun c => { c with overrunLatch := true }
  if s.logDue s.can[p].overrunLogged then
    (s.modCan p fun c => { c with overrunLogged := some s.ref.time }).event 0x7106 p
  else s

/-- CAN_FRAME_RECEIVED (R299, R300, R309, R312, R313, R316, R321). DEDUCED, log entry 49. -/
def execCanFrameReceived (p : CanN) (f : CanFrame) (s : State) : Outcome State Fault Refusal :=
  if !s.runs Dom.bus || !s.can[p].listens then .next s
  else
    let s := (s.callBlock (0x0F00 + p.val)).canHeard p
    let passive : Bool := 127 < s.can[p].recCount
    let s := if passive then
        { (s.modCan p fun c => { c with recCount := 119 + Config.recRelease s.draws % 9 }.recover) with
          draws := s.draws + 1 }
      else s.modCan p fun c => { c with recCount := c.recCount - 1 }.recover
    let s := s.modCan p CanPort.intermission
    if f.remote || (f.fd && s.cfgN (O.canMode p) == 1) then .next s
    else if !f.extended || !s.canMatches p f then .next (s.canDiscard p)
    else if 64 ≤ s.can[p].rx.length then
      .next (s.canOverrun p)
    else if f.ident / 0x4000000 < 4 && !f.fd then
      -- sharing frames and Thodar envelopes are FD frames: their consumers take no other (R300, R405)
      .next s
    else .next (s.modCan p fun c => { c with rx := c.rx ++ [f] })

/-! ### Transmission (R305, R309 to R311, R313, R316) -/

/-- The transmitter records its loop delay at the FDF-to-res edge of an FD frame (R305). -/
def State.tdcRecord (s : State) (p : CanN) (fd : Bool) (loopDelay : Nat) : State :=
  if fd && s.cfgN (O.tdcMode p) == 1 then s.setObj (O.tdcMeasured p) (min loopDelay 255) else s

/-- The frame a mailbox of port p offers. -/
def State.boxFrame (s : State) (p : CanN) (m : MailboxN) : Option CanFrame :=
  if s.runs Dom.bus && s.can[p].offered == some m && s.can[p].sends then s.can[p].boxes[m].frame else none

/-- A frame as port p puts it on the bus: an FD frame switches the bit rate where the data rate exceeds the nominal rate, and carries
ESI while the port is error-passive (R299, R300, R313). -/
def State.onBus (s : State) (p : CanN) (f : CanFrame) : CanFrame :=
  { f with brs := f.fd && s.canSwitches p, esi := f.fd && s.can[p].state == .errorPassive }

/-- CAN_TX_SUCCESS (R309 to R311, R316): the frame has been sent and acknowledged; a newer one becomes pending. -/
def execCanTxSuccess (p : CanN) (m : MailboxN) (loopDelay : Nat) (s : State) : Outcome State Fault Refusal :=
  match s.boxFrame p m with
  | none => .next s
  | some f =>
    let s := s.tdcRecord p f.fd loopDelay
    let s := s.emit (.canFrame p (s.onBus p f))
    let s := s.canHeard p
    let s := s.modCan p fun c =>
      ({ c with tec := c.tec - 1, offered := none
                boxes := c.boxes.set m { frame := c.boxes[m].next } }).recover.offer
    .next (s.shareAcked p m f)

/-- Retire port p (R324): off the bus, mailboxes and queue lost; a session bound on it ends, its members become ISOLATED. -/
def State.canRetire (s : State) (p : CanN) : State :=
  let s := s.modCan p fun c => { c.clear with
    state := .retired, retireLatch := true, busOffWait := false, lone := false, ackRun := 0 }
  let s := if s.net.sessions[canSession].bound && s.net.sessions[canSession].src / 0x1000 == p.val then
      s.endSession canSession
    else s
  s.isolatePort p

/-- Retire or report a port whose class has a fault more (R86, R88, R324): `code` is the specific number. -/
def State.canFault (s : State) (p : CanN) (cls specific : Nat) : State :=
  let (fs, d, retire) :=
    countFault s.can[p].faults cls s.ref.time (s.cfgN O.canRetireWindow) (s.cfgN O.canRetireCount)
  let s := s.modCan p fun c => { c with faults := fs }
  let s := s.announce (faultCode 7 d specific) p
  if retire then s.canRetire p else s.isolatePort p

/-- Enter BUS_OFF: every mailbox is kept, an abort or a newer frame that waited for the attempt acts (R310, R311,
R314). -/
def CanPort.busOff (c : CanPort) (wait : Bool) (now : Nat) : CanPort :=
  { c.settle with state := .busOff, tec := 255, busOffWait := wait, countFrom := now }

/-- The transmit error counter after an error: from 128 the port is ERROR_PASSIVE, above 255 it is bus-off (R313,
R314). PRESUMED, log entry 50. -/
def State.tecLimits (s : State) (p : CanN) : State :=
  let c := s.can[p]
  if 255 < c.tec then
    (s.modCan p fun c => c.busOff (s.cfgN (O.busoffRecovery p) == 1) s.ref.time).canFault p 0 2
  else if 127 < c.tec && c.state == .errorActive then
    (s.modCan p fun c => { c with state := .errorPassive }).event 0x7101 p
  else s

/-- CAN_TX_ERROR (R309 to R311, R313, R314, R316): the frame stays pending, unless its abort waited; a newer frame is
the one offered next. PRESUMED, log entry 50. -/
def execCanTxError (p : CanN) (m : MailboxN) (why : CanTxFault) (loopDelay : Option Nat) (s : State) :
    Outcome State Fault Refusal :=
  match s.boxFrame p m with
  | none => .next s
  | some f =>
    let s := match loopDelay with
      | some d => s.tdcRecord p f.fd d
      | none => s
    -- the exception of ISO 11898-1: an acknowledgement error of an error-passive transmitter is not counted
    let add := match why with
      | .arbitrationLost => 0
      | .error => 8
      | .noAck => if s.can[p].state == .errorPassive then 0 else 8
    let s := s.modCan p fun c => { c with
      tec := c.tec + add
      ackRun := match why with
        | .noAck => min 16 (c.ackRun + 1)
        | .arbitrationLost | .error => c.ackRun }
    let s := if s.can[p].ackRun == 16 && !s.can[p].lone then
        ((s.modCan p fun c => { c with lone := true }).event 0x7104 p).isolatePort p
      else s
    let s := s.tecLimits p
    .next (if s.can[p].sends then s.modCan p CanPort.intermission else s)

/-- CAN_RX_ERROR (R309, R313): REC rises by the standard's weight of the error; an intermission follows. PRESUMED, log entry 50. -/
def execCanRxError (p : CanN) (weight : Nat) (s : State) : Outcome State Fault Refusal :=
  if !s.runs Dom.bus || !s.can[p].listens then .next s
  else
    let s := s.modCan p fun c => { c with recCount := min 255 (c.recCount + weight) }.intermission
    if 127 < s.can[p].recCount && s.can[p].state == .errorActive then
      .next ((s.modCan p fun c => { c with state := .errorPassive }).event 0x7101 p)
    else .next s

/-! ### Bus-off and recovery (R314, R323) -/

/-- BUS_OFF_RECOVERED (R314): the 128th occurrence of 11 recessive bits; in LISTEN the port sends nothing afterwards either (R300). -/
def execBusOffRecovered (p : CanN) (s : State) : Outcome State Fault Refusal :=
  if s.can[p].state == .busOff && !s.can[p].busOffWait then
    let s := s.modCan p fun c =>
      { c with state := if s.cfgN (O.canMode p) == 3 then .listen else .errorActive
               tec := 0, recCount := 0, driverFault := false }.offer
    .next (s.event 0x7003 p)
  else .next s

/-- A write of CAN_RELEASE: ignored unless BUSOFF_WAIT is set (R314). -/
def State.canReleaseAct (s : State) (p : CanN) (v : Int) : Acted :=
  if v = 1 && s.can[p].busOffWait then
    (s.modCan p fun c => { c with busOffWait := false, countFrom := s.ref.time }).done
  else s.done

/-- CAN_RELEASE (R314). -/
def execCanRelease (src : Src) (p : CanN) (v : Int) (s : State) : Outcome State Fault Refusal :=
  .next (s.writeRow src (O.canRelease p) v fun s => s.canReleaseAct p v)

/-- DRIVER_TIMEOUT (R323): the transmit line has been dominant for 1.2 ms. -/
def execDriverTimeout (p : CanN) (s : State) : Outcome State Fault Refusal :=
  if !s.runs Dom.bus || !s.can[p].sends then .next s
  else
    let s := s.modCan p fun c => { c.busOff (s.cfgN (O.busoffRecovery p) == 1) s.ref.time with driverFault := true }
    .next (s.canFault p 1 7)

/-- A port starts to take part in its mode: it integrates before it sends or acknowledges (R300, R303).
DEDUCED, log entry 53. -/
def CanPort.start (c : CanPort) (mode : Nat) : CanPort :=
  { c.settle with
    state := if mode = 0 then .off else .integrating
    tec := 0, recCount := 0, busOffWait := false, classical := mode == 1, driverFault := false, ackRun := 0 }

/-- A write of CAN_REINSTATE (R324). -/
def State.canReinstateAct (s : State) (p : CanN) (v : Int) : Acted :=
  let busy : Bool := allAxes.any fun a => match s.slotOf a with
    | some g => s.groupPort g == p && !s.isDisabled a
    | none => false
  if v ≠ 1 then s.done
  else if busy || s.can[p].state != .retired then s.lock
  else
    ((s.modCan p fun c => { c with faults := [], retireLatch := false }.start (s.cfgN (O.canMode p))).event
      0x7008 p).done

/-- CAN_REINSTATE (R324). -/
def execCanReinstate (src : Src) (p : CanN) (v : Int) (s : State) : Outcome State Fault Refusal :=
  .next (s.writeRow src (O.canReinstate p) v fun s => s.canReinstateAct p v)

/-- A write of CAN_ABORT: bit k aborts mailbox k (R310). -/
def State.canAbortAct (s : State) (p : CanN) (mask : Int) : Acted :=
  (s.modCan p fun c => ((List.finRange 32).filter fun (k : MailboxN) => mask.toNat.testBit k.val).foldl
    CanPort.abort c).done

/-- CAN_ABORT (R310). -/
def execCanAbort (src : Src) (p : CanN) (mask : Int) (s : State) : Outcome State Fault Refusal :=
  .next (s.writeRow src (O.canAbort p) mask fun s => s.canAbortAct p mask)

/-! ### The mode of a port (R300, R303, R325) -/

/-- How a port's state follows a new mode: to OFF at once, from OFF and from LISTEN through integration; a port that
stops sending ends its attempt and keeps its mailboxes and LONE (R310, R311, R316); a bus-off or retired port stays so (R300, R303).
DEDUCED, log entry 53. -/
def CanPort.mode (c : CanPort) (mode : Nat) : CanPort :=
  match c.state with
  | .retired => c
  | .off => if mode = 0 then c else c.start mode
  | .busOff => if mode = 0 then c.start 0 else c
  | .integrating => if mode = 0 then c.start 0 else c
  | .listen => if mode = 3 then c else c.start mode
  | .errorActive | .errorPassive =>
    if mode = 0 then c.start 0
    else if mode = 3 then { c.settle with state := .listen, ackRun := 0 }
    else c

/-- A port that becomes CLASSICAL offers no FD frame from the next intermission on. -/
def CanPort.reoffer (c : CanPort) : CanPort :=
  if c.offered.isSome then c else c.offer

/-- A write of CAN_MODE: a port that leaves mode 2 isolates its members (R281, R300). -/
def State.canModeAct (s : State) (p : CanN) (v : Int) : Acted :=
  let was := s.cfgN (O.canMode p)
  let s := s.setObj (O.canMode p) v
  let s := s.modCan p fun c => { c.mode v.toNat with classical := v == 1 }.reoffer
  (if was == 2 && v ≠ 2 then s.isolatePort p else s).done

/-- CAN_MODE_WRITE (R300). -/
def execCanModeWrite (src : Src) (p : CanN) (v : Int) (s : State) : Outcome State Fault Refusal :=
  .next (s.writeRow src (O.canMode p) v fun s => s.canModeAct p v)

/-- CAN_INTEGRATED (R303): 11 recessive bits have been seen. -/
def execCanIntegrated (p : CanN) (s : State) : Outcome State Fault Refusal :=
  if s.runs Dom.bus && s.can[p].state == .integrating then
    .next (s.modCan p fun c =>
      { c with state := if s.cfgN (O.canMode p) == 3 then .listen else .errorActive }.offer)
  else .next s

/-- Domain BUS starts: each port starts afresh in the mode stored in CAN_MODE; a retired port stays retired (R324,
R325). DEDUCED, log entry 53. -/
def State.canStartAll (s : State) : State :=
  s.each (List.finRange 2) fun s (p : CanN) => s.modCan p fun c =>
    if c.state == .retired then c
    else { ({} : CanPort).start (s.cfgN (O.canMode p)) with faults := c.faults, retireLatch := c.retireLatch }

/-- Domain BUS is lost or closed: mailboxes and receive queues are lost, members on both ports become ISOLATED
(R325). -/
def State.canStopAll (s : State) : State :=
  let s := s.each (List.finRange 2) fun s (p : CanN) => s.modCan p fun c =>
    { c.clear with state := if c.state == .retired then .retired else .off, ackRun := 0, lone := false }
  s.each (List.finRange 2) fun s p => s.isolatePort p

end Sys2Proof.Machine
end

