-- ==== Sys2Proof/Machine/Stepper.lean ====
section
/-! DEFINITION. Stepper axes: the chopper, hold and grant scaling, the coil targets, stall, and the microstep
tables (06). -/

namespace Sys2Proof.Machine

open Host

/-! ### The chopper (R206 to R215) -/

/-- Bridge `br` of axis a. -/
def State.bridge (s : State) (a : AxisN) : Bridge → BridgeSt
  | .a => (s.axis a).step.a
  | .b => (s.axis a).step.b
/-- Update a bridge. -/
def State.modBridge (s : State) (a : AxisN) (br : Bridge) (f : BridgeSt → BridgeSt) : State :=
  s.modStep a fun p => match br with
    | .a => { p with a := f p.a }
    | .b => { p with b := f p.b }
/-- The two legs of a bridge (R206). -/
def State.bridgeLegs (s : State) (a : AxisN) (br : Bridge) : List LegN :=
  match br with
  | .a => (s.legsOf a).take 2
  | .b => ((s.legsOf a).drop 2).take 2

/-- The coil current in the target's sense, i'. -/
def BridgeSt.sensed (b : BridgeSt) : Rat := if b.negative then -b.current else b.current
/-- |i*|. -/
def BridgeSt.mag (b : BridgeSt) : Rat := qabs b.target

/-- The decay that DECAY_MODE selects for a target, after that of the previous cycle (R212). -/
def State.decaySelected (s : State) (a : AxisN) (was now : Rat) : Decay :=
  match s.cfgN (O.decayMode a) with
  | 0 => .slow
  | 1 => .mixed
  | 2 => .fast
  | _ => if qabs was ≤ qabs now then .slow else .mixed

/-- The decay a bridge enters, and whether it is fast decay with its CHOP_FAST_TIME running: the selection in force (R209, R212). -/
def State.decayOf (s : State) (a : AxisN) (br : Bridge) : BridgeState × Bool :=
  if (s.bridgeLegs a br).any fun l => (s.leg l).vbsWarn then (.slow, false)
  else match (s.bridge a br).decay with
    | .slow => (.slow, false)
    | .mixed => if s.cfgN (O.chopFastTime a) == 0 then (.slow, false) else (.fast, true)
    | .fast => (.fast, false)

/-- Command the legs of a bridge to a state (Table 6.1); fast decay is the DRIVE opposite to the coil current. -/
def State.bridgeGates (s : State) (a : AxisN) (br : Bridge) (st : BridgeState) : State :=
  let b := s.bridge a br
  let plus : Bool := match st with
    | .drive => !b.negative
    | .fast => b.current < 0
    | .slow | .off => false
  let go := fun (s : State) (l : LegN) (high : Bool) => s.modLeg l fun L =>
    if st == .off then L.allOff
    else { L with pulse := high }.toward (if high then .high else .low)
  match s.bridgeLegs a br with
  | l :: m :: _ => go (go s l (plus && st != .slow)) m (!plus && st != .slow)
  | _ => s

/-- +1 while a bridge drives toward the coil current, −1 while it drives against it (R224). -/
def BridgeSt.drives (b : BridgeSt) : Int :=
  match b.state with
  | .drive => if (b.sensed < 0) != b.against then -1 else 1
  | .fast => -1
  | .slow | .off => 0
/-- The time that a bridge has driven is counted up to the present tick. -/
def State.countDrive (s : State) (a : AxisN) (br : Bridge) : State :=
  s.modBridge a br fun b => { b with
    driveTicks := b.driveTicks + b.drives * (s.ref.time - b.driveAt : Nat), driveAt := s.ref.time }

/-- Enter a bridge state: its minimum time begins (R211). -/
def State.enterBridge (s : State) (a : AxisN) (br : Bridge) (st : BridgeState) (timed catchDown : Bool) : State :=
  let s := (s.countDrive a br).modBridge a br fun b => { b with
    state := st, since := s.ref.time, minTime := true, waiting := none, fastTimed := timed, catchDown, against := false
    forcedSlow := st == .slow && (s.bridgeLegs a br).any fun l => (s.leg l).vbsWarn
    cycleUsable := b.cycleUsable && st != .fast }
  s.bridgeGates a br st

/-- What a compared conversion decides (R211): the state to enter, whether CHOP_FAST_TIME runs in it, and whether it is
the fast decay after a falling target. DEDUCED, log entry 142. -/
def State.chopDecision (s : State) (a : AxisN) (br : Bridge) : Option (BridgeState × Bool × Bool) :=
  let b := s.bridge a br
  let h := s.cfgF (O.chopHyst a)
  let u := b.mag + b.offset + h / 2
  let l := b.mag + b.offset - h / 2
  let i := b.sensed
  let (d, timed) := s.decayOf a br
  -- a SLOW forced by VBS_WARN lasts at least 1.2 µs: 480 reference ticks (R212)
  if b.state == .off || (b.state == .slow && b.forcedSlow && s.ref.time < b.since + 480) then none
  else if b.mag < h / 2 then
    let want : BridgeState := if qabs b.current ≤ h / 2 then .slow else .fast
    if b.state == want then none else some (want, false, false)
  else match b.state with
    | .drive =>
      -- against the target it is no DRIVE toward s (R211); DEDUCED, log entry 142
      if b.against && i ≤ l then some (.drive, false, false)
      else if u ≤ i then some (d, timed, false) else none
    | .slow =>
      if i ≤ l then some (.drive, false, false)
      else if h < i - u then some (.fast, false, true) else none
    | .fast =>
      if i ≤ l then some (.drive, false, false)
      else if b.catchDown && i ≤ u then some (d, timed, false) else none
    | .off => none

/-- The target up to the present tick enters the mean of the running chopping cycle (R214). -/
def BridgeSt.countTarget (b : BridgeSt) (now : Nat) : BridgeSt :=
  { b with targetSum := b.targetSum + b.mag * (now - b.targetAt : Nat), targetAt := now }
/-- A compared conversion enters the mean of the running chopping cycle; the conversion ticks since the last compared one, every
200th, take values between the two (R210, R214). -/
def BridgeSt.countConversion (b : BridgeSt) (i : Rat) (now : Nat) : BridgeSt :=
  let c := { b with current := i, convAt := some now }
  match b.convAt, b.cycleStart with
  | some t, some start =>
    let k : Rat := ((now - t) / 200 : Nat)
    let skip : Rat := ((start - t) / 200 : Nat)
    let step := c.sensed - b.sensed
    let sum := (k - skip) * b.sensed + (if k = 0 then 0 else step / k * (k * (k + 1) - skip * (skip + 1)) / 2)
    { c with convSum := b.convSum + sum, convCount := b.convCount + (k - skip).floor.toNat }
  | _, some _ => { c with convSum := c.sensed, convCount := 1 }
  | _, none => c

/-- A chopping cycle ends at an entry into DRIVE: the adaptive offset (R214) and CHOP_FREQ. A cycle without a compared conversion
has no mean and is not used. DESIGN CHOICE, log entry 37. -/
def State.chopCycleEnd (s : State) (a : AxisN) (br : Bridge) : State :=
  let now := s.ref.time
  let b := (s.bridge a br).countTarget now
  let lim := s.cfgF (O.stepCurrent a) * s.cfgN (O.chopOffsetMax a) / 100
  let len := now - b.cycleStart.getD now
  let use := b.cycleUsable && b.convCount != 0 && 0 < len && len ≤ 2 * ticksPerMs && s.cfgF (O.chopHyst a) ≤ b.mag
  let mean := b.convSum / b.convCount - b.targetSum / len
  let s := match b.cycleStart, br with
    | some _, .a => s.modStep a fun p => { p with chopFreq := if len = 0 then 255 else min 255 (4000000 / len) }
    | _, _ => s
  s.modBridge a br fun _ => { b with
    offset := if use then clampQ lim (b.offset - s.cfgF (O.chopAdapt a) * mean) else b.offset
    cycleStart := some now, cycleUsable := decide (s.cfgF (O.chopHyst a) ≤ b.mag)
    convSum := 0, convCount := 0, targetSum := 0 }

/-- The chopper logic of axis a acts: its control EN is asserted, outside a precharge (R210, R66). -/
def State.chopping (s : State) (a : AxisN) : Bool :=
  s.isStepper a && s.driving a && !(s.axis a).field.regain && (s.axis a).reaction.gate == Reaction.normal

/-- The present tick is valid for sampling after the last edges of both bridges (R97, R210). -/
def State.convValid (s : State) (a : AxisN) : Bool :=
  let settle := ns16 (s.settleNs a)
  [Bridge.a, .b].all fun br =>
    let b := s.bridge a br
    let dead := (s.bridgeLegs a br).foldl (fun m l => max m (s.deadtimeEff l)) 0
    b.since != s.ref.time && decide ((16 * b.since + dead : Int) + settle ≤ 16 * s.ref.time)

/-- The coil current as the chopper reads it (R210); none where the inputs it reads give none. Of two inputs one alone serves
while the other is substituted (DESIGN CHOICE, log entry 130). -/
def State.coilReading (s : State) (a : AxisN) (br : Bridge) (bad : List LegN) : Option Rat :=
  match s.bridgeLegs a br with
  | l :: m :: _ =>
    let own := fun (k : LegN) => !s.inputs[k].substituted && !bad.contains k
    let i := s.inputs[l].reading
    let j := s.inputs[m].reading
    if s.cfgN (O.stepSense a) == 0 then (if own l then some i else none)
    else match own l, own m with
      | true, true => some ((i - j) / 2)
      | true, false => some i
      | false, true => some (-j)
      | false, false => none
  | _ => none

/-- The two readings of a bridge are compared (R210), where both inputs give one; with SUM_TOL 0 no check is made (R113). -/
def State.coilSum (s : State) (a : AxisN) (br : Bridge) (bad : List LegN) : State :=
  match s.bridgeLegs a br with
  | l :: m :: _ =>
    let tol := s.cfgN (O.sumTol a)
    let both := s.cfgN (O.stepSense a) == 1 && tol != 0
      && [l, m].all fun k => !s.inputs[k].substituted && !bad.contains k
    let past : Bool := both
      && decide (s.cfgF (O.stepCurrent a) * tol < 100 * qabs (s.inputs[l].reading + s.inputs[m].reading))
    s.modBridge a br fun b => { b with sumRun := if past then min (b.sumRun + 1) 8 else 0 }
  | _ => s

/-- A conversion tick of a bridge: its readings are taken (R90, R97, R210, R113); the coil current, where the tick is valid for
sampling and the inputs give one. -/
def State.takeCoil (s : State) (a : AxisN) (br : Bridge) (xs : List Conversion) : State × Option Rat :=
  let legs := (s.coilInputs a).getD (if br == .a then 0 else 1) []
  let got := legs.zip xs
  let bad := legs.filter fun l => !got.any fun x => x.1 == l && convOk x.2 && !saturated x.2.code
  let valid := s.convValid a
  let s := s.each legs fun s l => s.modInput l fun i => { i with validLast := valid }
  let s := (s.takeSamples a got).coilSum a br bad
  (s, if valid && s.chopping a then s.coilReading a br bad else none)
/-- The coil current is compared with the thresholds (R211): the state it decides on is entered, or waits while the minimum time
runs. -/
def State.chopCompare (s : State) (a : AxisN) (br : Bridge) (i : Rat) : State :=
  let s := (s.countDrive a br).modBridge a br fun b => b.countConversion i s.ref.time
  match s.chopDecision a br with
  | none => s
  | some (st, timed, down) =>
    if (s.bridge a br).minTime then s.modBridge a br fun b => { b with waiting := some (st, timed, down) }
    else (if st == .drive then s.chopCycleEnd a br else s).enterBridge a br st timed down

/-- CHOPPER_DECISION (R90, R97, R210 to R214): a conversion tick of a bridge. -/
def execChopperDecision (a : AxisN) (br : Bridge) (xs : List Conversion) (s : State) :
    Outcome State Fault Refusal :=
  if !s.chopping a then .next s
  else match s.takeCoil a br xs with
    | (s, some i) => .next (s.chopCompare a br i)
    | (s, none) => .next s

/-- A bridge has been in its state for `ns`. -/
def State.bridgeStood (s : State) (a : AxisN) (br : Bridge) (ns : Nat) : Bool :=
  16 * (s.bridge a br).since + ns16 ns ≤ 16 * s.ref.time

/-- CHOP_MIN_TIME_EXPIRY (R211): a decision that waited takes effect. -/
def execChopMinTimeExpiry (a : AxisN) (br : Bridge) (s : State) : Outcome State Fault Refusal :=
  let b := s.bridge a br
  if !s.bridgeStood a br (s.cfgN (O.chopMinTime a)) then .next s
  else
  let s := s.modBridge a br fun b => { b with minTime := false, waiting := none }
  match b.minTime && s.chopping a, b.waiting with
  | true, some (st, timed, down) => .next ((if st == .drive then s.chopCycleEnd a br else s).enterBridge a br st timed down)
  | _, _ => .next s

/-- A target below half the hysteresis holds a bridge in fast decay while the current is above it (R211). -/
def State.heldFast (s : State) (a : AxisN) (br : Bridge) : Bool :=
  let half := s.cfgF (O.chopHyst a) / 2
  (s.bridge a br).mag < half && half < qabs (s.bridge a br).current

/-- CHOP_FAST_TIME_EXPIRY (R212): mixed decay goes on in SLOW, but where a small target holds the bridge in fast decay (R211). -/
def execChopFastTimeExpiry (a : AxisN) (br : Bridge) (s : State) : Outcome State Fault Refusal :=
  let b := s.bridge a br
  if s.chopping a && b.state == .fast && b.fastTimed && !s.heldFast a br && s.bridgeStood a br (s.cfgN (O.chopFastTime a)) then
    if b.minTime then .next (s.modBridge a br fun b => { b with waiting := some (.slow, false, false) })
    else .next (s.enterBridge a br .slow false false)
  else .next s

/-- COIL_OPEN (R215): DRIVE has lasted CHOP_DRIVE_MAX and i' is still below U. -/
def execCoilOpen (a : AxisN) (br : Bridge) (s : State) : Outcome State Fault Refusal :=
  let b := s.bridge a br
  let h := s.cfgF (O.chopHyst a)
  if s.chopping a && b.state == .drive && b.since + s.cfgN (O.chopDriveMax a) * ticksPerUs ≤ s.ref.time
      && h ≤ b.mag && b.sensed < b.mag + b.offset + h / 2 then
    .next (((s.modStep a fun p => { p with coilOpen := true }).event 0x5243 a).faultAllOff a)
  else .next s

/-- STEPPER_SUM_IMPLAUSIBLE (R210): the eighth consecutive conversion on which the two readings disagree. -/
def execStepperSumImplausible (a : AxisN) (br : Bridge) (s : State) : Outcome State Fault Refusal :=
  if s.chopping a && 8 ≤ (s.bridge a br).sumRun then
    .next (((s.modBridge a br fun b => { b with sumRun := 0 }).event 0x220B a).faultAllOff a)
  else .next s

/-! ### Hold, grant and scale (R216, R226, R227) -/

/-- HOLD_CURRENT / STEP_CURRENT. -/
def State.holdRatio (s : State) (a : AxisN) : Rat := s.cfgF (O.holdCurrent a) / s.cfgF (O.stepCurrent a)

/-- The scale k that the acting grant asks for (Table 6.3). DEDUCED, log entry 38. -/
def State.grantK (s : State) (a : AxisN) : Rat :=
  let r := (s.axis a).field.grant
  let hold := (s.axis a).step.holding
  match r.code with
  | .full => if hold then s.holdRatio a else 1
  | .scaled =>
    let q := Config.sqrt r.scale
    if hold then q * s.holdRatio a else max q (s.holdRatio a)
  | .deferred | .refused => if hold then 0 else (s.axis a).step.kTo

/-- k runs to a new end value: at once, or linearly over 10 ms. -/
def State.setK (s : State) (a : AxisN) (k : Rat) (ramp : Bool) : State :=
  s.modStep a fun p => { p with kFrom := if ramp then p.k else k, kSince := s.ref.time, kTo := k }

/-- k now. DEDUCED, log entry 38. -/
def State.rampK (s : State) (a : AxisN) : Rat :=
  let p := (s.axis a).step
  let e := min (s.ref.time - p.kSince) (10 * ticksPerMs)
  p.kFrom + (p.kTo - p.kFrom) * e / (10 * ticksPerMs : Nat)

/-- HOLD_ENTRY (R216): the profile velocity has been zero for HOLD_DELAY. -/
def execHoldEntry (a : AxisN) (s : State) : Outcome State Fault Refusal :=
  let x := s.axis a
  if s.isStepper a && x.field.state == .running && !x.step.aligning && !x.step.holding && x.prof.v == 0
      && x.step.restSince.any fun t => t + s.cfgN (O.holdDelay a) * ticksPerMs ≤ s.ref.time then
    let s := s.modStep a fun p => { p with holding := true, holdingAt := s.ref.time }
    .next (s.setK a (s.grantK a) true)
  else .next s

/-- The stop of a move under a grant of nothing, and its end (Table 6.3): no new move starts while nothing is granted, also once the
axis holds. DEDUCED, log entry 38. -/
def State.stepGrantStop (s : State) (a : AxisN) (stop refused : Bool) : State :=
  let p := (s.axis a).prof
  if stop then
    let d := accUnits (s.cfg (O.stopDecel a))
    let s := s.modStep a fun q => { q with stopped := true }
    let s := if p.move == .stopRamp || p.move == .tracking then s
      else s.modProf a fun p => { p with
        move := .stopRamp, j := 0, eta := 0xFFFF, a := if p.v > 0 then -d else if p.v < 0 then d else 0 }
    if refused && p.v == 0 then (s.setObj (O.targetPos a) p.pos).unstage (O.targetPos a) else s
  else if (s.axis a).step.stopped then
    (s.modStep a fun q => { q with stopped := false }).modProf a fun p =>
      { p with move := if p.move == .stopRamp then .moving else p.move }
  else s

/-- The axis answers its grant in this cycle (R227). DEDUCED, log entry 38. -/
def State.stepGrant (s : State) (a : AxisN) : State :=
  let x := s.axis a
  let r := x.field.grant
  if x.field.state != .running || x.step.aligning then
    (s.modStep a fun p => { p with auxReduced := false, unpowered := false }).modProf a fun p =>
      { p with grantScaled := false }
  else
    let hold := x.step.holding
    let none : Bool := r.code == .deferred || r.code == .refused
    let scaled : Bool := r.code == .scaled
    let s := if scaled && !x.step.auxReduced then s.event 0x5145 a else s
    let s := if none && hold && !x.step.unpowered then s.event 0x5146 a else s
    let k := s.grantK a
    let s := if k != x.step.kTo then s.setK a k (x.step.unpowered && !none) else s
    let s := s.modStep a fun p => { p with auxReduced := scaled, unpowered := none && hold }
    let s := s.modProf a fun p => { p with grantScaled := scaled && !hold }
    s.stepGrantStop a none (r.code == .refused)

/-! ### Coil targets (R208, R216, R220, R223) -/

/-- The profile position n ticks ahead, in 2^−96 counts: n steps of R229. -/
def Profile.ahead (p : Profile) (n : Nat) : Int :=
  let n : Int := n
  match p.move with
  | .tracking => p.p + n * p.v
  | .stopRamp =>
    -- P holds from the tick at which V would change sign (R240)
    let k := if p.a = 0 then n else min n (p.v.natAbs / p.a.natAbs : Nat)
    p.p + k * p.v + k * (k - 1) / 2 * p.a
  | .idle | .moving => p.p + n * p.v + n * (n - 1) / 2 * p.a + n * (n - 1) * (n - 2) / 6 * p.j

/-- Ticks from the sample instant to the middle of the interval that begins at the update point (R162, R163). -/
def State.midTicks (s : State) (a : AxisN) : Nat :=
  let t := s.carrierTicks a
  if s.cfgN (O.updateMode a) == 1 then 3 * t / 4 else t

/-- Electrical revolutions of a set-point's position, in 2^−96 counts before HOME_OFFSET_NOW (R160, R208, R265). -/
def State.stepTurns (s : State) (a : AxisN) (p : Int) : Rat :=
  (p : Rat) / (unit96 : Rat) * (s.motor a).turnsPerCount + ((s.axis a).field.commOffset : Rat) / 65536
/-- The microstep index m of a position (R208). -/
def State.microIndex (s : State) (a : AxisN) (p : Int) : Nat := (1024 * frac1 (s.stepTurns a p)).floor.toNat % 1024

/-- A stall (R225). One in an edge phase of method 2 is no stall of the stall method: it is reported, and it fails the homing
(R266). -/
def State.stepStall (s : State) (a : AxisN) : State :=
  let x := s.axis a
  let s := (s.modStep a fun p => { p with stallLatch := true }).emit (.fabric .stepStall a)
  if x.home.state == .running && (x.home.cfg.method == 1 || x.home.cfg.method == 3) then
    (s.event 0x5041 a).homeStallTaken a
  else
    let s := (s.event 0x5242 a).homeStallTaken a
    if s.cfgN (O.stallAction a) == 1 then s.faultAllOff a else s

/-- The back-EMF of a coil over a cycle, in the sense of its current (R224). DEDUCED, log entry 140. -/
def State.coilEmf (s : State) (a : AxisN) (br : Bridge) : Rat :=
  let b := s.bridge a br
  let ticks : Rat := s.cycleTicks a
  let di := (b.current - b.lastCurrent) * (if b.current < 0 then -1 else 1)
  s.vdc a * b.driveTicks / ticks - s.cfgF (O.rs a) * qabs b.current - s.cfgF (O.ld a) / 1000 * di * ticksPerS / ticks
/-- The power that a coil drew over a cycle, W. DEDUCED, log entries 38 and 140. -/
def State.coilPower (s : State) (a : AxisN) (br : Bridge) : Rat :=
  let b := s.bridge a br
  s.vdc a * b.driveTicks / s.cycleTicks a * qabs b.current
/-- The chopper's times of a cycle have been read (R224). -/
def State.coilsRead (s : State) (a : AxisN) : State :=
  let next := fun (b : BridgeSt) => { b with driveTicks := 0, lastCurrent := b.current }
  s.modStep a fun p => { p with a := next p.a, b := next p.b }

/-- The run that makes a stall stands at n; the second of a run is the stall (R223, R224). -/
def State.stallSeen (s : State) (a : AxisN) (n : Nat) : State :=
  let was := (s.axis a).step.stallRun
  let s := s.modStep a fun p => { p with stallRun := n }
  if n == 2 && was != 2 then s.stepStall a else s

/-- The stall check of a cycle against the channel (R223): the commanded θe is that of R208. -/
def State.stallAngle (s : State) (a : AxisN) (p : SetPoint) : State :=
  let x := s.axis a
  let chan : Rat := (x.field.snapshot.position : Rat) + (x.field.snapshot.fraction : Rat) / 65536
  let d := 360 * (s.motor a).turnsPerCount * qabs (wrapQ ((p.pos : Rat) / (unit96 : Rat) - chan))
  s.stallSeen a (if (s.cfgN (O.stallAngle a) : Rat) < d then min (x.step.stallRun + 1) 2 else 0)

/-- The mean of the newest cycles of a trail that make up n electrical revolutions, times their number, and what is older; none where
they do not make them up yet. -/
def oneTurn : Rat → Rat → List (Rat × Rat) → Option (Rat × List (Rat × Rat))
  | _, _, [] => none
  | left, sum, (θ, e) :: t => if left ≤ θ then some (sum + e, t) else oneTurn (left - θ) (sum + e) t

/-- The cycles of a trail that make up its newest two electrical revolutions. -/
def twoTurns : Rat → List (Rat × Rat) → List (Rat × Rat)
  | _, [] => []
  | left, x :: t => if left ≤ 0 then [] else x :: twoTurns (left - x.1) t

/-- Consecutive electrical cycles up to now whose mean lies below the limit, up to 2 (R224). -/
def lowTurns (trail : List (Rat × Rat)) : Nat :=
  match oneTurn 1 0 trail with
  | some (x, older) =>
    if 0 ≤ x then 0
    else match oneTurn 1 0 older with
      | some (y, _) => if y < 0 then 2 else 1
      | none => 1
  | none => 0

/-- The stall check by the back-EMF of both coils (R224): its mean over an electrical cycle that ends with the present one, and over
the one before, against the limit. Below STALL_MIN_SPEED nothing is evaluated. DEDUCED, log entry 140. -/
def State.stallEmf (s : State) (a : AxisN) (p : SetPoint) : State :=
  let v := qabs p.speed
  if v < (s.cfgN (O.stallMinSpeed a) : Rat) then s.modStep a fun x => { x with emfTrail := [], stallRun := 0 }
  else
    let e := Config.sqrt (s.coilEmf a .a * s.coilEmf a .a + s.coilEmf a .b * s.coilEmf a .b)
    let rpm := v * 60 / s.countsRev a
    let limit := (s.cfgN (O.stallRatio a) : Rat) / 100 * Config.sqrt 2 * s.cfgF (O.keNom a) * rpm / 1000
    let turns := v * (s.motor a).turnsPerCount * s.cycleTicks a / ticksPerS
    let trail := twoTurns 3 ((turns, e - limit) :: (s.axis a).step.emfTrail)
    (s.modStep a fun x => { x with emfTrail := trail }).stallSeen a (lowTurns trail)

/-- A table entry passes its check at the crest (R222). -/
def entryOk (flip : BitVec 8) (v : Int) : Bool := checkOf v ^^^ flip == checkOf v

/-- The stepper's part of an axis-loop execution (R208, R216, R220 to R227): `p` is the set-point, its position that of the middle
of the interval which the commit governs. -/
def State.stepCommit (s : State) (a : AxisN) (p : SetPoint) (tableFlip : BitVec 8) : State :=
  let x := s.axis a
  let c := x.field.crest
  let moving : Bool := x.prof.v != 0
  let s := (s.countDrive a .a).countDrive a .b
  let drawn := s.coilPower a .a + s.coilPower a .b
  let s := s.modField a fun f =>
    let speed := if (s.channelOf a).isSome then f.snapshot.speed else p.speed
    { f with
      power := drawn, drawnSum := f.drawnSum + drawn, drawnCycles := f.drawnCycles + 1, speed
      speeds := lastSpeeds s.ref.time ((s.ref.time, speed) :: f.speeds) }
  let s := s.modStep a fun p => { p with
    restSince := if moving then none else some (p.restSince.getD s.ref.time)
    holding := p.holding && !moving
    holdingAt := if p.holding && moving then s.ref.time else p.holdingAt }
  let s := if x.step.holding && moving && !x.step.unpowered then s.setK a 1 false else s
  let s := s.stepGrant a
  -- the coils are energised at STEP_CURRENT (R217)
  let k := if x.step.aligning || !s.driving a then 1 else s.rampK a
  let m := s.microIndex a p.pos
  let s := if x.step.tablePending && (!s.driving a || x.step.tableSeen && m / 256 != x.step.index / 256) then s.takeTable a else s
  let s := if !s.driving a then s else if (s.channelOf a).isSome then s.stallAngle a p else s.stallEmf a p
  let s := (s.coilsRead a).modStep a fun p => { p with k, index := m }
  let t := s.tables[s.tableOf a]
  let bytes := if (s.axis a).step.tablePending then t.previous else t.active
  let ea := tableEntry bytes m
  let eb := tableEntry bytes ((m + 256) % 1024)
  if entryOk tableFlip ea && entryOk tableFlip eb then
    let amp := s.cfgF (O.stepCurrent a) * k / 2047
    let commit := fun (i : Rat) (b : BridgeSt) => { b with next := i, nextDecay := s.decaySelected a b.next i }
    s.modStep a fun p => { p with a := commit (amp * ea) p.a, b := commit (amp * eb) p.b }
  else s.checkFail 4 c (some c)

/-- The chopper logic takes the committed targets and the decay selection at the update point (R209).
DEDUCED, log entries 39 and 142. -/
def State.stepUpdate (s : State) (a : AxisN) : State :=
  let take := fun (h : Rat) (b : BridgeSt) =>
    let negative := if b.next = 0 then b.negative else decide (b.next < 0)
    { b.countTarget s.ref.time with
      target := b.next, decay := b.nextDecay, negative, against := b.against != (b.state == .drive && negative != b.negative)
      cycleUsable := b.cycleUsable && h ≤ qabs b.next }
  let h := s.cfgF (O.chopHyst a)
  let s := (s.countDrive a .a).countDrive a .b
  s.modStep a fun p => { p with a := take h p.a, b := take h p.b }

/-- The coils are energised (R217): a bridge begins in DRIVE toward its target, or in SLOW where its target is below half the
hysteresis (R211). -/
def State.stepEnergise (s : State) (a : AxisN) : State :=
  let s := s.modStep a fun p => { p with
    aligning := true, alignAt := s.ref.time, holding := false, restSince := none, k := 1, kFrom := 1, kTo := 1, stallLatch := p.stallLatch }
  let s := match s.channelOf a with
    | some f => if s.chanValid f then s.modProf a fun p => { p with p := s.axisPos a * unit96, v := 0, a := 0, j := 0 }
                else s
    | none => s
  let half := s.cfgF (O.chopHyst a) / 2
  let start := fun (s : State) (br : Bridge) =>
    s.enterBridge a br (if (s.bridge a br).mag < half then .slow else .drive) false false
  let s := start (start s .a) .b
  let first := fun (b : BridgeSt) => { b with
    convSum := 0, convCount := 0, convAt := none, targetSum := 0, targetAt := s.ref.time, driveTicks := 0, sumRun := 0
    cycleStart := some s.ref.time, cycleUsable := decide (s.cfgF (O.chopHyst a) ≤ b.mag) }
  s.modStep a fun p => { p with a := first p.a, b := first p.b }

/-- STEP_ALIGN_END (R217): STEP_ALIGN_TIME has passed, and the planner takes over. -/
def execStepAlignEnd (a : AxisN) (s : State) : Outcome State Fault Refusal :=
  let x := s.axis a
  if s.isStepper a && x.step.aligning && s.driving a
      && x.step.alignAt + s.cfgN (O.stepAlignTime a) * ticksPerMs ≤ s.ref.time then
    let s := s.modStep a fun p => { p with aligning := false }
    .next (s.catchRelease a)
  else .next s

/-! ### The shared tables (R218 to R222) -/

/-- STEP_TABLE_COMMIT (R219 to R221). -/
def State.stepTableCommit (s : State) (t : TableN) : Acted :=
  if !(s.pendingAxes t).isEmpty then (s, .busy, 0x13)
  else
    let st := s.tables[t].staging
    if !(List.range 1024).all fun k => -2047 ≤ tableEntry st k && tableEntry st k ≤ 2047 then (s, .outOfRange, 0)
    else
      let s := s.modTable t fun x => { x with
        previous := x.active, active := x.staging, version := (x.version + 1) % 256 }
      let run := allAxes.filter fun a => s.isStepper a && s.tableOf a == t && s.driving a
      let s := s.each run fun s a => s.modStep a fun p => { p with tablePending := true }
      (if run.isEmpty then s.event 0x5044 t else s).done

/-- STEP_TABLE_COMMIT: a write of STEP_TABLE_COMMIT. -/
def execStepTableCommit (src : Src) (t : TableN) (v : Int) (s : State) : Outcome State Fault Refusal :=
  .next (s.writeRow src (O.stepTableCommit t) v fun s => s.stepTableCommit t)

/-- STEP_TABLE_RESTORE (R218): the factory sine goes into staging. -/
def State.stepTableRestore (s : State) (t : TableN) : Acted :=
  (s.modTable t fun x => { x with staging := factoryBytes }).done

/-- STEP_TABLE_RESTORE: a write of STEP_TABLE_RESTORE. -/
def execStepTableRestore (src : Src) (t : TableN) (v : Int) (s : State) : Outcome State Fault Refusal :=
  .next (s.writeRow src (O.stepTableRestore t) v fun s => s.stepTableRestore t)

/-- STEP_TABLE_FLASH_WRITTEN (R219 step 4). -/
def execStepTableFlashWritten (t : TableN) (s : State) : Outcome State Fault Refusal :=
  .next (s.modTable t fun x => { x with flash := x.active })

end Sys2Proof.Machine
end

