-- ==== Sys2Proof/Machine/SafePaths.lean ====
section
/-! DEFINITION. The two safety paths: inputs, demands, the enables SEN-P and SEN-L, the monitored functions, lock-outs and
their reset, and the brake outputs with their test pulses (11). -/

namespace Sys2Proof.Machine

open Host

/-- Safety inputs SI0 to SI19, brake outputs SBC0 to SBC15, connections 0 to 3, both paths. -/
def allSi : List SiN := List.finRange 20
/-- Brake outputs. -/
def allSbc : List SbcN := List.finRange 16
/-- Thodar connections. -/
def allConns : List ConnN := List.finRange 4

/-- Update the safety side of the module. -/
def State.modSafety (s : State) (f : Safety → Safety) : State := { s with safety := f s.safety }
/-- Update the safety side of axis a. -/
def State.modSafe (s : State) (a : AxisN) (f : SafeAxis → SafeAxis) : State :=
  s.modAxis a fun x => { x with safe := f x.safe }
/-- Update brake output k. -/
def State.modBrake (s : State) (k : SbcN) (f : Brake → Brake) : State :=
  s.modSafety fun x => { x with brakes := x.brakes.set k (f x.brakes[k]) }
/-- Update connection j. -/
def State.modConn (s : State) (j : ConnN) (f : Conn → Conn) : State :=
  s.modSafety fun x => { x with conns := x.conns.set j (f x.conns[j]) }

/-! ### Inputs and demands (R366 to R371) -/

/-- A channel's next sample: a change is recognised when the new state has been shown on samples that span SI_FILTER
(R367). -/
def SiChannel.sample (c : SiChannel) (level : Bool) (filter : Nat) : SiChannel :=
  let run := if c.energised == level then min (c.run + 1) 0x100 else 1
  { energised := level, run, demand := if filter + 1 ≤ run then !level else c.demand }

/-- The input demands in this path (R368). -/
def SiPath.demands (x : SiPath) : Bool := x.a.demand || x.b.demand

/-- What path `w` holds of input i. -/
def State.siPath (s : State) (w : Path) (i : SiN) : SiPath :=
  match w with
  | .p => s.safety.inputs[i].p
  | .l => s.safety.inputs[i].l

/-- Take a path's samples of the safety inputs; an input with SI_FUNCTION 0 is not evaluated (R366). -/
def State.sampleInputs (s : State) (w : Path) (xs : List SiSample) : State :=
  s.each (allSi.zip xs) fun s (i, x) =>
    if s.safeCfgN (O.siFunction i) == 0 then s
    else
      let f := s.safeCfgN (O.siFilter i)
      let y := s.siPath w i
      let y : SiPath := { y with a := y.a.sample x.aEnergised f, b := y.b.sample x.bEnergised f }
      let y := { y with shown := y.shown || !y.demands }
      s.modSafety fun z => { z with inputs := z.inputs.set i (match w with
        | .p => { z.inputs[i] with p := y }
        | .l => { z.inputs[i] with l := y }) }

/-- A wired demand of function `fn` on axis a as path w recognises it (R366, R368). -/
def State.wired (s : State) (w : Path) (fn : Nat) (a : AxisN) : Bool :=
  allSi.any fun i => s.safeCfgN (O.siFunction i) == fn && (s.safeCfgN (O.siAxes i)).testBit a
    && (s.siPath w i).demands

/-- A demand of function `fn` on axis a from a virtual input (R371, R408): outside RUN every virtual input demands.
DEDUCED, log entry 40. -/
def State.virtual (s : State) (fn : Nat) (a : AxisN) : Bool :=
  allConns.any fun j => (List.range 24).any fun k =>
    let v := 24 * j.val + k
    s.safeCfgN (O.viFunction v) == fn && (s.safeCfgN (O.viAxes v)).testBit a
      && (s.safety.conns[j].state != .run || s.safety.conns[j].demand.getLsbD k)

/-- A demand of function `fn` on axis a in path w; SAFE-P alone evaluates the virtual inputs (R371). -/
def State.demanded (s : State) (w : Path) (fn : Nat) (a : AxisN) : Bool :=
  s.wired w fn a || (w == .p && s.virtual fn a)

/-! ### The enables (R361) -/

/-- Both paths run and hear each other (R361, R364). DEDUCED, log entry 55. -/
def State.platformRun (s : State) : Bool :=
  s.runs Dom.safeP && s.runs Dom.safeL && s.safety.heardP && s.safety.heardL

/-- lockout_holds_off of path w (R361). -/
def State.holdsOff (s : State) (w : Path) (a : AxisN) : Bool :=
  s.safety.lockouts.any fun x => !x.braking && s.scopeCovers x.scope a && (match w with
    | .p => x.p
    | .l => x.l)

/-- Every input that acts on axis a has shown no demand since path w started (R364). DEDUCED, log entry 55. -/
def State.inputsShown (s : State) (w : Path) (a : AxisN) : Bool :=
  allSi.all fun i => s.safeCfgN (O.siFunction i) == 0 || !(s.safeCfgN (O.siAxes i)).testBit a || (s.siPath w i).shown

/-- The terms both paths share, as path w judges them (R361); no enable is granted in life-cycle state SCRAP (Table
15.5). -/
def State.both (s : State) (w : Path) (a : AxisN) : Bool :=
  let y := match w with
    | .p => (s.axis a).safe.p
    | .l => (s.axis a).safe.l
  s.platformRun && s.safety.sealed == 1 && s.cfgN O.lcState != 4 && !s.holdsOff w a && !y.sto && !y.timeOver && s.inputsShown w a

/-- sen_p of R361. -/
def State.senP (s : State) (a : AxisN) : Bool := s.both .p a && !(s.axis a).safe.standstill
/-- sen_l of R361. -/
def State.senL (s : State) (a : AxisN) : Bool := s.both .l a && (s.axis a).safe.senP

/-- The reaction of an axis without enables: all gates off, cause SAFETY, no reaction held (R80). -/
def State.safetyOff (s : State) (a : AxisN) : State :=
  let s := (s.releaseReaction a).modReact a fun r => { r with gate := .allOff, cause := .safety }
  let s := s.gatesOff a
  s.modField a fun f => { f with catching := {}, recovering := false, disableAtStop := false, keStop := false }

/-- The axis meets the removal of an enable, or a lock-out that holds it off (R80, R372, R386, R396, Table 5.12). -/
def State.enableLost (s : State) (a : AxisN) (locked : Bool) : State :=
  match (s.axis a).field.state with
  | .disabled | .lockedOut => s
  | .safeOff => if locked then s.enter a .lockedOut else s
  | .ready | .running | .stopping | .holdAsc | .fault =>
    (s.safetyOff a).enter a (if locked then .lockedOut else .safeOff)

/-- Every leg of the axis receives the axis's enables while they are granted (R360). -/
def State.feedEnables (s : State) (a : AxisN) : State :=
  let x := (s.axis a).safe
  s.modLegs (s.legsOf a) fun _ L =>
    let L' := { L with enP := L.enP || x.senP, enL := L.enL || x.senL }
    if L'.enabled && !L.enabled then L'.rise else L'

/-- Every lock-out that covers axis a and holds it off. -/
def State.axisHeldOff (s : State) (a : AxisN) : Bool :=
  s.safety.lockouts.any fun x => !x.braking && s.scopeCovers x.scope a

/-- A path grants or removes its enables of axis a (R361); SS1 of SAFE-L ends with its enable (R375). -/
def State.grant (s : State) (w : Path) (a : AxisN) : State :=
  let x := (s.axis a).safe
  let v := match w with
    | .p => s.senP a
    | .l => s.senL a
  let was := x.senP && x.senL
  let s := match w with
    | .p => s.modSafe a fun x => { x with senP := v }
    | .l => s.modSafe a fun x => { x with
        senL := v
        l := if !v && x.l.ss1Run then { x.l with ss1Run := false, timeOver := true } else x.l }
  let s := s.feedEnables a
  let y := (s.axis a).safe
  let now := y.senP && y.senL
  let s := if was && !now && s.isPM a && (s.axis a).reaction.aboveAsc then
      (s.modSafe a fun x => { x with aboveAscLatch := true }).event 0x910E a
    else s
  if now then
    match (s.axis a).field.state with
    | .safeOff => (s.releaseReaction a).enter a .ready
    | _ => s
  else s.enableLost a (s.axisHeldOff a)

/-- A path grants or removes its enables of every axis. -/
def State.grantAll (s : State) (w : Path) : State := s.each allAxes fun s a => s.grant w a

/-! ### Brake outputs (R377, R378, R390) -/

/-- The axis of output k; none at 255. -/
def State.sbcOwner (s : State) (k : SbcN) : Option AxisN := axisNum (s.safeCfgN (O.sbcAxis k))

/-- A lock-out covers output k (R396, Table 11.4). DEDUCED, log entry 58. -/
def State.sbcLocked (s : State) (k : SbcN) : Bool :=
  s.safety.lockouts.any fun x => !x.braking && (x.scope == .output k || x.scope == .device ||
    (match s.sbcOwner k with
      | some a => s.scopeCovers x.scope a
      | none => false))

/-- An SBC demand on output k in path w: on SBC_AXIS; on an output of no axis, that of any input (R366, R377). DEDUCED, log entry
58. -/
def State.sbcDemand (s : State) (w : Path) (k : SbcN) : Bool :=
  match s.sbcOwner k with
  | some a => s.demanded w 3 a
  | none => allAxes.any fun a => s.demanded w 3 a

/-- A path has a reason of R377 to hold its switch of output k open; so has it while a path does not run or is not heard
(R362, R364, R365). DEDUCED, log entry 58. -/
def State.brakeReason (s : State) (w : Path) (k : SbcN) : Bool :=
  !s.platformRun || s.sbcLocked k || s.sbcDemand w k || match s.sbcOwner k with
    | none => false
    | some a =>
      let x := (s.axis a).safe
      s.safeCfgN (O.sbcWithSto k) == 1 &&
        ((match w with
          | .p => !x.senP
          | .l => !x.senL) || (x.p.ss1Run && x.braked))

/-- Both switches of output k open, BRAKE_CMD reads 0; a dark test under way ends without a result (R377, R378,
R390). DEDUCED, log entry 58. -/
def State.openBrake (s : State) (k : SbcN) : State :=
  -- the write of BRAKE_CMD passes its check as any value does (Table 1.9, kind 0x05)
  let s := if valueOk (s.flipOf (O.brakeCmd k)) 0 then s.setObj (O.brakeCmd k) 0
           else s.checkReport 5 (producerOf .safety)
  s.modBrake k fun b => { b with
    state := .off, hs := false, ls := false, testing := none, openLoad := false
    cutAt := if b.testing.isSome then some s.safety.cyclesP else b.cutAt }

/-- Each path opens the outputs it has a reason for. -/
def State.openBrakes (s : State) (w : Path) : State :=
  s.each allSbc fun s k =>
    if s.brakeReason w k && (s.safety.brakes[k].state != .off || s.cfg (O.brakeCmd k) ≠ 0) then s.openBrake k else s

/-- A write of BRAKE_CMD (R378). -/
def State.brakeCmdAct (s : State) (k : SbcN) (v : Int) : Acted :=
  if v = 0 then (s.openBrake k).done
  else if s.brakeReason .p k || s.brakeReason .l k then s.lock
  else if s.safety.brakes[k].state != .off then (s.setObj (O.brakeCmd k) v).done
  else ((s.setObj (O.brakeCmd k) v).modBrake k fun b => { b with state := .releasing, hs := true, ls := true }).done

/-- BRAKE_CMD_WRITE (R378). -/
def execBrakeCmdWrite (src : Src) (k : SbcN) (v : Int) (s : State) : Outcome State Fault Refusal :=
  .next (s.writeRow src (O.brakeCmd k) v fun s => s.brakeCmdAct k v)

/-- BRAKE_RELEASE_COMPLETE (R378, R389): BRAKE_RELEASE_TIME has passed. -/
def execBrakeReleaseComplete (k : SbcN) (s : State) : Outcome State Fault Refusal :=
  if s.safety.brakes[k].state == .releasing then
    .next (s.modBrake k fun b => { b with
      state := .on, released := true, testedAt := if b.released then b.testedAt else s.safety.cyclesP })
  else .next s

/-! ### Lock-outs (R395 to R397) -/

/-- Latch a lock-out in path p (both for a mismatch); it is announced, stored, and acts on its scope (R363, R396, R397). A
lock-out already latched by the other path is adopted instead and not reported again. -/
def State.latchLockout (s : State) (code inst : Nat) (scope : LockScope) (p l braking : Bool) : State :=
  if s.safety.lockouts.any (fun x => x.code == code && x.inst == inst) then
    s.modSafety fun x => { x with lockouts := x.lockouts.map fun y =>
      if y.code == code && y.inst == inst then
        { y with p := y.p || p, l := y.l || l, braking := y.braking && braking, causedAt := some x.cyclesP }
      else y }
  else
    let s := s.modSafety fun x => { x with
      lockouts := { code, inst, scope, p, l, braking, causedAt := some x.cyclesP } :: x.lockouts }
    s.announce code inst

/-- The lock-out state reaches flash (R397). DEDUCED, log entry 59. -/
def State.storeLockouts (s : State) : State :=
  s.modSafety fun x => { x with storedLockouts := x.lockouts.map fun y => { y with braking := false, causedAt := none } }

/-- What follows a latch or a change of the lock-outs: the latching path removes enables, outputs open, axes in the scope
enter LOCKED_OUT (R396). -/
def State.lockoutsAct (s : State) (w : Path) : State :=
  let s := s.storeLockouts
  let s := s.grantAll w
  let s := s.each allAxes fun s a => if s.axisHeldOff a then s.enableLost a true else s
  s.each allSbc fun s k => if s.sbcLocked k && (s.safety.brakes[k].state != .off || s.cfg (O.brakeCmd k) ≠ 0) then
    s.openBrake k else s

/-- Lock out on a path, and act. -/
def State.lockout (s : State) (code inst : Nat) (scope : LockScope) (w : Path) : State :=
  (s.latchLockout code inst scope (w == .p) (w == .l) false).lockoutsAct w

/-- Adopt the lock-outs the other path has latched, at the end of a cycle (R363). DEDUCED, log entry 59. -/
def State.adopt (s : State) (w : Path) : State :=
  s.modSafety fun x => { x with lockouts := x.lockouts.map fun y => match w with
    | .p => { y with p := true }
    | .l => { y with l := true } }

/-! ### SS1 (R373 to R375, R383) -/

/-- The SS1 of SAFE-P on axis a ends in an STO: `time` for SS1_TIME or an STO, else at standstill. A violation lock-out
that braked takes the enables now (R361, R375, R383). DEDUCED, log entry 56. -/
def State.endSs1 (s : State) (a : AxisN) (time : Bool) : State :=
  let s := s.modSafe a fun x => { x with
    p := { x.p with ss1Run := false, timeOver := x.p.timeOver || time }
    standstill := x.standstill || !time, violation := false, stillSince := none, braked := false }
  let s := s.modSafety fun x => { x with lockouts := x.lockouts.map fun y =>
    if (y.scope == .axis a) then { y with braking := false } else y }
  s.lockoutsAct .p

/-- Start an SS1 on axis a in SAFE-P (R373, R374, R383, R385). In a state that neither drives nor holds an active short circuit
it acts as an STO at once. DEDUCED, log entry 56. -/
def State.startSs1 (s : State) (a : AxisN) (violation : Bool) : State :=
  let x := s.axis a
  let go := fun (s : State) => s.modSafe a fun x => { x with
    p := { x.p with ss1Run := true, timeOver := false }
    violation, standstill := false, t0 := s.safety.cyclesP, v0 := x.speed, stillSince := none, braked := false }
  -- a held reaction continues; a flying start out of it ends in STOPPING, as after STOP
  let hold := fun (s : State) =>
    let s := (s.groupStop a).modReact a fun r => { r with resumePending := false }
    go (if x.field.catching.running then s.modField a fun f => { f with catching := { f.catching with stopAfter := true } } else s)
  match x.field.state with
  | .running =>
    let s := s.groupStop a
    go (if x.field.catching.phase != .none then
        s.modField a fun f => { f with catching := { f.catching with stopAfter := true } }
      else s.enter a .stopping)
  | .stopping => go (s.groupStop a)
  | .holdAsc => hold s
  | .fault => if x.reaction.gate.isAsc then hold s else s.endSs1 a true
  | .disabled | .ready | .safeOff | .lockedOut => s.endSs1 a true

/-- A violation or a source failure of axis a (R380, R383): `hard` where the enables go at once whatever VIOLATION_STOP
selects. DEDUCED, log entry 56. -/
def State.violate (s : State) (a : AxisN) (code : Nat) (hard : Bool) : State :=
  let x := (s.axis a).safe
  let mode1 : Bool := s.safeCfgN (O.ss1Mode a) == 1
  let atOnce : Bool := s.safeCfgN (O.violationStop a) == 0 || (mode1 && (hard || x.sourceFault))
    || (x.violation && x.p.ss1Run && code == 0x9506)
  if s.safety.lockouts.any (fun y => y.code == code && y.inst == a.val) then s
  else if atOnce then
    (s.latchLockout code a (.axis a) true false false).endSs1 a true
  else if x.violation && x.p.ss1Run then (s.latchLockout code a (.axis a) true false true).storeLockouts
  else ((s.latchLockout code a (.axis a) true false true).storeLockouts).startSs1 a true

/-- SS1_TIME_EXPIRY (R361, R374, R375, R383): SS1_TIME has passed since path p recognised the demand. -/
def execSs1TimeExpiry (a : AxisN) (path : Path) (s : State) : Outcome State Fault Refusal :=
  match path with
  | .p => .next (if (s.axis a).safe.p.ss1Run then (s.endSs1 a true).openBrakes .p else s)
  | .l =>
    if (s.axis a).safe.l.ss1Run then
      let s := s.modSafe a fun x => { x with l := { x.l with ss1Run := false, timeOver := true } }
      .next ((s.grant .l a).openBrakes .l)
    else .next s

/-- |v| of axis a has stayed at or below SS1_STANDSTILL for 10 ms of safety cycles (R374). -/
def State.stoodStill (s : State) (a : AxisN) : Bool := (s.axis a).safe.stillSince.any fun t => t + 20 ≤ s.safety.cyclesP

/-- SS1_STANDSTILL_REACHED (R374): |v| has stayed at or below SS1_STANDSTILL for 10 ms under SS1_MODE 1. -/
def execSs1StandstillReached (a : AxisN) (s : State) : Outcome State Fault Refusal :=
  if (s.axis a).safe.p.ss1Run && s.safeCfgN (O.ss1Mode a) == 1 && s.stoodStill a then
    .next ((s.endSs1 a false).openBrakes .p)
  else .next s

/-! ### Speed, SLS and SDI (R379 to R382) -/

/-- Both speed sources of axis a are configured (R379). -/
def State.bothSources (s : State) (a : AxisN) : Bool :=
  s.safeCfgN (O.safeSrc1 a) != 255 && s.safeCfgN (O.safeSrc2 a) != 255

/-- Axis a has a safe speed: one of its sources is configured. DEDUCED, log entry 57. -/
def State.anySource (s : State) (a : AxisN) : Bool :=
  s.safeCfgN (O.safeSrc1 a) != 255 || s.safeCfgN (O.safeSrc2 a) != 255

/-- The safety cycles of SAFE_SPEED_WINDOW of axis a. -/
def State.windowLength (s : State) (a : AxisN) : Nat := 2 * s.safeCfgN (O.safeSpeedWindow a)

/-- Counts of source 1 that each source has moved in a safety cycle (R379): a channel's counts, those of source 2 scaled by
SAFE_SRC2_RATIO, or half a millisecond at SPEED_EST. DEDUCED, log entry 57. -/
def State.sourceMoves (s : State) (a : AxisN) (x : SafeSpeedIn) : Rat × Rat :=
  (if s.safeCfgN (O.safeSrc1 a) == 255 then 0 else x.travel1,
   match s.safeCfgN (O.safeSrc2 a) with
   | 255 => 0
   | 254 => (s.axis a).field.speed / 2000
   | _ => x.travel2 / f32Rat (s.safeCfg (O.safeSrc2Ratio a)))

/-- The mean speed, in counts/s, of what a source has moved in the cycles of a window (R379). DEDUCED, log entry 57. -/
def meanSpeed (moves : List Rat) : Rat := if moves.isEmpty then 0 else 2000 * qsum moves / moves.length

/-- The safe speed of a cycle and the check of its two sources (R379, R380). Until a window is full the mean is over the cycles
there are. DEDUCED, log entry 57. -/
def State.safeSpeedCycle (s : State) (a : AxisN) (x : SafeSpeedIn) : State :=
  let (m1, m2) := s.sourceMoves a x
  let s := s.modSafe a fun y => { y with
    moves1 := (m1 :: y.moves1).take (s.windowLength a), moves2 := (m2 :: y.moves2).take (s.windowLength a) }
  let v1 := meanSpeed (s.axis a).safe.moves1
  let v2 := meanSpeed (s.axis a).safe.moves2
  let n := (s.axis a).safe.windowCycles + 1
  let whole : Bool := s.windowLength a ≤ n
  let apart : Bool := decide ((s.safeCfgN (O.safeSpeedTol a) : Rat) < qabs (v1 - v2))
  let s := s.modSafe a fun y => { y with speed := max (qabs v1) (qabs v2), windowCycles := if whole then 0 else n }
  if !whole || !s.bothSources a then s
  else if !apart then s.modSafe a fun y => { y with disagreeRun := 0, agreed := true, sourceFault := false }
  else
    let s := s.modSafe a fun y => { y with disagreeRun := min 3 (y.disagreeRun + 1), agreed := false }
    if (s.axis a).safe.disagreeRun == 3 then
      (s.modSafe a fun y => { y with disagreeLatch := true }).violate a 0x9505 true
    else s

/-- The travel of SAFE_SRC1 from the recorded position, which moves along with permitted motion (R382): `sdi` 1 permits
positive motion, 2 negative motion, 3 none. What was travelled against a permitted direction stands. DEDUCED, log entry 57. -/
def sdiMove (sdi : Nat) (travel by_ : Int) : Int :=
  if (sdi = 1 ∧ 0 ≤ by_) ∨ (sdi = 2 ∧ by_ ≤ 0) then travel else travel + by_

/-- The envelope of SS1_MODE 1 at the running cycle (R374). -/
def State.ss1Envelope (s : State) (a : AxisN) : Rat :=
  let x := (s.axis a).safe
  let t : Rat := ((s.safety.cyclesP - x.t0 : Nat) : Rat) / 2000 - (s.safeCfgN (O.ss1MonDelay a) : Rat) / 1000
  max (s.safeCfgN (O.ss1Standstill a))
    (x.v0 + s.safeCfgN (O.safeSpeedTol a) - s.safeCfgN (O.ss1MonDecel a) * max 0 t)

/-- The monitored functions of axis a in a SAFE-P cycle: ramp of SS1, SLS, SDI (R374, R375, R381, R382). -/
def State.monitor (s : State) (a : AxisN) (travel : Int) : State :=
  let x := (s.axis a).safe
  let now := s.safety.cyclesP
  let s := if x.p.ss1Run && s.safeCfgN (O.ss1Mode a) == 1 then
      let still : Bool := decide (x.speed ≤ s.safeCfgN (O.ss1Standstill a))
      let s := s.modSafe a fun y => { y with
        stillSince := if still then some (y.stillSince.getD now) else none }
      if s.ss1Envelope a < x.speed then s.violate a 0x9506 false else s
    else s
  let x := (s.axis a).safe
  -- an axis without a speed source has no safe speed
  let s := if x.p.ss1Run && s.anySource a && x.speed ≤ s.safeCfgN (O.ss1BrakeSpeed a) then
      s.modSafe a fun y => { y with braked := true }
    else s
  let s := match x.slsSince with
    | some t =>
      if 2 * s.safeCfgN (O.slsRampTime a) ≤ now - t && (s.safeCfgN (O.slsLimit a) : Rat) < x.speed then
        s.violate a 0x9507 false
      else s
    | none => s
  if x.sdi == 0 then s
  else
    let t := sdiMove x.sdi x.sdiTravel travel
    let s := s.modSafe a fun y => { y with sdiTravel := t }
    if s.safeCfgN (O.sdiTol a) < t.natAbs then s.violate a 0x9508 false else s

/-- Activation and release of SLS and SDI (R381, R382). -/
def State.activate (s : State) (a : AxisN) : State :=
  let sdi := (s.demanded .p 5 a).toNat + 2 * (s.demanded .p 6 a).toNat
  let sls := s.demanded .p 4 a
  s.modSafe a fun y => { y with
    slsSince := if sls then some (y.slsSince.getD s.safety.cyclesP) else none
    slsFrom := if !sls then 0 else if y.slsSince.isSome then y.slsFrom else qabs (s.axis a).field.speed
    sdi, sdiTravel := if sdi == y.sdi then y.sdiTravel else 0 }

/-- The STO demands of axis a in SAFE-P: one that begins removes the enable before any violation or SS1 of the cycle is taken, and
completes an SS1 (R372, R395 step 3). -/
def State.takeSto (s : State) (a : AxisN) : State :=
  let sto := s.demanded .p 1 a
  let was := (s.axis a).safe.p.sto
  let s := s.modSafe a fun y => { y with p := { y.p with sto } }
  let s := if sto && (s.axis a).safe.p.ss1Run then s.endSs1 a true else s
  if sto && !was then s.grant .p a else s

/-- The SS1 demands of axis a in SAFE-P (R373, R375, R395 step 4). -/
def State.takeSs1 (s : State) (a : AxisN) : State :=
  let ss1 := s.demanded .p 2 a
  let x := (s.axis a).safe
  let s := s.modSafe a fun y => { y with p := { y.p with ss1 } }
  if ss1 && !x.p.ss1 && !x.p.ss1Run then
    if x.p.sto then s.modSafe a fun y => { y with p := { y.p with timeOver := true } } else s.startSs1 a false
  else s

/-- The ended demand of a completed SS1 lets the enables return (R375, R395 step 7). -/
def State.endDemand (s : State) (a : AxisN) : State :=
  let y := (s.axis a).safe
  if !y.p.ss1 && !y.p.ss1Run then s.modSafe a fun y => { y with p := { y.p with timeOver := false }, standstill := false }
  else s

/-- The STO and SS1 demands of axis a in SAFE-L: wired demands, and the SS1 that SAFE-P reports (R361, R374). -/
def State.takeDemandsL (s : State) (a : AxisN) : State :=
  let sto := s.wired .l 1 a
  let x := (s.axis a).safe
  let ss1 := s.wired .l 2 a || x.p.ss1Run
  s.modSafe a fun y =>
    let start := ss1 && !y.l.ss1
    let run := y.l.ss1Run || start
    { y with l := { sto, ss1, ss1Run := run, timeOver := y.l.timeOver && (ss1 || y.l.ss1Run) && !start } }

/-- TEST_PERIOD has passed since the end of the previous test of output k, or of its first release (R389).
DEDUCED, log entry 58. -/
def State.testDue (s : State) (k : SbcN) : Bool :=
  let b := s.safety.brakes[k]
  b.released && decide (b.testedAt + 2000 * s.safeCfgN (O.testPeriod k) ≤ s.safety.cyclesP)

/-- A dark test of output k falls due (R389, R390): it starts, or is postponed while the output is not on or another
output has started one in this cycle. -/
def State.startTest (s : State) (k : SbcN) : State :=
  let b := s.safety.brakes[k]
  let now := s.safety.cyclesP
  let taken : Bool := allSbc.any fun j => j != k && s.safety.brakes[j].startedAt == some now
  if b.testing.isSome then s
  else if b.state != .on || taken then s.modBrake k fun b => { b with pendingTest := true }
  else
    let sd : Side := match b.lastSide with
      | some .high => .low
      | some .low | none => .high
    s.modBrake k fun b => { b with
      testing := some sd, startedAt := some now, pendingTest := false
      hs := b.hs && sd != .high, ls := b.ls && sd != .low }

/-- Postponed tests start in the first cycle in which they can, the lowest output first (R389, R390). -/
def State.pendingTests (s : State) : State :=
  s.each allSbc fun s k =>
    if s.safety.brakes[k].pendingTest && s.safety.brakes[k].state == .on then s.startTest k else s

/-! ### The safety cycle (R362, R363, R367, R395) -/

/-- The next sample of LOCKRST in a path; `first` at its first cycle (R398). -/
def Lockrst.sample (x : Lockrst) (first high : Bool) : Lockrst :=
  let stuck := x.stuck || (high && first)
  let low := if stuck && !high then x.lowRun + 1 else 0
  { high, stuck := stuck && low < 2000, lowRun := if low < 2000 then low else 0 }
/-- LOCKRST as a path samples it (R359, R398). -/
def State.sampleLockrst (s : State) (w : Path) (high : Bool) : State :=
  s.modSafety fun x => match w with
    | .p => { x with lockrstP := x.lockrstP.sample (x.cyclesP == 1) high }
    | .l => { x with lockrstL := x.lockrstL.sample (x.cyclesL == 1) high }

/-- A path reads back the pins of output k (R388, R391). DEDUCED, log entry 58. -/
def State.pinCycle (s : State) (w : Path) (k : SbcN) (pins : Bool × Bool) : State :=
  s.modBrake k fun b =>
    let wrong := fun (n : Nat) => if b.testing.isSome || pins == (b.hs, b.ls) then 0 else min 20 (n + 1)
    match w with
    | .p => { b with pinsP := pins, wrongP := wrong b.wrongP }
    | .l => { b with pinsL := pins, wrongL := wrong b.wrongL }

/-- The coil current of output k, and the open-load warning while both pins read on (R391). DEDUCED, log entry 58. -/
def State.coilCycle (s : State) (k : SbcN) (ma : Nat) : State :=
  let b := s.safety.brakes[k]
  let low : Bool := b.pinsP == (true, true) && decide (ma < 50)
  let s := s.modBrake k fun b => { b with coil := ma, openLoad := low }
  if low && !b.openLoad then s.event 0x910D k else s

/-- One cycle of a path (R361 to R363, R367, R372 to R382), its events in the order of R395: STO demands, violations, SS1 demands,
activation and release of SLS and SDI, ends of demands. -/
def State.safetyCycle (s : State) (path : Path) (x : SafetyIn) : State :=
  match path with
  | .p =>
    if !s.runs Dom.safeP then s
    else
      let s := s.modSafety fun y => { y with cyclesP := y.cyclesP + 1, heardP := s.runs Dom.safeL }
      let s := (s.sampleInputs .p x.si).sampleLockrst .p x.lockrst
      let s := s.each (allSbc.zip x.pins) fun s (k, pins) => s.pinCycle .p k pins
      let s := s.each (allSbc.zip x.coil) fun s (k, ma) => s.coilCycle k ma
      let s := s.each allAxes fun s a => s.takeSto a
      let s := s.each (allAxes.zip x.speed) fun s (a, v) => (s.safeSpeedCycle a v).monitor a v.travel1
      let s := s.each allAxes fun s a => s.takeSs1 a
      let s := s.each allAxes fun s a => s.activate a
      let s := s.each allAxes fun s a => s.endDemand a
      (((s.adopt .p).lockoutsAct .p).openBrakes .p).pendingTests
  | .l =>
    if !s.runs Dom.safeL then s
    else
      let s := s.modSafety fun y => { y with cyclesL := y.cyclesL + 1, heardL := s.runs Dom.safeP }
      let s := (s.sampleInputs .l x.si).sampleLockrst .l x.lockrst
      let s := s.each (allSbc.zip x.pins) fun s (k, pins) => s.pinCycle .l k pins
      let s := s.each allAxes fun s a => s.takeDemandsL a
      ((s.adopt .l).lockoutsAct .l).openBrakes .l

/-- SAFETY_CYCLE: one 0.5 ms cycle of a path; the checks of its dictionary writes may arrive turned over (R32). -/
def execSafetyCycle (path : Path) (x : SafetyIn) (s : State) : Outcome State Fault Refusal :=
  .next { { s with writeFlips := x.flips }.safetyCycle path x with writeFlips := [] }

/-! ### Faults of the safety block -/

/-- A speed function is active on axis a (R380). -/
def State.speedFunction (s : State) (a : AxisN) : Bool :=
  let x := (s.axis a).safe
  (x.p.ss1Run && s.safeCfgN (O.ss1Mode a) == 1) || x.slsSince.isSome || x.sdi != 0

/-- SPEED_SOURCE_FAULT (R380, R383): a safe counter finds its signal at fault. -/
def execSpeedSourceFault (a : AxisN) (s : State) : Outcome State Fault Refusal :=
  let s := s.modSafe a fun x => { x with sourceFault := true, agreed := false }
  .next (if s.speedFunction a then s.violate a 0x950B true else s.event 0x910C a)

/-- DISCREPANCY (R370): a disagreement of the channels of input i has reached its limit in a path. -/
def execDiscrepancy (i : SiN) (path : Path) (s : State) : Outcome State Fault Refusal :=
  if s.safeCfgN (O.siFunction i) == 0 then .next s
  else .next (s.lockout 0x9501 i (.input i) path)

/-- PATH_LOST (R362, R365): no status word of a path has come for 1.0 ms; not so after a planned closure.
DEDUCED, log entry 59. -/
def execPathLost (lost : Path) (s : State) : Outcome State Fault Refusal :=
  let d := match lost with
    | .p => Dom.safeP
    | .l => Dom.safeL
  if !(s.domains[d].state == .run || s.domains[d].state == .failed) then .next s
  else match lost with
    | .p => .next ((s.modSafety fun x => { x with heardP := false }).lockout 0x950A 0 .device .l)
    | .l => .next ((s.modSafety fun x => { x with heardL := false }).lockout 0x950A 1 .device .p)

/-- PATH_MISMATCH (R363): the states that the paths report have differed for more than 10 ms. -/
def execPathMismatch (s : State) : Outcome State Fault Refusal :=
  .next (((s.latchLockout 0x9509 0 .device true true false).lockoutsAct .p).lockoutsAct .l)

/-! ### Dark tests and readback (R389 to R391) -/

/-- TEST_PULSE_START (R389, R390): a dark test of output k falls due. -/
def execTestPulseStart (k : SbcN) (s : State) : Outcome State Fault Refusal :=
  .next (if s.testDue k then s.startTest k else s)

/-- TEST_PULSE_END (R389, R390): the pin has read open in time, or it has not. After an off demand that ended the pulse the result is
discarded, but for a failure of the same cycle. -/
def execTestPulseEnd (k : SbcN) (pass : Bool) (s : State) : Outcome State Fault Refusal :=
  let b := s.safety.brakes[k]
  match b.testing with
  | none =>
    .next (if !pass && b.cutAt == some s.safety.cyclesP then s.lockout 0x9502 k (.output k) .p else s)
  | some sd =>
    let s := s.modBrake k fun b => { b with
      testing := none, lastSide := some sd, tests := (b.tests + 1) % 256, testedAt := s.safety.cyclesP
      hs := true, ls := true }
    if pass then .next s
    else .next ((s.openBrake k).lockout 0x9502 k (.output k) .p)

/-- SBC_READBACK (R391): in a path a pin has disagreed with its command for 10 ms, 20 samples, other than inside a test pulse. -/
def execSbcReadback (k : SbcN) (s : State) : Outcome State Fault Refusal :=
  let b := s.safety.brakes[k]
  if b.wrongP < 20 && b.wrongL < 20 then .next s
  else .next ((s.openBrake k).lockout 0x9503 k (.output k) (if 20 ≤ b.wrongP then .p else .l))

/-- SBC_OVERLOAD (R391): above 3.5 A for 1 ms. -/
def execSbcOverload (k : SbcN) (s : State) : Outcome State Fault Refusal :=
  .next ((s.openBrake k).lockout 0x9504 k (.output k) .p)

/-! ### Reset (R398 to R400) -/

/-- The cause of a lock-out has cleared (R399). A new cause of its scope in the same cycle rejects the reset (R395). -/
def State.causeCleared (s : State) (x : Lockout) : Bool :=
  if x.braking || s.safety.lockouts.any (fun y => y.scope == x.scope && y.causedAt == some s.safety.cyclesP) then false
  else match x.scope with
  | .input i =>
    let y := s.safety.inputs[i]
    y.p.a.energised == y.p.b.energised && y.l.a.energised == y.l.b.energised
  | .output k =>
    let b := s.safety.brakes[k]
    b.pinsP == (false, false) && b.pinsL == (false, false) && b.coil < 50
  | .axis a =>
    let y := (s.axis a).safe
    if x.code == 0x9505 || x.code == 0x950B then !y.sourceFault && y.agreed
    else !y.senP && !y.senL
  | .device => x.pRestarted && x.lRestarted && (x.code != 0x9514 || s.safety.sealed == 1)

/-- A reset accepted by both paths: each lock-out whose cause has cleared is released (R399). `who` is 0 for LOCKRST, 1
for Thodar. -/
def State.resetLockouts (s : State) (who : Nat) : State :=
  let gone := s.safety.lockouts.filter s.causeCleared
  let stay := s.safety.lockouts.filter fun x => !s.causeCleared x
  let s := (s.modSafety fun x => { x with lockouts := stay }).storeLockouts
  let s := s.each gone fun s _ => s.event 0x900F who
  let s := s.each stay fun s _ => s.event 0x9110 who
  s.each allAxes fun s a =>
    if (s.axis a).field.state == .lockedOut && !s.axisHeldOff a then
      if (s.axis a).safe.senP && (s.axis a).safe.senL then (s.releaseReaction a).enter a .ready
      else s.enter a .safeOff
    else s

/-- A path accepts a LOCKRST pulse of this length, in µs; between the lengths the manual accepts and rejects, the outcome is each
path's own (R398). -/
def Lockrst.accepts (x : Lockrst) (w : Path) (pulseUs : Nat) : Bool :=
  !x.stuck && (decide (200000 ≤ pulseUs ∧ pulseUs ≤ 2000000) ||
    (decide (198000 ≤ pulseUs ∧ pulseUs ≤ 2002000) && Config.lockrstBand (w == .p) pulseUs))

/-- LOCKRST_FALLING_EDGE (R359, R398, R399): a high level of `pulseUs` ends. A reset acts only when both paths have accepted the
pulse. -/
def execLockrstFallingEdge (pulseUs : Nat) (s : State) : Outcome State Fault Refusal :=
  let p := s.safety.lockrstP
  let l := s.safety.lockrstL
  let s := s.modSafety fun x => { x with lockrstP := { p with high := false }, lockrstL := { l with high := false } }
  if !s.runs Dom.safeP || !s.runs Dom.safeL then .next s
  else if 2002000 < pulseUs then
    .next ((s.modSafety fun x => { x with lockrstP := { stuck := true }, lockrstL := { stuck := true } }).event 0x9110 0)
  else if p.stuck && l.stuck then .next s
  else if p.accepts .p pulseUs && l.accepts .l pulseUs then .next (s.resetLockouts 0)
  else .next (s.event 0x9110 0)

/-- LOCKRST_STUCK (R398): the level is still high after 2.002 s. -/
def execLockrstStuck (s : State) : Outcome State Fault Refusal :=
  .next (s.modSafety fun x => { x with lockrstP := { high := true, stuck := true }, lockrstL := { high := true, stuck := true } })

end Sys2Proof.Machine
end

