-- ==== Sys2Proof/Machine/Sha256.lean ====
section
/-! DEFINITION. SHA-256 as FIPS 180-4 states it: the reset proof of Table 12.2 is built on it. PRESUMED: the manual names
the function and does not restate it (assumption log). -/

namespace Sys2Proof.Machine

/-! ### Constants: the first 32 bits of the fractional parts of roots of primes -/

/-- The primes below 312, of which there are 64: no prime up to 17 divides them. -/
def smallPrimes : List Nat :=
  (List.range 312).filter fun n => 2 ≤ n && [2, 3, 5, 7, 11, 13, 17].all fun d => n == d || n % d != 0

/-- The greatest r below 2^b, added to what stands above bit b, whose k-th power does not exceed n. -/
def rootBits (k n : Nat) : Nat → Nat → Nat
  | 0, r => r
  | b + 1, r => rootBits k n b (if (r + 2 ^ b) ^ k ≤ n then r + 2 ^ b else r)

/-- Bits 1 to 32 after the point of the k-th root of p: roots of numbers below 512 are less than 2^5. -/
def rootFraction (k p : Nat) : Word := BitVec.ofNat 32 (rootBits k (p * 2 ^ (32 * k)) 37 0)

/-- The round constants: cube roots. -/
def shaRoundConstants : List Word := smallPrimes.map (rootFraction 3)
/-- The initial hash value: square roots. -/
def shaStart : List Word := (smallPrimes.take 8).map (rootFraction 2)

/-! ### One block -/

/-- The XOR of a word rotated right by each of the given amounts. -/
def turned (ns : List Nat) (w : Word) : Word := ns.foldl (fun x n => x ^^^ w.rotateRight n) 0#32

/-- The next word of a message schedule that stands newest first: from the words 2, 7, 15 and 16 places back. -/
def nextWord (ws : List Word) : Word :=
  match ws[1]?, ws[6]?, ws[14]?, ws[15]? with
  | some near, some mid, some far, some oldest =>
    oldest + mid + (turned [7, 18] far ^^^ far >>> 3) + (turned [17, 19] near ^^^ near >>> 10)
  | _, _, _, _ => 0#32

/-- A schedule, newest word first, with n more words. -/
def schedule : Nat → List Word → List Word
  | 0, ws => ws
  | n + 1, ws => schedule n (nextWord ws :: ws)

/-- One round on the eight working variables, with the sum of its constant and its schedule word. -/
def shaRound (vs : List Word) (input : Word) : List Word :=
  match vs with
  | [p, q, r, s, t, u, v, x] =>
    let pick := v ^^^ (t &&& (u ^^^ v))
    let most := (p &&& (q ||| r)) ||| (q &&& r)
    let lower := x + turned [6, 11, 25] t + pick + input
    [lower + turned [2, 13, 22] p + most, p, q, r, s + lower, t, u, v]
  | _ => vs

/-- The hash value after one block of sixteen words. -/
def shaBlock (h : List Word) (block : List Word) : List Word :=
  let inputs := List.zipWith (· + ·) shaRoundConstants (schedule 48 block.reverse).reverse
  List.zipWith (· + ·) h (inputs.foldl shaRound h)

/-! ### A message -/

/-- Big-endian words of bytes. -/
def beWords : Nat → List Byte → List Word
  | 0, _ => []
  | n + 1, bs =>
    (bs.take 4).foldl (fun w b => (w <<< 8) ||| b.zeroExtend 32) 0#32 :: beWords n (bs.drop 4)

/-- The message as blocks. -/
def shaBlocks : Nat → List Byte → List (List Word)
  | 0, _ => []
  | n + 1, bs => beWords 16 (bs.take 64) :: shaBlocks n (bs.drop 64)

/-- The 8 bytes of the bit length, most significant first. -/
def shaLength (n : Nat) : List Byte := (List.range 8).map fun i => BitVec.ofNat 8 (8 * n / 256 ^ (7 - i))

/-- SHA-256 of a byte string, 32 bytes. PRESUMED, log entry 63. -/
def sha256 (m : List Byte) : List Byte :=
  let zeros := (119 - m.length % 64) % 64
  let padded := m ++ [0x80#8] ++ List.replicate zeros 0#8 ++ shaLength m.length
  let h := (shaBlocks (padded.length / 64) padded).foldl shaBlock shaStart
  h.flatMap fun (w : Word) => [(w >>> (24 : Nat)).setWidth 8, (w >>> (16 : Nat)).setWidth 8, (w >>> (8 : Nat)).setWidth 8, w.setWidth 8]

end Sys2Proof.Machine
end

