-- ==== Sys2Proof/Machine/Thodar.lean ====
section
/-! DEFINITION. The Thodar layer: acceptance of envelopes, connection states, the reset proof, STATUS; and the safety
configuration with its password, change log and seal (12). -/

namespace Sys2Proof.Machine

open Host

/-! ### Status of the platform (Tables 11.6 and 11.7) -/

/-- LOCKOUT_STATUS (Table 11.6). -/
def State.lockoutWord (s : State) : Nat :=
  allAxes.foldl (fun n a => if s.lockedOut a then n + 2 ^ a.val else n)
    (if s.safety.lockouts.any (fun x => x.scope == .device) then 0x10000 else 0)

/-- SAFETY_STATUS.PLATFORM (Table 11.7): 0 STARTING, 1 RUN, 2 LOCKED_OUT, 3 NOT_SEALED. DEDUCED, log entry 55. -/
def State.platform (s : State) : Nat :=
  if s.safety.lockouts.any (fun x => x.scope == .device) then 2
  else if !s.platformRun then 0
  else if s.safety.sealed != 1 then 3
  else if !([Path.p, Path.l].all fun w => allAxes.all fun a => s.inputsShown w a) then 0
  else 1

/-! ### Rejected credentials (R345, R411) -/

/-- A credential was present and wrong: logged, and the fifth within 60 s locks SAFETY and MAKER for 60 s. -/
def State.rejectCredential (s : State) (inst : Nat) : State :=
  let s := s.event 0x8109 inst
  let xs := s.ref.time :: s.net.rejections.filter fun t => s.ref.time - t ≤ 60 * ticksPerS
  { s with net := { s.net with rejections := xs, credLocked := s.net.credLocked || 5 ≤ xs.length } }

/-! ### Envelopes (R402 to R411) -/

/-- The bytes CHECK covers: identity, SEQ, PAYLOAD (R403). -/
def checkInput (ident seq : Nat) (payload : List Byte) : List Byte := leBytes 4 ident ++ leBytes 2 seq ++ payload

/-- The carriage of an inbound envelope is served: the medium's domain and SAFE-P run, a frame on an Ethernet port is an Orham frame
for it of PCP 6 or 7, and a CAN port is in mode 2 (R300, R329, R405). -/
def State.carried (s : State) (e : Envelope) : Bool :=
  s.runs Dom.safeP && (match e.medium with
    | 1 => s.runs Dom.net && s.framed e.port e.header 6 7 false
    | 2 => s.runs Dom.bus && s.cfgN (O.canMode 0) == 2
    | 3 => s.runs Dom.bus && s.cfgN (O.canMode 1) == 2
    | _ => false)

/-- The bytes of an envelope (Table 12.1). -/
def envelopeBytes (e : Envelope) : List Byte :=
  leBytes 1 (e.version * 16 + e.kind) ++ leBytes 1 e.connection ++ leBytes 2 e.seq ++ leBytes 2 e.watchdog
    ++ leBytes 1 e.length ++ leBytes 1 e.reserved ++ e.payload ++ leBytes 4 e.check.toNat

/-- The SAFETY packet that an inbound envelope came in, its COMMAND and SEQ as R405 gives them. -/
def safetyPacket (e : Envelope) : Packet :=
  { version := e.header.version, kind := e.header.kind.getD 5, dst := e.header.dst, src := e.srcAddr, session := e.header.session
    command := e.connection, seq := 0, payload := envelopeBytes e, lacking := e.header.lacking }
/-- The entry check of an envelope (R31, R405): on medium 1 its packet is accepted by its bytes, or counted (R337); on CAN the frame's
CRC has been it. -/
def State.envelopeEntry (s : State) (e : Envelope) : State × Bool :=
  if e.medium ≠ 1 then (s, true)
  else if !(safetyPacket e).accepted e.header.endCheck || (safetyPacket e).kind ≠ 5 then (s.count (O.endCheckFailCount e.port), false)
  else (s, s.addressed e.header.dst)

/-- The receive queue of a CAN port hands the frame of connection `j` to SAFE-P. -/
def State.takeEnvelope (s : State) (e : Envelope) : State :=
  let drop := fun (s : State) (p : CanN) => s.modCan p fun c => { c with
    rx := dropFirst (fun f => f.ident == s.deviceBits + e.connection * 0x400) c.rx }
  match e.medium with
  | 2 => drop s 0
  | 3 => drop s 1
  | _ => s

/-- Discard an envelope of connection j, counted in THODAR_COUNT subindex k + 1; logged at most once a second (R407).
DEDUCED, log entry 61. -/
def State.discardEnvelope (s : State) (j : ConnN) (k : Nat) : State :=
  let s := s.count (O.thodarCount j k)
  if s.logDue s.safety.conns[j].discardLogged then
    (s.modConn j fun c => { c with discardLogged := some s.ref.time }).event 0x9112 j
  else s

/-- Where an envelope fails: the counter's place in THODAR_COUNT; none = accepted (Table 12.5). A reserved byte that is not 0
is a corrupted header byte (R403), counted as MALFORMED. DEDUCED, log entry 61. -/
def State.envelopeTest (s : State) (j : ConnN) (e : Envelope) : Option Nat :=
  let len := if e.kind == 0 then s.safeCfgN (O.thodarLen j) else 16
  if e.version != 1 || 1 < e.kind || e.reserved != 0 || s.safeCfgN (O.thodarMedium j) != e.medium || e.medium == 0
      || (e.medium == 1 && e.srcAddr != s.safeCfgN (O.thodarPeer j)) then some 0
  else if e.length != len || e.payload.length != len then some 0
  else if e.watchdog != s.safeCfgN (O.thodarWatchdog j) then some 0
  else if e.check != crc32c (checkInput (s.safeCfgN (O.idIn j)) e.seq e.payload) then some 1
  else match s.safety.conns[j].lastSeq with
    | none => none
    | some l =>
      let d := (e.seq + 0x10000 - l) % 0x10000
      if d = 0 then some 2 else if 0x8000 ≤ d then some 3 else none

/-- An envelope is accepted: its SEQ is taken and what lies between is counted as LOST (Table 12.5). Answers the state
and d. -/
def State.acceptEnvelope (s : State) (j : ConnN) (e : Envelope) : State × Option Nat :=
  let d := s.safety.conns[j].lastSeq.map fun l => (e.seq + 0x10000 - l) % 0x10000
  let s := match d with
    | some d => if 1 < d then s.count (O.thodarCount j 4) (d - 1) else s
    | none => s
  (s.modConn j fun c => { c with lastSeq := some e.seq }, d)

/-- Demand bits of a DATA payload: a 0 demands, and what the payload does not reach demands (R404). -/
def demandBits (payload : List Byte) : BitVec 24 := ~~~BitVec.ofNat 24 (leVal (payload.take 3))

/-- Take an envelope through carriage and tests; `act` is what an accepted one does. One whose KIND is neither DATA nor
RESET is discarded here (Table 12.5). DEDUCED, log entry 61. -/
def State.envelope (s : State) (e : Envelope) (reset : Bool) (act : State → ConnN → Option Nat → State) : State :=
  if h : e.connection < 4 ∧ decide (e.kind = 1) = reset then
    let j : ConnN := ⟨e.connection, h.1⟩
    if !s.carried e then s
    else
      let (s, whole) := s.envelopeEntry e
      if !whole then s
      else
        let s := s.takeEnvelope e
        match s.envelopeTest j e with
        | some k => s.discardEnvelope j k
        | none =>
          let (s, d) := s.acceptEnvelope j e
          act s j d
  else s

/-- The last accepted DATA envelope came at most THODAR_WATCHDOG ago, by the safety cycles of SAFE-P (R359, R408). DEDUCED, log
entry 62. -/
def State.dataInTime (s : State) (j : ConnN) : Bool :=
  s.safety.conns[j].dataAt.any fun t => s.safety.cyclesP - t ≤ 2 * s.safeCfgN (O.thodarWatchdog j)

/-- What an accepted DATA envelope does (R404, R408): in RUN its bits act; the second of two consecutive ones in time
brings the connection to RUN. DEDUCED, log entry 62. -/
def State.dataAct (e : Envelope) (s : State) (j : ConnN) (d : Option Nat) : State :=
  let c := s.safety.conns[j]
  match c.state with
  | .off => s
  | .run => s.modConn j fun c => { c with demand := demandBits e.payload, dataAt := some s.safety.cyclesP }
  | .starting | .expired =>
    let run : Bool := d == some 1 && s.dataInTime j
    let s := s.modConn j fun c => { c with dataAt := some s.safety.cyclesP }
    if run then (s.modConn j fun c => { c with state := .run, demand := demandBits e.payload }).event 0x9013 j else s

/-- THODAR_DATA (R407, R408). -/
def execThodarData (e : Envelope) (s : State) : Outcome State Fault Refusal :=
  .next (s.envelope e false (State.dataAct e))

/-- The proof of a RESET envelope: 16 bytes of SHA-256 over ID_IN, SEQ and the password (Table 12.2).
PRESUMED, log entry 63. -/
def State.resetProof (s : State) (j : ConnN) (seq : Nat) (pw : List Byte) : List Byte :=
  (sha256 (leBytes 4 (s.safeCfg (O.idIn j)) ++ leBytes 2 seq ++ pw)).take 16

/-- What an accepted RESET envelope does (R400, R411): it acts only in RUN. DEDUCED, log entry 64. -/
def State.resetAct (e : Envelope) (s : State) (j : ConnN) (_d : Option Nat) : State :=
  if s.safety.conns[j].state != .run then s
  else
    let good : Bool := match s.safety.password with
      | some pw => s.resetProof j e.seq pw == e.payload
      | none => false
    if good && !s.net.credLocked then s.resetLockouts 1
    else (s.event 0x9110 1).rejectCredential 4

/-- THODAR_RESET (R411). -/
def execThodarReset (e : Envelope) (s : State) : Outcome State Fault Refusal :=
  .next (s.envelope e true (State.resetAct e))

/-- THODAR_TIMEOUT (R408): the watchdog of connection j expires. DEDUCED, log entry 62. -/
def execThodarTimeout (j : ConnN) (s : State) : Outcome State Fault Refusal :=
  if s.safety.conns[j].state == .run && !s.dataInTime j then
    let s := s.modConn j fun c => { c with state := .expired, dataAt := none, demand := BitVec.allOnes 24 }
    .next ((s.count (O.thodarCount j 5)).event 0x9111 j)
  else .next s

/-- The STATUS payload (Table 12.2). -/
def State.statusPayload (s : State) : List Byte :=
  let bits := allAxes.foldl (fun n a =>
    if (s.axis a).safe.senP && (s.axis a).safe.senL then n + 2 ^ a.val else n) 0
  leBytes 2 bits ++ leBytes 4 s.lockoutWord ++ leBytes 1 (s.platform * 64) ++ leBytes 1 0

/-- The SAFETY packet that carries an envelope of connection j (R405). -/
def State.statusPacket (s : State) (j : ConnN) (e : Envelope) : Packet :=
  { kind := 5, dst := s.safeCfgN (O.thodarPeer j), src := s.address, command := j, seq := 0, payload := envelopeBytes e }

/-- THODAR_STATUS_SEND (R405, R410). -/
def execThodarStatusSend (j : ConnN) (s : State) : Outcome State Fault Refusal :=
  let c := s.safety.conns[j]
  let medium := s.safeCfgN (O.thodarMedium j)
  if c.state == .off || !s.runs Dom.safeP then .next s
  else
    let payload := s.statusPayload
    let e : Envelope := {
      medium, srcAddr := s.address, version := 1, kind := 2, connection := j
      seq := c.txSeq, watchdog := s.safeCfgN (O.thodarWatchdog j), length := 8, payload
      check := crc32c (checkInput (s.safeCfgN (O.idOut j)) c.txSeq payload) }
    let s := s.modConn j fun c => { c with txSeq := (c.txSeq + 1) % 0x10000, sent := payload }
    let frame : CanFrame :=
      { ident := s.deviceBits + j.val * 0x400 + 0x200, extended := true, remote := false, fd := true, data := envelopeBytes e }
    let m : MailboxN := ⟨28 + j.val, by omega⟩
    match medium with
    | 1 => .next (if s.runs Dom.net then s.sendBoth (Config.macOf (s.safeCfgN (O.thodarPeer j))) (s.statusPacket j e) else s)
    | 2 => .next (s.canPut 0 m frame)
    | 3 => .next (s.canPut 1 m frame)
    | _ => .next s

/-! ### The safety configuration (R412 to R417) -/

/-- The SOURCE of a change-log entry (Table 12.6). -/
def changeSource : Port → Nat
  | .ethA => 1
  | .ethB => 2
  | .canA | .canB => 3
  | .service => 4
  | .safety => 5
  | .host => 0

/-- Add an entry to the change log: 256 entries, newest first (R414). -/
def State.logChange (s : State) (index sub source event : Nat) (old new : Int) : State :=
  let n := s.safety.changeHead + 1
  let c : Change := { entryNo := n, time := s.cfgN O.rtcTime, index, sub, source, event, old, new }
  s.modSafety fun x => { x with changes := (c :: x.changes).take 256, changeHead := n }

/-- The objects of the safety configuration in ascending order (R413). -/
def safetyObjs : List Nat :=
  let block := fun (base stride n sub : Nat) =>
    (List.range n).flatMap fun i => (List.range sub).map fun k => (base + stride * i) * 256 + k + 1
  block 0x7100 0x08 20 4 ++ block 0x7200 0x10 16 0x0F ++ block 0x7400 0x08 16 5 ++ block 0x7600 0x10 4 7
    ++ block 0x7800 0x08 96 2

/-- The configuration check value of a set (R415). -/
def checkValue (get : Nat → Int) : Nat :=
  (crc32c (safetyObjs.flatMap fun a => leBytes 2 (a / 256 : Nat) ++ leBytes 1 (a % 256 : Nat)
    ++ valBytes a (get a))).toNat

/-- SEAL_CHECK_STAGED (R415). -/
def State.stagedCheck (s : State) : Nat := checkValue s.cfg
/-- The check value of the active set. -/
def State.activeCheck (s : State) : Nat := checkValue s.safeCfg
/-- STAGED_DIFFERS (Table 12.13). -/
def State.stagedDiffers (s : State) : Bool := safetyObjs.any fun a => s.cfg a != s.safeCfg a

/-- An object of the safety configuration (R413). -/
def isSafetyCfg (a : Nat) : Bool :=
  0x7000 ≤ a / 256 && a / 256 < 0x8000 && (cardOf a).any fun c => c.write == some .safety && c.effect == .atRestart

/-- A write of an object of the safety configuration changes the staged set; a changed value is logged before the reply
(R413, R414). -/
def State.safetyCfgAct (s : State) (src : Src) (a : Nat) (v : Int) : Acted :=
  let old := s.cfg a
  let s := s.setObj a v
  (if old = v then s else s.logChange (a / 256) (a % 256) (changeSource src.port) 0 old v).done

/-- A password: 8 to 16 characters from 0x21 to 0x7E (R412). -/
def passwordOk (pw : List Byte) : Bool :=
  8 ≤ pw.length && pw.length ≤ 16 && pw.all fun b => 0x21 ≤ b.toNat && b.toNat ≤ 0x7E

/-- How many bytes follow the first byte of a UTF-8 character, and the bounds of the next one; none = no first byte. -/
def utf8Lead (b : Nat) : Option (Nat × Nat × Nat) :=
  if b < 0x80 then some (0, 0, 0)
  else if 0xC2 ≤ b && b < 0xE0 then some (1, 0x80, 0xBF)
  else if 0xE0 ≤ b && b < 0xF0 then some (2, if b = 0xE0 then 0xA0 else 0x80, if b = 0xED then 0x9F else 0xBF)
  else if 0xF0 ≤ b && b < 0xF5 then some (3, if b = 0xF0 then 0x90 else 0x80, if b = 0xF4 then 0x8F else 0xBF)
  else none
/-- Bytes are UTF-8: `more` bytes of a character are to come, the next between `lo` and `hi` (R352). PRESUMED, log entry 161. -/
def utf8From (more lo hi : Nat) : List Byte → Bool
  | [] => more == 0
  | b :: bs =>
    if more = 0 then match utf8Lead b.toNat with
      | some (n, lo, hi) => utf8From n lo hi bs
      | none => false
    else lo ≤ b.toNat && b.toNat ≤ hi && utf8From (more - 1) 0x80 0xBF bs

/-- A write of SAFETY_PASSWORD_NEW (R412): at most 255 bytes of UTF-8 are a STR (R352). DEDUCED, log entry 64. -/
def State.passwordAct (s : State) (src : Src) (pw : List Byte) : Acted :=
  if 255 < pw.length || !utf8From 0 0 0 pw then (s, .typeMismatch, 0)
  else if !passwordOk pw then (s, .outOfRange, 0)
  else
    let s := s.modSafety fun x => { x with password := some pw }
    ((s.logChange 0 0 (changeSource src.port) 3 0 0).event 0x9017 0).done

/-- SAFETY_PASSWORD_NEW (R412); the check of its words first (R32). -/
def execSafetyPasswordNew (src : Src) (pw : List Byte) (s : State) : Outcome State Fault Refusal :=
  if !bytesOk src.flip pw then
    .next ((s.checkReport 5 (producerOf src.port)).emit (.written (refOf O.safetyPasswordNew) .checkFailed 0))
  else match s.accessRefusal src O.safetyPasswordNew with
  | some (code, reason) => .next (s.emit (.written (refOf O.safetyPasswordNew) code reason))
  | none =>
    let (s, code, reason) := s.ordered src O.safetyPasswordNew fun s => s.passwordAct src pw
    .next (s.emit (.written (refOf O.safetyPasswordNew) code reason))

/-- A function is mapped to axis a in the staged set by a safety input or a virtual input (R366, R371). -/
def State.stagedMaps (s : State) (fn : Nat) (a : AxisN) : Bool :=
  (allSi.any fun i => s.cfgN (O.siFunction i) == fn && (s.cfgN (O.siAxes i)).testBit a) ||
    (List.range 96).any fun v => s.cfgN (O.viFunction v) == fn && (s.cfgN (O.viAxes v)).testBit a

/-- A safe counter's channel: 0 to 15, FB_TYPE 1 or 5 (R379). -/
def State.counterOk (s : State) (n : Nat) : Bool :=
  if h : n < 16 then
    let f : ChanN := ⟨n, by omega⟩
    s.cfgN (O.fbType f) == 1 || s.cfgN (O.fbType f) == 5
  else false

/-- Both speed sources of axis a are sound in the staged set; source 1 counts as the axis does (R379). -/
def State.stagedSources (s : State) (a : AxisN) : Bool :=
  let n := s.cfgN (O.safeSrc1 a)
  let m := s.cfgN (O.safeSrc2 a)
  s.counterOk n && (if h : n < 16 then s.chanCpr ⟨n, by omega⟩ == s.countsRev a else false)
    && (m == 254 || s.counterOk m)

/-- The checks made at sealing (R379, R416). -/
def State.sealable (s : State) : Bool :=
  (allAxes.all fun a =>
    let needs := (s.stagedMaps 2 a && s.cfgN (O.ss1Mode a) == 1) || s.stagedMaps 4 a || s.stagedMaps 5 a
      || s.stagedMaps 6 a
    !needs || s.stagedSources a) &&
  (allConns.all fun j =>
    (s.cfgN (O.thodarMedium j) == 0 || (s.cfg (O.idIn j) != 0 && s.cfg (O.idOut j) != 0)) &&
      (List.range 24).all fun k => s.cfgN (O.viFunction (24 * j.val + k)) == 0 || k < 8 * s.cfgN (O.thodarLen j))

/-- A write of CONFIG_SEAL (R416): its refusal, or the staged set on its way to flash. DEDUCED, log entry 65. -/
def State.sealAct (s : State) (src : Src) (v : Int) : Acted :=
  let refuse := fun (code : Reply) => ((s.logChange 0 0 (changeSource src.port) 2 0 0).event 0x9116 0, code, 0)
  let still : Bool := allAxes.all fun a => match (s.axis a).field.state with
    | .disabled | .ready | .safeOff | .lockedOut => true
    | .running | .stopping | .holdAsc | .fault => false
  if !still || s.safety.sealing.isSome then refuse .locked
  else if s.safety.password.isNone || v != s.stagedCheck || !s.sealable then refuse .outOfRange
  else
    let set := (safetyObjs.filter fun a => s.cfg a != defaultOf a).map fun a => (a, s.cfg a)
    (s.modSafety fun x => { x with sealing := some (changeSource src.port, set) }).done

/-- CONFIG_SEAL (R416): an accepted seal is answered once the set is in flash; the check of its value first (R32). -/
def execConfigSeal (src : Src) (v : Int) (s : State) : Outcome State Fault Refusal :=
  let answer := fun (s : State) (c : Reply × Nat) => s.emit (.written (refOf O.configSeal) c.1 c.2)
  if !valueOk src.flip v then .next (answer (s.checkReport 5 (producerOf src.port)) (.checkFailed, 0))
  else match s.writeRefusal src O.configSeal v with
  | some c => .next (answer s c)
  | none =>
    let (s, code, reason) := s.ordered src O.configSeal fun s => s.sealAct src v
    .next (if code == .ok then s else answer s (code, reason))

/-- The sealed set is in flash: it is the active set from now on (R416, steps 1 and 3). -/
def State.sealDone (s : State) : State :=
  match s.safety.sealing with
  | none => s
  | some (source, set) =>
    let n := (s.safety.sealCount + 1) % 0x10000
    let s := s.modSafety fun x => { x with sealing := none, active := set, sealed := 1, sealCount := n }
    let c := s.activeCheck
    let s := s.modSafety fun x => { x with sealCheck := c }
    (s.logChange 0 0 source 1 0 c).event 0x9015 n

/-! ### The start of a path (R364, R397, R398, R408, R417) -/

/-- Path `w` starts: every enable off, every output open, inputs unrecognised, lock-outs restored, connections STARTING,
the stored set checked. DEDUCED, log entry 58. -/
def State.pathStart (s : State) (w : Path) : State :=
  let fresh : SiPath := { a := { demand := true }, b := { demand := true } }
  let s := s.modSafety fun x => { x with
    inputs := x.inputs.map fun y => match w with
      | .p => { y with p := fresh }
      | .l => { y with l := fresh }
    lockouts := x.lockouts.map fun y => match w with
      | .p => { y with p := true, pRestarted := true, braking := false, causedAt := none }
      | .l => { y with l := true, lRestarted := true, braking := false } }
  let s := s.each allAxes fun s a => s.modSafe a fun x => match w with
    | .p => { x with senP := false, p := {}, violation := false, standstill := false, slsSince := none, sdi := 0
                     sdiTravel := 0, stillSince := none, moves1 := [], moves2 := [], windowCycles := 0, disagreeRun := 0, agreed := false }
    | .l => { x with senL := false, l := {} }
  let s := s.each allSbc fun s k => s.openBrake k
  let s := match w with
    | .p =>
      let s := s.modSafety fun x => { x with
        brakes := Vector.replicate 16 {}
        cyclesP := 0, heardP := false, lockrstP := {}, sealing := none }
      s.each allConns fun s j => s.modConn j fun _ =>
        { state := if s.safeCfgN (O.thodarMedium j) == 0 then .off else .starting }
    | .l => s.modSafety fun x => { x with cyclesL := 0, heardL := false, lockrstL := {} }
  let s := s.each allAxes fun s a => s.enableLost a (s.axisHeldOff a)
  if s.safety.sealed != 0 && s.activeCheck != s.safety.sealCheck then
    let inst := match w with
      | .p => 0
      | .l => 1
    let s := s.modSafety fun x => { x with sealed := 2 }
    (s.logChange 0 0 0 4 0 0).lockout 0x9514 inst .device w
  else s.lockoutsAct w

/-- Path `w` stops, planned or not: its enables go and its switches open; what SAFE-L holds follows (R361, R365). -/
def State.pathStop (s : State) (w : Path) : State :=
  let s := s.modSafety fun x => match w with
    | .p => { x with heardP := false, sealing := none }
    | .l => { x with heardL := false }
  let s := s.each allConns fun s j => s.modConn j fun c =>
    if w == .p then { c with state := .off, demand := BitVec.allOnes 24 } else c
  let s := s.each allAxes fun s a => (s.grant .p a).grant .l a
  s.each allSbc fun s k => s.openBrake k

end Sys2Proof.Machine
end

