-- ==== Sys2Proof/Machine/Services.lean ====
section
/-! DEFINITION. The thruster and winch services of domain HOST (13, R419 to R443): claims, service ticks, crash
stops, load shedding, the rope model, constant tension, heave compensation, release and spooling. -/

namespace Sys2Proof.Machine

open Host

/-- Thrusters or winches 0 to 7. -/
def allSvc : List SvcN := List.finRange 8
/-- Update the services. -/
def State.modSvc (s : State) (f : Services → Services) : State := { s with svc := f s.svc }
/-- Update thruster t. -/
def State.modThr (s : State) (t : SvcN) (f : Thruster → Thruster) : State :=
  s.modSvc fun v => { v with thr := v.thr.set t (f v.thr[t]) }
/-- Update winch w. -/
def State.modWinch (s : State) (w : SvcN) (f : Winch → Winch) : State :=
  s.modSvc fun v => { v with winch := v.winch.set w (f v.winch[w]) }

/-! ### Taking a value (Table 0.5) -/

/-- The axes at whose commit boundary a NEXT CYCLE object of this address takes effect. -/
def State.cycleAxes (s : State) (a : Nat) : List AxisN :=
  let i := a / 256
  match axisOfIndex i, legOfIndex i, slotOfIndex i, chanOfIndex i with
  | some x, _, _, _ => [x]
  | none, some l, _, _ => (s.axisOf l).toList
  | none, none, some g, _ => s.localMembers g
  | none, none, none, some f => s.readers f
  | none, none, none, none => []

/-- Put an accepted value in force, or in wait for its tick or boundary (Table 0.5). A NEXT CYCLE value of which no axis has a
cycle takes effect at once (DESIGN CHOICE, log entry 132). A target written to a group member replaces an inherited one
(R284). -/
def State.takeValue (s : State) (a : Nat) (v : Int) : State :=
  let now := (s.setObj a v).unstage a
  let s' := match (cardOf a).map (·.effect) with
    | some .nextCycle => if (s.cycleAxes a).any fun x => s.axisType x != 0 then s.stage a v else now
    | some .nextPlanner | some .nextArbiter | some .atRestart => s.stage a v
    | some .immediate | some .whenDisabled | none => now
  match axisOfIndex (a / 256) with
  | some x =>
    if a == O.targetPos x || a == O.velocitySet x || a == O.moveMode x then
      s'.modMember x fun m => { m with inherited := false }
    else s'
  | none => s'

/-- What an accepted write of a service does. -/
def State.serviceAct (s : State) (a : Nat) (v : Int) : Acted :=
  let i := a / 256
  if h : 0x7400 ≤ i ∧ i < 0x7480 then s.brakeCmdAct ⟨(i - 0x7400) / 8, by omega⟩ v
  else if h : 0x5C00 ≤ i ∧ i < 0x5E00 then s.cmpWrite ⟨(i - 0x5C00) / 0x10, by omega⟩ a v
  else (s.takeValue a v).done

/-- A write of a service (R419): refused where its check fails or any write would be refused, else the object's own
behaviour, in its place among the writes of its tick (R351). -/
def State.serviceWrite (s : State) (a : Nat) (v : Int) : State :=
  if !valueOk (s.flipOf a) v then s.checkReport 5 (producerOf .host)
  else if (s.domainRefusal (a / 256)).isSome || (s.valueRefusal a v).isSome then s
  else (s.ordered { port := .host, level := .maker, arrival := some s.ref.time } a fun s => s.serviceAct a v).1

/-- The owning service's SVC_ALIVE of axis a (R423). DESIGN CHOICE, log entry 84. -/
def State.alive (s : State) (a : AxisN) : State :=
  let v : Int := Config.svcAlive s.draws % 256
  { s with draws := s.draws + 1 }.serviceWrite (O.svcAlive a) v

/-- Axis a is RUNNING. -/
def State.isRunning (s : State) (a : AxisN) : Bool := (s.axis a).field.state == .running
/-- The thruster's axis, the drum, the level-wind; none at 255. -/
def State.thrAxisOf (s : State) (t : SvcN) : Option AxisN := axisNum (s.cfgN (O.thrAxis t))
/-- The drum of winch w. -/
def State.drumOf (s : State) (w : SvcN) : Option AxisN := axisNum (s.cfgN (O.winchAxis w))
/-- The level-wind of winch w. -/
def State.spoolOf (s : State) (w : SvcN) : Option AxisN := axisNum (s.cfgN (O.spoolAxis w))

/-- A claimed object is mapped in an enabled receive frame (R421). -/
def State.mappedIn (s : State) (objs : List Nat) : Bool :=
  (List.finRange 16).any fun (k : CycN) => s.cfgN (O.cycEnable k) == 1 && s.cfgN (O.cycDir k) == 0
    && (s.frameObjects k).any objs.contains

/-- The axis is a member of a ridge group of the given GROUP_MODE (R421). -/
def State.inGroup (s : State) (a : AxisN) (mode : Nat) : Bool :=
  match s.slotOf a with
  | some g => s.cfgN (O.groupMode g) == mode
  | none => false
/-- CONTROL_MODE 1, or membership of a ridge group whose GROUP_MODE is 1 (R421). -/
def State.speedControlled (s : State) (a : AxisN) : Bool :=
  if (s.slotOf a).isSome then s.inGroup a 1 else s.cfgN (O.controlMode a) == 1
/-- CONTROL_MODE 0 outside a group (R421). -/
def State.torqueControlled (s : State) (a : AxisN) : Bool := (s.slotOf a).isNone && s.cfgN (O.controlMode a) == 0

/-! ### Thrusters (R427 to R430) -/

/-- The shed level in force (R430): THR_SHED_LEVEL, and at least 1 while the automatic level acts. -/
def State.shedLevel (s : State) (t : SvcN) : Nat :=
  let auto : Bool := s.svc.thr[t].auto && s.cfgN O.freqSource == 1 && s.cfgF (O.thrShedFreq t) != 0
  max (s.cfgN (O.thrShedLevel t)) (if auto then 1 else 0)

/-- The factor f of a shed level (R430). -/
def State.shedFactor (s : State) (t : SvcN) : Rat :=
  let p := s.cfgN (O.thrShedPercent t)
  match s.shedLevel t with
  | 0 => 1
  | 1 => ((p % 256 : Nat) : Rat) / 100
  | 2 => ((p / 256 % 256 : Nat) : Rat) / 100
  | _ => ((p / 65536 : Nat) : Rat) / 100

/-- The bound on |c_r| of the propeller law, per mille (R430). -/
def State.shedBound (s : State) (t : SvcN) : Rat :=
  let f := s.shedFactor t
  if f = 0 then 0
  else if f = 1 then 1000
  else match s.cfgN (O.thrMode t) with
    | 0 => 1000 * Config.cubeRoot f
    | 1 => 1000 * Config.cubeRoot (f * f)
    | _ => 1000 * f

/-- The command that c_r ramps to: THR_COMMAND, or the crash target, within the shed bound (R427, R428, R430). -/
def State.thrGoal (s : State) (t : SvcN) : Rat :=
  let T := s.svc.thr[t]
  let goal : Rat := match T.state with
    | .crash | .crashHold => T.crashTo
    | .off | .armed | .active | .paused => s.cfg (O.thrCommand t)
  clampQ (s.shedBound t) goal

/-- c_r at an entry into ACTIVE (R422). DEDUCED, log entry 83. -/
def State.thrStart (s : State) (t : SvcN) (a : AxisN) : Rat :=
  if s.cfgN (O.thrMode t) == 0 then
    clampQ 1000 ((s.axis a).field.speed * 1000 / s.cfgN (O.thrSpeedMax t))
  else 0

/-- ω in rad/s of a speed in counts/s (R427, R160). -/
def State.radians (s : State) (a : AxisN) (v : Rat) : Rat := 2 * Config.pi * v / s.countsRev a

/-- Write the set-point of THR_MODE (R427). -/
def State.thrSetPoint (s : State) (t : SvcN) (a : AxisN) : State :=
  let c := s.svc.thr[t].cmd
  let vMax : Rat := s.cfgN (O.thrSpeedMax t)
  let tMax := s.cfgF (O.thrTorqueMax t)
  let v := (s.axis a).field.speed
  let torque := fun (m : Rat) =>
    let m := if vMax < qabs v && 0 < m * v then 0 else m
    s.serviceWrite (O.torqueSet a) (f32Of m)
  match s.cfgN (O.thrMode t) with
  | 0 => (s.serviceWrite (O.moveMode a) 1).serviceWrite (O.velocitySet a) (roundNear (c * vMax / 1000))
  | 1 => torque (c * tMax / 1000)
  | _ =>
    let w := max (qabs (s.radians a v)) (qabs (s.radians a (vMax / 20)))
    torque (clampQ tMax ((c * s.cfgF (O.thrPowerMax t) / 1000) / w))

/-- Write POWER_CLASS and POWER_REQUEST (Table 13.2). -/
def State.thrRequest (s : State) (t : SvcN) (a : AxisN) : State :=
  (s.serviceWrite (O.powerClass a) (s.cfg (O.thrClass t))).serviceWrite (O.powerRequest a)
    (f32Of (s.cfgF (O.thrPowerMax t) * s.shedFactor t))

/-- Restore the planner limits a crash saved (R429). -/
def State.thrRestore (s : State) (t : SvcN) (a : AxisN) : State :=
  match s.svc.thr[t].saved with
  | some (up, down) =>
    ((s.serviceWrite (O.profileAccel a) up).serviceWrite (O.profileDecel a) down).modThr t fun T => { T with saved := none }
  | none => s

/-- The crash of the last accepted write begins at this tick (R428). -/
def State.thrCrashBegin (s : State) (t : SvcN) (a : AxisN) : State :=
  let s := s.modThr t fun T => { T with state := .crash, crashDue := false, cmd := T.crashTo }
  if s.cfgN (O.thrMode t) == 0 then
    let up := s.val (O.profileAccel a)
    let down := s.val (O.profileDecel a)
    let c := s.cfg (O.thrCrashAccel t)
    ((s.serviceWrite (O.profileAccel a) c).serviceWrite (O.profileDecel a) c).modThr t fun T => { T with
      saved := some (up, down) }
  else s

/-- The crash is complete: the shaft turns the other way fast enough (R429). -/
def State.thrCrashDone (s : State) (t : SvcN) (a : AxisN) : Bool :=
  let v := (s.axis a).field.speed
  let c := s.svc.thr[t].crashTo
  qsign v == qsign c && 9 * qabs c * s.cfgN (O.thrSpeedMax t) / 10000 ≤ qabs v

/-- One service tick of an enabled thruster whose axis is RUNNING. DEDUCED, log entry 83. -/
def State.thrRun (s : State) (t : SvcN) (a : AxisN) : State :=
  let s :=
    match s.svc.thr[t].state with
    | .armed | .paused => s.modThr t fun T => { T with state := .active, cmd := s.thrStart t a }
    | .active => if s.svc.thr[t].crashDue then s.thrCrashBegin t a else s
    | .crash =>
      if s.thrCrashDone t a then (s.thrRestore t a).modThr t fun T => { T with state := .crashHold } else s
    | .off | .crashHold => s
  let goal := s.thrGoal t
  let bound := s.shedBound t
  let step : Rat := (s.cfgN (O.thrRamp t) : Rat) / 1000
  let s := s.modThr t fun T =>
    let c := clampQ bound T.cmd
    { T with level := s.shedLevel t, cmd := if qabs (goal - c) ≤ step then goal else c + (if c < goal then step else -step) }
  (s.thrSetPoint t a).thrRequest t a

/-- One service tick of thruster t (R422). DEDUCED, log entry 83. -/
def State.thrTick (s : State) (t : SvcN) : State :=
  match s.thrAxisOf t, s.svc.thr[t].state with
  | _, .off => s
  | none, _ => s
  | some a, st =>
    let s := s.alive a
    if s.isRunning a then s.thrRun t a
    else match st with
      | .active | .crash | .crashHold =>
        (s.thrRestore t a).modThr t fun T => { T with state := .paused, crashDue := false }
      | .off | .armed | .paused => s

/-- THR_ENABLE (R421, R422). -/
def State.thrEnableAct (s : State) (t : SvcN) (v : Int) : Acted :=
  if v = 0 then
    let s := match s.thrAxisOf t with
      | some a => s.thrRestore t a
      | none => s
    ((s.setObj (O.thrEnable t) 0).modThr t fun T => { T with state := .off, crashDue := false, cmd := 0 }).done
  else if s.thrClaim t then s.done
  else match s.thrAxisOf t with
    | none => (s, .outOfRange, 0)
    | some a =>
      if s.svcOwner a != 0xFF || s.mappedIn (thrObjects a) then s.lock
      else if !(if s.cfgN (O.thrMode t) == 0 then s.speedControlled a else s.torqueControlled a) then
        (s, .outOfRange, 0)
      else ((s.setObj (O.thrEnable t) 1).modThr t fun T => { T with state := .armed, crashDue := false }).done

/-- THR_ENABLE (R422). -/
def execThrEnable (src : Src) (t : SvcN) (v : Int) (s : State) : Outcome State Fault Refusal :=
  .next (s.writeRow src (O.thrEnable t) v fun s => s.thrEnableAct t v)

/-- End CRASH or CRASH_HOLD: c_r ramps to THR_COMMAND (R429). -/
def State.thrCrashOver (s : State) (t : SvcN) : State :=
  let s := match s.thrAxisOf t with
    | some a => s.thrRestore t a
    | none => s
  s.modThr t fun T => { T with crashDue := false, state := match T.state with
    | .crash | .crashHold => .active
    | st => st }

/-- THR_CRASH (R428, R429). -/
def State.thrCrashAct (s : State) (t : SvcN) (v : Int) : Acted :=
  if v = 0 then (s.thrCrashOver t).done
  else match s.svc.thr[t].state, s.thrAxisOf t with
    | .active, some a =>
      let speed := (s.axis a).field.speed
      let dir := if speed = 0 then qsign s.svc.thr[t].cmd else qsign speed
      if dir = 0 then (s, .outOfRange, 0)
      else (s.modThr t fun T => { T with
        crashDue := true, crashTo := -(dir : Rat) * s.cfgN (O.thrCrashLevel t) }).done
    | _, _ => s.lock

/-- THR_CRASH_START (R428): THR_CRASH 1. -/
def execThrCrashStart (src : Src) (t : SvcN) (s : State) : Outcome State Fault Refusal :=
  .next (s.writeRow src (O.thrCrash t) 1 fun s => s.thrCrashAct t 1)
/-- THR_CRASH_END (R429): THR_CRASH 0. -/
def execThrCrashEnd (src : Src) (t : SvcN) (s : State) : Outcome State Fault Refusal :=
  .next (s.writeRow src (O.thrCrash t) 0 fun s => s.thrCrashAct t 0)

/-- THR_COMMAND: CRASH_HOLD ends at the first value that is 0 or has the sign of c_x (R429). -/
def State.thrCommandAct (s : State) (t : SvcN) (v : Int) : Acted :=
  let s := s.setObj (O.thrCommand t) v
  let T := s.svc.thr[t]
  if T.state == .crashHold && (v == 0 || qsign v == qsign T.crashTo) then (s.thrCrashOver t).done else s.done

/-- THR_SHED_AUTO_RAISE (R430): SHIP_FREQ has stayed below THR_SHED_FREQ for 100 ms. -/
def execThrShedAutoRaise (t : SvcN) (s : State) : Outcome State Fault Refusal :=
  if s.runs Dom.host && s.cfgN O.freqSource == 1 && s.cfgF (O.thrShedFreq t) != 0
      && s.cfgF O.shipFreq < s.cfgF (O.thrShedFreq t) then .next (s.modThr t fun T => { T with auto := true })
  else .next s

/-- THR_SHED_AUTO_CLEAR (R430): 2 s at or above THR_SHED_FREQ + 0.2 Hz. -/
def execThrShedAutoClear (t : SvcN) (s : State) : Outcome State Fault Refusal :=
  if s.runs Dom.host && s.cfgF (O.thrShedFreq t) + 1 / 5 ≤ s.cfgF O.shipFreq then
    .next (s.modThr t fun T => { T with auto := false })
  else .next s

/-! ### Rope (R431 to R434) -/

/-- The rope-centre radius of layer k (R431). -/
def State.ropeRadius (s : State) (w : SvcN) (k : Nat) : Rat :=
  s.cfgF (O.drumRFirst w) + k * s.cfgF (O.drumLayerPitch w)
/-- The length of one turn on layer k. -/
def State.turnLength (s : State) (w : SvcN) (k : Nat) : Rat := 2 * Config.pi * s.ropeRadius w k
/-- The layer of N turns (R431). -/
def State.ropeLayer (s : State) (w : SvcN) (n : Rat) : Nat :=
  min (n / s.cfgF (O.drumTurnsPerLayer w)).floor.toNat (s.cfgN (O.drumLayers w) - 1)
/-- The rope on the drum at N turns, L(N) (R431). -/
def State.ropeOn (s : State) (w : SvcN) (n : Rat) : Rat :=
  let k := s.ropeLayer w n
  let tpl := s.cfgF (O.drumTurnsPerLayer w)
  qsum ((List.range k).map fun i => s.turnLength w i * tpl) + (n - k * tpl) * s.turnLength w k
/-- N with L(N) = ℓ, from layer i with `fuel` layers above it. -/
def State.ropeTurns (s : State) (w : SvcN) : Nat → Nat → Rat → Rat
  | 0, i, l => i * s.cfgF (O.drumTurnsPerLayer w) + l / s.turnLength w i
  | fuel + 1, i, l =>
    let full := s.turnLength w i * s.cfgF (O.drumTurnsPerLayer w)
    if l < full then i * s.cfgF (O.drumTurnsPerLayer w) + l / s.turnLength w i
    else s.ropeTurns w fuel (i + 1) (l - full)
/-- N with L(N) = ℓ. DEDUCED, log entry 81. -/
def State.solveTurns (s : State) (w : SvcN) (l : Rat) : Rat := s.ropeTurns w (s.cfgN (O.drumLayers w) - 1) 0 l

/-- The present position of the drum (R431, R237). -/
def State.drumPos (s : State) (w : SvcN) : Int :=
  match s.drumOf w with
  | some a => s.axisPos a
  | none => 0
/-- N: from the calibration, or as last stored while PAYOUT_VALID is clear (R431, R432); with nothing stored, the turns
at which PAYOUT has its default 0. DEDUCED, log entry 81. -/
def State.turns (s : State) (w : SvcN) : Rat :=
  let W := s.svc.winch[w]
  match W.payoutValid, W.nC with
  | true, some n => n - ((s.drumPos w - W.xC : Int) : Rat) / s.cfgN (O.drumCountsPerRev w)
  | _, _ => W.storedN.getD (s.solveTurns w (s.cfgF (O.ropeLength w)))
/-- The layer k in force. DEDUCED, log entry 81. -/
def State.layer (s : State) (w : SvcN) : Nat := s.ropeLayer w (s.turns w)
/-- PAYOUT (R431). -/
def State.payout (s : State) (w : SvcN) : Rat := s.cfgF (O.ropeLength w) - s.ropeOn w (s.turns w)

/-- PAYOUT_SET (R432). -/
def State.payoutSetAct (s : State) (w : SvcN) (v : Int) : Acted :=
  let l := s.cfgF (O.ropeLength w) - f32Rat v
  let full := s.ropeOn w (s.cfgF (O.drumTurnsPerLayer w) * s.cfgN (O.drumLayers w))
  if l < 0 || full < l then (s, .outOfRange, 0)
  else ((s.setObj (O.payoutSet w) v).modWinch w fun W => { W with
    nC := some (s.solveTurns w l), xC := s.drumPos w, payoutValid := true }).done

/-- PAYOUT_SET (R432). -/
def execPayoutSet (src : Src) (w : SvcN) (v : Int) (s : State) : Outcome State Fault Refusal :=
  .next (s.writeRow src (O.payoutSet w) v fun s => s.payoutSetAct w v)

/-- Store N_c and x_c: N at the present position (R432). -/
def State.payoutStore (s : State) (w : SvcN) : State :=
  if s.svc.winch[w].payoutValid then s.modWinch w fun W => { W with storedN := some (s.turns w) } else s

/-- PAYOUT_STORE (R432): every 10 s. -/
def execPayoutStore (w : SvcN) (s : State) : Outcome State Fault Refusal :=
  .next (if s.runs Dom.host && s.runs Dom.mem then s.payoutStore w else s)

/-- Write a rope speed in m/s (R433). -/
def State.ropeSpeed (s : State) (w : SvcN) (a : AxisN) (v : Rat) : State :=
  let n := roundNear (v * s.cfgN (O.drumCountsPerRev w) / s.turnLength w (s.layer w))
  (s.serviceWrite (O.moveMode a) 1).serviceWrite (O.velocitySet a) n

/-- The estimated tension in kN (R434). -/
def State.tensionEstimate (s : State) (w : SvcN) (a : AxisN) : Rat :=
  let torque := match s.slotOf a with
    | some g => s.slots[g].tG
    | none => (s.axis a).field.torque * s.cfgN (O.drumCountsPerRev w) / s.countsRev a
  torque / s.ropeRadius w (s.layer w) / 1000
/-- The tension T (R434). -/
def State.tension (s : State) (w : SvcN) (a : AxisN) : Rat :=
  if s.cfgN (O.tensionSource w) == 1 && !s.svc.winch[w].tensionStale then s.cfgF (O.tensionMeas w)
  else s.tensionEstimate w a

/-- TENSION_STALE (R434): TENSION_MEAS has not been written for 100 ms. -/
def execTensionStale (w : SvcN) (s : State) : Outcome State Fault Refusal :=
  .next (if s.runs Dom.host && s.cfgN (O.tensionSource w) == 1 then s.modWinch w fun W => { W with tensionStale := true }
    else s)

/-- TENSION_MEAS: a write ends TENSION_STALE (R434). -/
def State.tensionMeasAct (s : State) (w : SvcN) (v : Int) : Acted :=
  ((s.setObj (O.tensionMeas w) v).modWinch w fun W => { W with tensionStale := false }).done

/-! ### Heave compensation (R436 to R438) -/

/-- REF_TIME in seconds. -/
def State.refSeconds (s : State) : Rat := (s.ref.time : Rat) / ticksPerS
/-- The IEEE 1588 time in ns, from the last valid Sync. -/
def State.ptpNow (s : State) : Rat := s.ref.ptpTime + (((s.ref.time : Int) - s.ref.ptpAt : Int) : Rat) * 5 / 2

/-- AHC_REF_TIME: the tick of its write is the measurement's time while DISCIPLINED is clear (R436). -/
def State.refTimeAct (s : State) (w : SvcN) (v : Int) : Acted :=
  ((s.setObj (O.ahcRefTime w) v).modWinch w fun W => { W with refWritten := s.ref.time }).done

/-- The predicted heave h_p (R437). -/
def State.predictedHeave (s : State) (w : SvcN) : Rat :=
  let W := s.svc.winch[w]
  W.heave + W.heaveVel * (s.refSeconds + (s.cfgN (O.ahcLead w) : Rat) / 1000 - W.measuredAt)

/-- Record the entry values afresh (R437, R438). -/
def State.heaveEntry (s : State) (w : SvcN) : State :=
  s.modWinch w fun W => { W with p0 := s.payout w, h0 := s.predictedHeave w, integral := 0 }

/-- Take a triple when AHC_REF_TIME has changed (R436); after a loss the factor rises again from its present value
(R438). -/
def State.takeTriple (s : State) (w : SvcN) : State :=
  let W := s.svc.winch[w]
  let t := s.cfgN (O.ahcRefTime w)
  if t == W.seen then s
  else
    let s := s.modWinch w fun W => { W with seen := t }
    let old : Bool := W.lastTaken.any fun l => t ≤ l
    let ahead : Bool := s.ref.disciplined && s.ptpNow + 10000000 < (t : Rat)
    if old || ahead then s
    else
      let at_ := if s.ref.disciplined then s.refSeconds - (s.ptpNow - t) / 1000000000
        else (W.refWritten : Rat) / ticksPerS
      let s := s.modWinch w fun W => { W with
        heave := s.cfgF (O.ahcHeave w), heaveVel := s.cfgF (O.ahcHeaveVel w), measuredAt := at_
        takenAt := some s.ref.time, lastTaken := some t }
      if W.factor < 1 && W.fade != .rising || W.fade == .falling then
        (s.heaveEntry w).modWinch w fun W => { W with fade := .rising }
      else s

/-- The factor moves by one tick of AHC_FADE (R438). -/
def State.fadeTick (s : State) (w : SvcN) : State :=
  let d : Rat := 1 / s.cfgN (O.ahcFade w)
  s.modWinch w fun W => match W.fade with
    | .steady => W
    | .falling => if W.factor ≤ d then { W with factor := 0, fade := .steady } else { W with factor := W.factor - d }
    | .rising => if 1 ≤ W.factor + d then { W with factor := 1, fade := .steady } else { W with factor := W.factor + d }

/-- The rope speed of mode 2 (R437, R438). -/
def State.heaveSpeed (s : State) (w : SvcN) : Rat :=
  let W := s.svc.winch[w]
  let cmd := s.cfgF (O.ropeSpeedCmd w)
  let e := W.p0 + W.integral + W.factor * (s.predictedHeave w - W.h0) - s.payout w
  W.factor * W.heaveVel + cmd + s.cfgF (O.ahcPosGain w) * e

/-- A triple has been taken within the last 300 ms (R437, R438). -/
def State.heaveFresh (s : State) (w : SvcN) : Bool :=
  s.svc.winch[w].takenAt.any fun t => s.ref.time - t ≤ 300 * ticksPerMs

/-- AHC_REFERENCE_LOST (R438): no triple has been taken for 300 ms; the heave terms begin to fade. -/
def execAhcReferenceLost (w : SvcN) (s : State) : Outcome State Fault Refusal :=
  let W := s.svc.winch[w]
  .next (if s.runs Dom.host && W.state == .active && s.cfgN (O.winchMode w) == 2 && 0 < W.factor && !s.heaveFresh w then
    s.modWinch w fun W => { W with fade := .falling } else s)

/-- AHC_FADE_END (R438): the factor reaches 0, and REF_STALE reads 1. -/
def execAhcFadeEnd (w : SvcN) (s : State) : Outcome State Fault Refusal :=
  .next (if s.runs Dom.host && s.svc.winch[w].fade == .falling && decide (s.svc.winch[w].factor ≤ 1 / (s.cfgN (O.ahcFade w) : Rat)) then
    s.modWinch w fun W => { W with factor := 0, fade := .steady } else s)

/-! ### Winch modes and release (R422, R435, R439, R440) -/

/-- The winch service of a mode ends: WINCH_MODE 0, STATE OFF, and N is stored (R422, R432). DEDUCED, log entry 85. -/
def State.winchOff (s : State) (w : SvcN) : State :=
  ((s.setObj (O.winchMode w) 0).payoutStore w).modWinch w fun W => { W with
    state := .off, atLimit := false, factor := 1, fade := .steady, released := false, ending := false }

/-- Release ends (R440): v = 0 is written; the brake is applied once the drum stands, at once if it has left RUNNING. -/
def State.releaseOver (s : State) (w : SvcN) (a : AxisN) : State :=
  let k := s.cfgN (O.winchBrake w)
  if s.isRunning a then
    let s := (s.ropeSpeed w a 0).setObj (O.winchMode w) 0
    if k == 255 then s.winchOff w else s.modWinch w fun W => { W with ending := true, atLimit := false }
  else (if k == 255 then s else s.serviceWrite (O.brakeCmd k) 0).winchOff w

/-- One tick of a release (R439, R440). DEDUCED, log entry 85. -/
def State.releaseTick (s : State) (w : SvcN) (a : AxisN) : State :=
  let W := s.svc.winch[w]
  let k := s.cfgN (O.winchBrake w)
  let d := s.cfgF (O.ropeLength w) - s.cfgF (O.releaseReserve w) - s.payout w
  if W.ending then (if s.isRunning a then s else s.releaseOver w a)
  else if W.payoutValid && d ≤ 0 then (s.modWinch w fun W => { W with releaseEnd := true }).releaseOver w a
  else if !s.isRunning a || !(s.axis a).safe.slsSince.isSome then s.releaseOver w a
  else
    let s := if W.released || k == 255 then s else s.serviceWrite (O.brakeCmd k) 1
    let decel : Rat := s.cfgN (O.profileDecel a) * s.turnLength w (s.layer w) / s.cfgN (O.drumCountsPerRev w)
    let top := s.cfgF (O.releaseSpeed w)
    let cap := if W.payoutValid then min top (Config.sqrt (2 * decel * d)) else top
    let v := s.cfgF (O.tensionGain w) * (s.tension w a - s.cfgF (O.releaseTension w))
    let s := s.modWinch w fun W => { W with released := true, atLimit := cap < v }
    s.ropeSpeed w a (max 0 (min cap v))

/-- One tick of an ACTIVE drum (R435, R437). DEDUCED, log entry 85. -/
def State.drumTick (s : State) (w : SvcN) (a : AxisN) : State :=
  let s := (s.serviceWrite (O.powerClass a) 1).serviceWrite (O.powerRequest a) 0
  if s.cfgN (O.winchMode w) == 1 then
    let v := if s.svc.closing.isSome then 0
      else s.cfgF (O.tensionGain w) * (s.tension w a - s.cfgF (O.tensionSet w))
    let m := s.cfgF (O.ctSpeedMax w)
    (s.modWinch w fun W => { W with atLimit := m < qabs v }).ropeSpeed w a (clampQ m v)
  else
    let s := s.fadeTick w
    let s := s.ropeSpeed w a (if s.svc.closing.isSome && s.svc.winch[w].factor == 0 then 0 else s.heaveSpeed w)
    s.modWinch w fun W => { W with integral := W.integral + s.cfgF (O.ropeSpeedCmd w) / 1000 }

/-- One service tick of the drum of winch w (R422); at a stop of its profile N is stored (R432). -/
def State.winchTick (s : State) (w : SvcN) : State :=
  let s := s.takeTriple w
  match s.drumOf w with
  | none => s
  | some a =>
    let s := s.modWinch w fun W => { W with tension := s.tension w a }
    let s := if (s.axis a).prof.v == 0 && s.runs Dom.mem then s.payoutStore w else s
    match s.svc.winch[w].state with
    | .off => s
    | .armed =>
      let s := s.alive a
      if s.isRunning a then
        ((s.heaveEntry w).modWinch w fun W => { W with state := .active, factor := 1, fade := .steady }).drumTick w a
      else s
    | .active => if s.isRunning a then (s.alive a).drumTick w a else s.winchOff w
    | .releasing =>
      let s := (((s.alive a).serviceWrite (O.powerClass a) 1).serviceWrite (O.powerRequest a) 0)
      s.releaseTick w a

/-- A claim of the drum may start: no other owner, nothing mapped, and CONTROL_MODE suits (R421). -/
def State.drumClaimRefusal (s : State) (w : SvcN) : Option (Reply × Nat) :=
  if s.drumClaim w then none
  else match s.drumOf w with
    | none => some (.outOfRange, 0)
    | some a =>
      if s.svcOwner a != 0xFF || s.mappedIn (drumObjects a (s.cfgN (O.winchBrake w))) then some (.locked, 0)
      else if !s.speedControlled a then some (.outOfRange, 0)
      else none

/-- WINCH_MODE (R421, R422, R437, R439). -/
def State.winchModeAct (s : State) (w : SvcN) (v : Int) : Acted :=
  let W := s.svc.winch[w]
  if W.state == .releasing then s.lock
  else if v = 0 then (s.winchOff w).done
  else if v = 2 && !(W.payoutValid && s.heaveFresh w) then s.lock
  else match s.drumClaimRefusal w with
    | some r => (s, r)
    | none =>
      let s := s.setObj (O.winchMode w) v
      if W.state == .active then
        (if v = 2 then (s.heaveEntry w).modWinch w fun W => { W with factor := 1, fade := .steady } else s).done
      else (s.modWinch w fun W => { W with state := .armed, releaseEnd := false }).done

/-- WINCH_MODE_WRITE (R437). -/
def execWinchModeWrite (src : Src) (w : SvcN) (v : Int) (s : State) : Outcome State Fault Refusal :=
  .next (s.writeRow src (O.winchMode w) v fun s => s.winchModeAct w v)

/-- WINCH_RELEASE (R439, R440). -/
def State.winchReleaseAct (s : State) (w : SvcN) (v : Int) : Acted :=
  match s.drumOf w with
  | none => if v = 0 then s.done else s.lock
  | some a =>
    if v = 0 then
      (if s.svc.winch[w].state == .releasing && !s.svc.winch[w].ending then s.releaseOver w a else s).done
    else if s.svc.winch[w].state == .releasing && !s.svc.winch[w].ending then s.done
    else if !s.isRunning a || !(s.axis a).safe.slsSince.isSome then s.lock
    else match s.drumClaimRefusal w with
      | some r => (s, r)
      | none => (s.modWinch w fun W => { W with
          state := .releasing, released := false, ending := false, releaseEnd := false }).done

/-- WINCH_RELEASE_START (R439): WINCH_RELEASE 1. -/
def execWinchReleaseStart (src : Src) (w : SvcN) (s : State) : Outcome State Fault Refusal :=
  .next (s.writeRow src (O.winchRelease w) 1 fun s => s.winchReleaseAct w 1)
/-- WINCH_RELEASE_STOP (R440): WINCH_RELEASE 0. -/
def execWinchReleaseStop (src : Src) (w : SvcN) (s : State) : Outcome State Fault Refusal :=
  .next (s.writeRow src (O.winchRelease w) 0 fun s => s.winchReleaseAct w 0)

/-- RELEASE_BRAKE_APPLY (R440): |SPEED_EST| has stayed below STOP_SPEED for 50 ms after a release. DEDUCED, log entry 85. -/
def execReleaseBrakeApply (w : SvcN) (s : State) : Outcome State Fault Refusal :=
  match s.drumOf w with
  | some a =>
    if s.runs Dom.host && s.svc.winch[w].ending && qabs (s.axis a).field.speed < s.cfgN (O.stopSpeed a) then
      .next ((s.serviceWrite (O.brakeCmd (s.cfgN (O.winchBrake w))) 0).winchOff w)
    else .next s
  | none => .next s

/-! ### Spooling (R441 to R443) -/

/-- Counts of the level-wind per drum turn, g (R441). -/
def State.spoolG (s : State) (w : SvcN) : Rat :=
  ((s.cfg (O.spoolFlangeB w) - s.cfg (O.spoolFlangeA w) : Int) : Rat) / s.cfgF (O.drumTurnsPerLayer w)
/-- The expected position x_e (R441). -/
def State.spoolExpected (s : State) (w : SvcN) : Rat :=
  let n := s.turns w
  let k := s.layer w
  let x := (n - k * s.cfgF (O.drumTurnsPerLayer w)) * s.spoolG w
  if k % 2 = 0 then s.cfg (O.spoolFlangeA w) + x else s.cfg (O.spoolFlangeB w) - x
/-- The drum hauls: its direction is negative (R431). -/
def State.drumHauls (s : State) (w : SvcN) : Bool :=
  match s.drumOf w with
  | some a => (s.axis a).prof.reverse
  | none => false
/-- x_e moves towards flange B (R441). -/
def State.spoolTowardB (s : State) (w : SvcN) : Bool := (s.layer w % 2 == 0) == s.drumHauls w
/-- The flange towards which x_e moves, or the opposite one. -/
def State.flange (s : State) (w : SvcN) (b : Bool) : Int :=
  if b then s.cfg (O.spoolFlangeB w) else s.cfg (O.spoolFlangeA w)
/-- The distance by which the level-wind trails x_e in its direction of travel; 0 where it leads (R441). -/
def State.spoolLag (s : State) (w : SvcN) (a : AxisN) : Rat :=
  let dir : Rat := if (s.flange w false < s.flange w true) == s.spoolTowardB w then 1 else -1
  max 0 (dir * (s.spoolExpected w - s.axisPos a))

/-- The drum position of the next layer boundary in the drum's direction; none at the rope's end or the full drum
(R442). -/
def State.nextBoundary (s : State) (w : SvcN) : Option Rat :=
  let k := s.layer w
  let tpl := s.cfgF (O.drumTurnsPerLayer w)
  let n : Option Rat :=
    if s.drumHauls w then (if k + 1 < s.cfgN (O.drumLayers w) then some ((k + 1 : Nat) * tpl) else none)
    else (if k = 0 then none else some (k * tpl))
  n.map fun b => s.drumPos w + (s.turns w - b) * s.cfgN (O.drumCountsPerRev w)

/-- Arm SPOOL_CMP for the next boundary (R442). -/
def State.spoolArm (s : State) (w : SvcN) (a d : AxisN) (u : UnitN) : State :=
  let s := s.modWinch w fun W => { W with armedFor := some (s.drumHauls w) }
  match s.nextBoundary w with
  | none => s.serviceWrite (O.cmpEnable u) 0
  | some b =>
    let put := fun (s : State) (p : Nat × Int) => s.serviceWrite p.1 p.2
    s.each [(O.cmpEnable u, 0), (O.cmpSource u, (d.val : Int)), (O.cmpDirection u, 0), (O.cmpMode u, 0),
      (O.cmpInterval u, 0), (O.cmpPosition u, roundNear b),
      (O.stagedTarget a, s.flange w (!s.spoolTowardB w)), (O.triggerUnit a, (u.val : Int)), (O.cmpEnable u, 1)] put

/-- One service tick of the level-wind of winch w (R441 to R443). -/
def State.spoolTick (s : State) (w : SvcN) : State :=
  let c := s.cfgN (O.spoolCmp w)
  match s.spoolOf w, s.drumOf w with
  | some a, some d =>
    if !s.spoolClaim w then s
    else
      let s := s.alive a
      let lag := s.spoolLag w a
      let g := s.spoolG w
      let s := s.modWinch w fun W => { W with
        spoolB := s.spoolTowardB w, lagLost := W.lagLost && qabs g / 2 < lag }
      if !s.isRunning a || s.svc.closing.isSome then s
      else
        let s := (s.serviceWrite (O.moveMode a) 0).serviceWrite (O.targetPos a) (s.flange w (s.spoolTowardB w))
        let rate := qabs (g * (s.axis d).field.speed / s.cfgN (O.drumCountsPerRev w)) + 2 * lag
        let s := s.serviceWrite (O.profileSpeed a) (max 1 (roundNear rate))
        if h : c < 32 then
          let u : UnitN := ⟨c, h⟩
          if !s.units[u].armed || s.svc.winch[w].armedFor != some (s.drumHauls w) then s.spoolArm w a d u else s
        else s
  | _, _ => s

/-- SPOOL_ENABLE (R441). -/
def State.spoolEnableAct (s : State) (w : SvcN) (v : Int) : Acted :=
  let c := s.cfgN (O.spoolCmp w)
  if v = 0 then
    ((s.setObj (O.spoolEnable w) 0).modWinch w fun W => { W with armedFor := none, lagLost := false }).done
  else if s.spoolClaim w then s.done
  else match s.spoolOf w with
    | none => s.lock
    | some a =>
      let other : Bool := allSvc.any fun x => x != w && s.spoolClaim x && s.cfgN (O.spoolCmp x) == c
      if !s.isStepper a || !(s.cfgN (O.controlMode a) == 1 || s.cfgN (O.controlMode a) == 2)
          || !(s.axis a).home.homed || !s.svc.winch[w].payoutValid || 32 ≤ c || other
          || s.svcOwner a != 0xFF || s.mappedIn (spoolObjects a c) then s.lock
      else ((s.setObj (O.spoolEnable w) 1).modWinch w fun W => { W with armedFor := none, lagLost := false }).done

/-- SPOOL_ENABLE (R441). -/
def execSpoolEnable (src : Src) (w : SvcN) (v : Int) (s : State) : Outcome State Fault Refusal :=
  .next (s.writeRow src (O.spoolEnable w) v fun s => s.spoolEnableAct w v)

/-- SPOOL_LOST (R443): the lag has exceeded g/2 for 1 s. -/
def execSpoolLost (w : SvcN) (s : State) : Outcome State Fault Refusal :=
  match s.spoolOf w with
  | some a =>
    if s.runs Dom.host && s.spoolClaim w && qabs (s.spoolG w) / 2 < s.spoolLag w a then
      .next (s.modWinch w fun W => { W with lagLost := true })
    else .next s
  | none => .next s

/-- SPOOL_LOST of WINCH_STATUS (R443). -/
def State.spoolLostNow (s : State) (w : SvcN) : Bool :=
  match s.spoolOf w with
  | some a =>
    let c := (s.requester a).code
    s.spoolClaim w && (!s.isRunning a || (c == .deferred) || (c == .refused) || s.svc.winch[w].lagLost)
  | none => false

/-! ### Loss of the service, closing HOST, service ticks (R419, R423, R424) -/

/-- What FEED does on a claimed axis when its service is lost (R423). -/
def State.serviceLost (s : State) (a : AxisN) : State :=
  let o := s.svcOwner a
  if o == 0xFF || !s.runs Dom.feed then s
  else if s.cfgN (O.svcLossAction a) == 1 then (s.axisStop a).1
  else if o < 0x10 then s
  else if o < 0x20 then s.takeValue (O.velocitySet a) 0
  else s.takeValue (O.targetPos a) (s.axis a).prof.pos

/-- The watch on SVC_ALIVE runs: not while HOST is closed, or closing, as planned (R468). -/
def State.svcWatched (s : State) : Bool :=
  s.svc.closing.isNone && (s.runs Dom.host || s.domains[Dom.host].state == .failed)

/-- SERVICE_LOSS (R423): no SVC_ALIVE for 20 ms. -/
def execServiceLoss (a : AxisN) (s : State) : Outcome State Fault Refusal :=
  .next (if s.svcWatched then s.serviceLost a else s)

/-- The domain that holds a session (R341): NET for 0 to 5, BUS for the CAN session 6, MEM for the service port's 7. -/
def sessionDomain (k : Fin 8) : DomainN := if k.val < 6 then Dom.net else if k.val = 6 then Dom.bus else Dom.mem

/-- Close the gatekeepers of domain d (R41): DRAINING until the requests accepted before are answered, those for its objects
and those of its own sessions (R341). DEDUCED, log entry 138. -/
def State.closeGate (s : State) (d : DomainN) (why : CloseReason) (restart : Bool) : State :=
  let drain := (List.finRange 8).flatMap fun (k : Fin 8) =>
    (s.net.sessions[k].outstanding.filter fun u => ownerOf u.ref.index == some d || sessionDomain k == d).map fun u =>
      { port := u.port, session := k.val, seq := u.seq : Outstanding }
  s.modDomain d fun D => { D with state := .stopping, gate := .draining, reason := why, restart, drain }

/-- The hold set-points of a planned closure of HOST (R424); a drum in mode 2 begins to fade. -/
def State.hostHold (s : State) : State :=
  s.each allSvc fun s w =>
    let s := match s.drumOf w, s.svc.winch[w].state with
      | some a, .active =>
        if s.cfgN (O.winchMode w) == 1 || s.svc.winch[w].factor == 0 then s.serviceWrite (O.velocitySet a) 0
        else s.modWinch w fun W => { W with fade := .falling }
      | _, _ => s
    match s.spoolOf w with
    | some a => if s.spoolClaim w && s.isRunning a then s.serviceWrite (O.targetPos a) (s.axis a).prof.pos else s
    | none => s

/-- Some drum in mode 2 still fades. DEDUCED, log entry 83. -/
def State.hostFading (s : State) : Bool :=
  allSvc.any fun w => s.svc.winch[w].state == .active && s.cfgN (O.winchMode w) == 2 && s.svc.winch[w].factor != 0
    && (s.drumOf w).any s.isRunning

/-- Begin a planned closure of HOST (R424). -/
def State.hostClose (s : State) (why : CloseReason) (restart : Bool) : State :=
  let s := s.hostHold
  if s.hostFading then s.modSvc fun v => { v with closing := some (why, restart) } else s.closeGate Dom.host why restart

/-- SERVICE_TICK (R419): every service instance runs once; `flips` tells the writes whose check arrives turned over. -/
def execServiceTick (flips : List (Nat × BitVec 8)) (s : State) : Outcome State Fault Refusal :=
  if !s.runs Dom.host || s.ref.time % 400000 ≠ 100000 then .next s
  else
    let s := { s with writeFlips := flips }
    let s := if s.svc.closing.isSome then s else s.each allSvc State.thrTick
    let s := (s.each allSvc State.winchTick).each allSvc State.spoolTick
    let s := { s with writeFlips := [] }
    match s.svc.closing with
    | some (why, restart) =>
      .next (if s.hostFading then s else (s.modSvc fun v => { v with closing := none }).closeGate Dom.host why restart)
    | none => .next s

/-- HOST starts (R423): the claims end, every service is OFF and every winch in mode 0; PAYOUT shows the stored value
(R432). -/
def State.hostStart (s : State) : State :=
  let s := s.modSvc fun v => { v with closing := none }
  s.each allSvc fun s i =>
    let s := ((s.setObj (O.thrEnable i) 0).setObj (O.winchMode i) 0).setObj (O.spoolEnable i) 0
    let s := s.modThr i fun _ => {}
    s.modWinch i fun W => { storedN := W.storedN }

/-- FEED starts: PAYOUT_VALID clears (R432). -/
def State.payoutLost (s : State) : State := s.each allSvc fun s w => s.modWinch w fun W => { W with payoutValid := false }

end Sys2Proof.Machine
end

