-- ==== Sys2Proof/Machine/Flags.lean ====
section
/-! DEFINITION. What the objects of the dictionary read as: the status words of every chapter, built from the typed
fields of the state, the F32 readings, and the values in force; and the latches a read clears. -/

namespace Sys2Proof.Machine

/-- A word with bit i set where the i-th element holds. -/
def maskOf (bs : List Bool) : Nat := (bs.zipIdx).foldl (fun n b => if b.1 then n + 2 ^ b.2 else n) 0
/-! ### Fabric (Tables 1.2, 1.12, 1.15, 1.18) -/

/-- REF_STATUS (Table 1.2). -/
def State.refStatus (s : State) : Nat :=
  let hold : Bool := s.cfgN O.refDiscipline == 1 && (!s.ref.ptpAvailable || s.cfgN O.ptpRole == 0)
  fields [(4, s.ref.lossLatch.toNat), (3, s.ref.tcxoFault.toNat), (2, hold.toNat), (1, s.ref.disciplined.toNat),
    (0, s.ref.locked.toNat)]

/-- The code of CREST_STATUS.STATE. -/
def CrestState.code : CrestState → Nat
  | .active => 0 | .quiet => 1 | .migrating => 2 | .retired => 3

/-- CREST_STATUS (Table 1.12): MIGRATING while the axes of a retired crest are being placed. DEDUCED, log entry 121. -/
def State.crestStatus (s : State) (c : CrestN) : Nat :=
  let x := s.crests[c]
  fields [(14, (if s.migrating c then CrestState.migrating else x.state).code), (8, x.marginWarn.toNat),
    (7, (s.cfg (O.vcrestNow c) == s.cfg (O.vcrestLimit c)).toNat), (6, x.deadlineLatch.toNat), (5, x.checkLatch.toNat),
    (0, (allAxes.filter (s.computes c)).length)]

/-- CREST_CLASS_COUNTS (Table 1.18). -/
def State.crestCounts (s : State) : Nat :=
  fields (allCrests.flatMap fun (c : CrestN) =>
    let n := fun k => nibble (countIn s.crests[c].faults k s.ref.time (s.cfgN O.crestRetireWindow))
    [(8 * c.val + 4, n 1), (8 * c.val, n 0)])

/-- GATE_STATUS (Table 1.15). -/
def State.gateStatus (s : State) : Nat :=
  fields ((List.finRange 12).map fun (d : DomainN) => (2 * d.val, match s.domains[d].gate with
    | .open => 0
    | .draining => 1
    | .closed => 2))

/-- DOMAIN_STATUS (Table 15.9): a domain whose gatekeepers drain still reads RUN. -/
def State.domainStatus (s : State) : Nat :=
  fields ((List.finRange 12).map fun (d : DomainN) => (2 * d.val, match s.domains[d].state with
    | .off => 0
    | .starting => 1
    | .run | .stopping => 2
    | .failed => 3))

/-! ### Legs (Tables 2.5, 2.11, 2.14) -/

/-- GROUP_STATUS (Table 2.5). -/
def State.groupStatus (s : State) (g : GroupN) : Nat :=
  let x := s.groups[g]
  fields [(3, x.vgpHigh.toNat), (2, x.vgnHigh.toNat), (1, x.vgpUv.toNat), (0, x.powered.toNat)]

/-- REACTION_STATUS (Table 2.11). -/
def State.reactionStatus (s : State) (a : AxisN) : Nat :=
  let r := (s.axis a).reaction
  let leg := fun (l : Option LegN) => match l with
    | some l => l.val
    | none => 63
  fields [(14, match r.gate with
      | .normal => 0
      | .ascLow => 1
      | .ascHigh => 2
      | .allOff => 3),
    (12, match r.cause with
      | .none => 0
      | .leg => 1
      | .other => 2
      | .safety => 3), (6, leg r.firstLeg), (0, leg r.secondLeg)]

/-- LEG_STATUS (Table 2.14). -/
def State.legStatus (s : State) (l : LegN) : Nat :=
  let L := s.leg l
  let n := fun k => nibble (countIn L.faults k s.ref.time (s.cfgN O.retireWindow))
  fields [(28, match L.state with
      | .off => 0
      | .inService => 1
      | .latched => 2
      | .recharging => 3
      | .retired => if (s.axisOf l).isNone then 5 else 4
      | .notAssigned => 5), (20, L.lastSpecific), (16, n 0), (12, n 1), (8, n 2), (7, L.retireLatch.toNat),
    (6, L.refreshActive.toNat), (5, L.vbsWarn.toNat), (4, L.hsInhibit.toNat), (3, (L.enP && L.enL).toNat),
    (2, L.en.toNat), (1, L.highOn.toNat), (0, L.lowOn.toNat)]

/-! ### Sensing and feedback (Tables 3.4, 3.9, 4.7) -/

/-- CI_STATUS (Table 3.4). -/
def State.ciStatus (s : State) (l : LegN) : Nat :=
  let x := s.inputs[l]
  fields [(5, x.ocLatch.toNat), (4, x.substituted.toNat), (3, x.satLast.toNat), (2, x.zeroFailed.toNat),
    (1, x.implausible.toNat), (0, x.validLast.toNat)]

/-- SADDLE_STATUS (Table 3.9). -/
def State.saddleStatus (s : State) (a : AxisN) : Nat :=
  let x := (s.axis a).saddle
  fields [(30, match s.saddleMode a with
      | .fixed => 0
      | .search => 1
      | .limited => 2), (29, x.predicted.toNat), (24, min x.predictCount 17), (23, x.limitActive.toNat),
    (0, if x.predicted then 0 else min x.gap 0xFFFF)]

/-! ### Field control, steppers, profiles (Tables 5.16, 6.9, 6.11, 7.6, 7.10) -/

/-- The code of AXIS_STATUS.STATE. -/
def AxisState.code : AxisState → Nat
  | .disabled => 0 | .ready => 1 | .running => 2 | .stopping => 3 | .holdAsc => 4 | .fault => 5 | .safeOff => 6
  | .lockedOut => 7

/-- AXIS_STATUS (Table 5.16). -/
def State.axisStatus (s : State) (a : AxisN) : Nat :=
  let f := (s.axis a).field
  fields [(28, f.state.code), (26, match f.angleSource with
      | .channel => 0
      | .rideThrough => 1
      | .observer => 2
      | .currentFrequency => 3),
    (23, match f.catching.phase with
      | .none => 0
      | .measuring => 1
      | .precharge => 2
      | .braking => 3
      | .magnetising => 4),
    (22, f.obsHealthy.toNat), (21, f.encDisagree.toNat), (20, f.fieldWeakening.toNat), (19, f.voltLimit.toNat),
    (18, f.curLimit.toNat), (17, f.powerLimit.toNat), (16, f.keLatch.toNat),
    (15, (s.axis a).reaction.resumePending.toNat), (14, (s.axisType a != 0 && f.crest != s.homeCrest a).toNat),
    (12, f.crest.val), (8, f.lastCommand)]

/-- STEP_TABLE_STATUS (Table 6.9). -/
def State.tableStatus (s : State) (t : TableN) : Nat :=
  let x := s.tables[t]
  fields [(8, x.version), (3, (s.pendingAxes t).length), (2, (x.staging != x.active).toNat),
    (1, (x.active == factoryBytes).toNat)]

/-- The code of a bridge state; a bridge that is not driven reads OFF. -/
def State.bridgeCode (s : State) (a : AxisN) (br : Bridge) : Nat :=
  if s.isStepper a && s.driving a then match (s.bridge a br).state with
    | .drive => 0
    | .slow => 1
    | .fast => 2
    | .off => 3
  else 3

/-- The code of a grant. -/
def GrantCode.code : GrantCode → Nat
  | .full => 0 | .scaled => 1 | .deferred => 2 | .refused => 3

/-- STEP_STATUS (Table 6.11). -/
def State.stepStatus (s : State) (a : AxisN) : Nat :=
  let x := (s.axis a).step
  fields [(30, s.bridgeCode a .a), (28, s.bridgeCode a .b), (26, (s.requester a).code.code), (25, x.stallLatch.toNat),
    (24, x.coilOpen.toNat), (23, x.holding.toNat), (22, x.unpowered.toNat), (21, x.tablePending.toNat),
    (19, (s.tableOf a).val), (18, x.auxReduced.toNat), (10, min x.chopFreq 255), (0, x.index % 1024)]

/-- PROFILE_STATUS (Table 7.6). -/
def State.profileStatus (s : State) (a : AxisN) : Nat :=
  let p := (s.axis a).prof
  let h := (s.axis a).home
  fields [(30, match p.move with
      | .tracking => 0
      | .idle => 1
      | .moving => 2
      | .stopRamp => 3),
    (28, match h.state with
      | .none => 0
      | .running => 1
      | .done => 2
      | .failed => 3),
    (27, h.homed.toNat), (26, p.switchback.toNat), (25, p.overshoot.toNat), (24, p.accelOver.toNat),
    (23, p.clamped.toNat), (22, p.limitBrake.toNat), (21, p.followWarn.toNat), (20, p.grantScaled.toNat),
    (19, p.reverse.toNat), (18, decide (s.cfgN (O.triggerUnit a) < 32)|>.toNat), (17, p.planLate.toNat),
    (0, min p.eta 0xFFFF)]

/-- The level of a compare unit's output pin. -/
def State.cmpLevel (s : State) (u : UnitN) : Bool :=
  let o := s.cfgN (O.cmpOutput u)
  if h : o < 8 then s.compareOuts[o].driven && s.compareOuts[o].level else false

/-- CMP_STATUS (Table 7.10). -/
def State.cmpStatus (s : State) (u : UnitN) : Nat :=
  let x := s.units[u]
  fields [(7, x.armed.toNat), (6, x.behind.toNat), (5, x.firedAtWrite.toNat), (4, x.fired.toNat), (3, x.jumpFire.toNat),
    (2, x.missed.toNat), (1, (s.cmpLevel u).toNat), (0, x.sourceInvalid.toNat)]

/-! ### Groups and grants (Tables 8.8, 8.11, 8.15) -/

/-- SHARE_STATUS (Table 8.8). -/
def State.shareStatus (s : State) (a : AxisN) : Nat :=
  match s.slotOf a with
  | none => 0
  | some g =>
    let m := (s.axis a).member
    fields [(29, match m.role with
        | .none => 0
        | .follower => 1
        | .leader => 2
        | .isolated => 3
        | .rejoining => 4
        | .outOfService => 5),
      (26, (s.slots[g].leader.map (·.val)).getD 0), (23, ((s.ownIndex g a).map (·.val)).getD 0),
      (15, maskOf ((List.finRange 8).map (s.entryService g))), (14, m.shortfall.toNat), (13, m.inherited.toNat),
      (12, m.mismatch.toNat), (11, m.dualLeader.toNat), (10, m.takeover.toNat)]

/-- SHARE_NOW: the share in force of the member's own entry. -/
def State.shareNow (s : State) (a : AxisN) : Nat :=
  match s.slotOf a with
  | some g => match s.ownIndex g a with
    | some k => s.slots[g].shares[k]
    | none => 0
  | none => 0

/-- The classes in the order served (R290). -/
def PowerClass.rank : PowerClass → Nat
  | .stop => 0 | .hold => 1 | .work => 2 | .aux => 3

/-- The place of requester r in the deferral queue, 1 to 18; 0 = not queued: by class, tick of first deferral, number
(R292). -/
def State.queuePlace (s : State) (r : Fin 18) : Nat :=
  let c := s.arbiter.reqs[r].cls.rank
  match s.arbiter.reqs[r].queuedAt with
  | none => 0
  | some t => 1 + ((List.finRange 18).filter fun (x : Fin 18) => match s.arbiter.reqs[x].queuedAt with
      | some u =>
        let d := s.arbiter.reqs[x].cls.rank
        d < c || (d == c && (u < t || (u == t && x.val < r.val)))
      | none => false).length

/-- GRANT_WORD.SCALE (R297): GRANT_POWER / demand in per mille, rounded down. -/
def Requester.scaleWord (x : Requester) : Nat :=
  match x.code with
  | .full => if x.demand = 0 then 0 else 1000
  | .scaled => if x.demand = 0 then 0 else (1000 * x.power / x.demand).floor.toNat
  | .deferred | .refused => 0

/-- GRANT_WORD (Table 8.11). -/
def State.grantWord (s : State) (r : Fin 18) : Nat :=
  let x := s.arbiter.reqs[r]
  fields [(30, x.code.code), (29, x.tieLost.toNat),
    (27, x.cls.rank),
    (23, match x.reason with
      | .none => 0
      | .budget => 1
      | .deferExpired => 2
      | .sliceLimit => 3
      | .notRequesting => 4), (17, s.queuePlace r), (0, x.scaleWord)]

/-- ARBITER_STATUS (Table 8.15). -/
def State.arbiterStatus (s : State) : Nat :=
  let x := s.arbiter
  fields [(31, (s.cfgN O.budgetSource == 1 && x.fallback && s.runs Dom.feed).toNat), (30, x.freqStale.toNat),
    (29, x.droop.toNat), (28, x.stopOver.toNat), (27, x.riseLimited.toNat),
    (21, (x.reqs.toList.filter fun q => q.queuedAt.isSome).length), (16, x.pointer)]

/-! ### CAN and Ethernet (Tables 9.12, 10.15) -/

/-- CAN_STATUS (Table 9.12). -/
def State.canStatus (s : State) (p : CanN) : Nat :=
  let c := s.can[p]
  fields [(29, match c.state with
      | .off => 0
      | .integrating => 1
      | .errorActive => 2
      | .errorPassive => 3
      | .busOff => 4
      | .retired => 5
      | .listen => 6),
    (21, if c.state == .busOff then 255 else min c.tec 255), (13, min c.recCount 255), (12, c.lone.toNat),
    (11, c.busOffWait.toNat), (10, c.retireLatch.toNat), (9, c.overrunLatch.toNat), (8, c.driverFault.toNat),
    (0, if c.state == .busOff && !c.busOffWait then Config.busOffCount c.countFrom s.ref.time % 129 else 0)]

/-- CAN_CLASS_COUNTS. -/
def State.canCounts (s : State) : Nat :=
  fields ((List.finRange 2).flatMap fun (p : CanN) =>
    let n := fun k => nibble (countIn s.can[p].faults k s.ref.time (s.cfgN O.canRetireWindow))
    [(8 * p.val + 4, n 0), (8 * p.val, n 1)])

/-- CAN_TX_PENDING: bit k = mailbox k pending. -/
def State.canPending (s : State) (p : CanN) : Nat := maskOf (s.can[p].boxes.toList.map fun b => b.frame.isSome)

/-- ETH_STATUS (Table 10.15). -/
def State.ethStatus (s : State) (p : EthN) : Nat :=
  let x := s.net.ports[p]
  let n := fun k => nibble (countIn x.faults k s.ref.time (s.cfgN O.ethRetireWindow))
  fields [(29, match x.state with
      | .down => 0
      | .up1000 => 1
      | .up100 => 2
      | .retired => 3), (25, n 0), (21, n 1), (20, x.retireLatch.toNat), (19, x.policedLatch.toNat),
    (18, x.conflict.toNat)]

/-! ### Safety (Tables 11.7, 11.9, 11.13, 11.15, 12.10, 12.13) -/

/-- A path finds input i demanding. -/
def State.siDemands (s : State) (i : SiN) : Bool := (s.siPath .p i).demands || (s.siPath .l i).demands

/-- SAFETY_STATUS (Table 11.7). -/
def State.safetyStatus (s : State) : Nat :=
  fields [(30, s.platform), (29, (s.runs Dom.safeP && s.safety.heardP).toNat),
    (28, (s.runs Dom.safeL && s.safety.heardL).toNat), (27, s.safety.lockrstP.high.toNat), (26, s.safety.lockrstP.stuck.toNat),
    (0, maskOf (allSi.map s.siDemands))]

/-- SI_STATUS (Table 11.9). -/
def State.siStatus (s : State) (i : SiN) : Nat :=
  let x := s.siPath .p i
  fields [(6, (s.safety.lockouts.any fun y => y.scope == .input i).toNat), (5, (x.a.energised != x.b.energised).toNat),
    (4, (s.siDemands i).toNat), (3, x.b.demand.toNat), (2, x.a.demand.toNat), (1, x.b.energised.toNat),
    (0, x.a.energised.toNat)]

/-- AXIS_SAFE_STATUS (Table 11.13). -/
def State.axisSafeStatus (s : State) (a : AxisN) : Nat :=
  let x := (s.axis a).safe
  let st := if s.axisHeldOff a then 3 else if !(x.senP && x.senL) then 2 else if x.p.ss1Run || x.l.ss1Run then 1 else 0
  fields [(29, st), (28, (x.p.sto || x.l.sto).toNat), (27, (x.p.ss1 || x.l.ss1).toNat), (26, x.slsSince.isSome.toNat),
    (24, x.sdi), (23, x.senP.toNat), (22, x.senL.toNat), (21, x.aboveAscLatch.toNat), (20, x.disagreeLatch.toNat),
    (0, maskOf (allSi.map fun (i : SiN) => s.siDemands i && s.safeCfgN (O.siFunction i) != 0
      && (s.safeCfgN (O.siAxes i)).testBit a))]

/-- SBC_STATUS (Table 11.15). -/
def State.sbcStatus (s : State) (k : SbcN) : Nat :=
  let b := s.safety.brakes[k]
  let st := if s.sbcLocked k then 4 else if b.testing.isSome then 3 else match b.state with
    | .off => 0
    | .releasing => 1
    | .on => 2
  fields [(13, st), (12, b.pinsP.1.toNat), (11, b.pinsP.2.toNat), (10, b.pendingTest.toNat), (9, b.openLoad.toNat),
    (8, (b.lastSide == some .low).toNat), (0, b.tests % 256)]

/-- THODAR_STATUS (Table 12.10). -/
def State.thodarStatus (s : State) (j : ConnN) : Nat :=
  let c := s.safety.conns[j]
  match c.state with
  | .off => 0
  | .starting => fields [(30, 1), (0, c.demand.toNat)]
  | .run => fields [(30, 2), (0, c.demand.toNat)]
  | .expired => fields [(30, 3), (0, c.demand.toNat)]

/-- SEAL_STATUS (Table 12.13). -/
def State.sealStatus (s : State) : Nat :=
  fields [(30, s.safety.sealed), (29, s.stagedDiffers.toNat), (28, s.safety.password.isSome.toNat),
    (0, s.safety.sealCount % 65536)]

/-! ### Services, recorder, self-test, power (Tables 13.7, 13.13, 13.17, 14.5, 14.7, 15.13) -/

/-- THR_STATUS (Table 13.7). -/
def State.thrStatus (s : State) (t : SvcN) : Nat :=
  let T := s.svc.thr[t]
  let limited : Bool := match s.thrAxisOf t with
    | some a => (s.axis a).field.powerLimit || (s.axis a).field.curLimit
    | none => false
  let live : Bool := match T.state with
    | .active | .crash | .crashHold => true
    | .off | .armed | .paused => false
  fields [(29, match T.state with
      | .off => 0
      | .armed => 1
      | .active => 2
      | .paused => 3
      | .crash => 4
      | .crashHold => 5),
    (27, s.cfgN (O.thrMode t)), (25, s.shedLevel t), (24, T.auto.toNat), (23, (live && T.cmd != s.thrGoal t).toNat),
    (22, (T.state != .off && limited).toNat), (0, ((wholeOf T.cmd) % 2048).toNat)]

/-- WINCH_STATUS (Table 13.13). -/
def State.winchStatus (s : State) (w : SvcN) : Nat :=
  let W := s.svc.winch[w]
  let follows : Bool := match s.spoolOf w with
    | some a => s.spoolClaim w && s.isRunning a
    | none => false
  fields [(29, match W.state with
      | .off => 0
      | .armed => 1
      | .active => 2
      | .releasing => 4),
    (27, s.cfgN (O.winchMode w)), (26, W.payoutValid.toNat), (25, (W.factor == 0).toNat), (24, (W.fade != .steady).toNat),
    (23, W.tensionStale.toNat), (22, follows.toNat), (21, (follows && W.spoolB).toNat), (20, (s.spoolLostNow w).toNat),
    (19, W.releaseEnd.toNat), (18, W.atLimit.toNat),
    (13, if W.payoutValid || W.storedN.isSome then s.layer w else 0)]

/-- The signals in use: those whose REC_SOURCE is not 0 (R444). -/
def State.recSignals (s : State) : List Nat := (List.range 96).filter fun k => s.cfgN (O.recSource k) != 0

/-- REC_STATUS (Table 13.17). -/
def State.recStatus (s : State) : Nat :=
  let r := s.recorder
  fields [(30, match r.phase with
      | .off => 0
      | .recording => 1
      | .postTrigger => 2
      | .frozen => 3),
    (23, s.recSignals.length), (22, decide (86400 ≤ r.history.length)|>.toNat), (21, r.gapSeen.toNat), (13, min r.missed 255)]

/-- TEST_STATUS (Table 14.5). -/
def State.testStatus (s : State) : Nat :=
  let e := s.engine
  let mode := if s.power.bscan then 3 else if e.fullTest then 2
    else if s.cfgN O.testEnable == 1 && s.runs Dom.feed then 1 else 0
  fields [(30, mode), (29, s.slices[0].isSome.toNat), (28, s.slices[1].isSome.toNat),
    (27, (e.blocks.toList.any (·.late)).toNat), (26, (e.blocks.toList.any (·.confirmed)).toNat), (0, e.lastBlock)]

/-- SLICE_RESULT of the block with an id (Table 14.7). -/
def State.sliceResult (s : State) (id : Nat) : Nat :=
  let b := s.block id
  fields [(30, match b.result with
      | .notRun => 0
      | .pass => 1
      | .fail => 2
      | .aborted => 3), (29, b.confirmed.toNat), (28, b.late.toNat), (16, b.slice % 4096), (0, b.patterns % 65536)]

/-- FW_STATUS (Table 15.13). -/
def State.fwStatus (s : State) (k : FwN) : Nat :=
  let f := s.power.fw[k]
  fields [(29, match f.state with
      | .idle => 0
      | .receiving => 1
      | .verifying => 2
      | .verified => 3
      | .activating => 4
      | .tentative => 5
      | .rejected => 6
      | .reverted => 7), (28, f.slot.toNat), (24, f.reason), (0, f.image.length % 0x1000000)]

/-- POWER_MODE as it reads: 0 RUN, 1 QUIET, 2 DORMANT. DEDUCED, log entry 87. -/
def State.modeCode (s : State) : Nat :=
  match s.power.mode with
  | .run | .off => 0
  | .quiet => 1
  | .dormant => 2

/-! ### Reading a value -/

/-- Instance i of n, by number. -/
def fin? (n i : Nat) : Option (Fin n) := if h : i < n then some ⟨i, h⟩ else none

/-- The reading of an axis object that is not a stored value. -/
def State.readAxis (s : State) (a : AxisN) (off sub : Nat) : Option Int :=
  let x := s.axis a
  match off, sub with
  | 0xF8, 1 => some (s.reactionStatus a)
  | 0xF8, 2 => some (s.legFraction a)
  | 0xF0, 1 => some (s.saddleStatus a)
  | 0xF0, 2 => some (s.depthLimit a)
  | 0xF0, 6 => some (f32Of x.saddle.torqueCost)
  | 0xC0, 2 => some (s.axisStatus a)
  | 0xC0, 3 => some (f32Of x.field.speed)
  | 0xC0, 4 => some (f32Of x.field.torque)
  | 0xC4, 1 => some (s.stepStatus a)
  | 0xC4, 2 => some (f32Of x.step.a.offset)
  | 0xC4, 3 => some (f32Of x.step.b.offset)
  | 0x83, 1 => some (s.profileStatus a)
  | 0x83, 2 => some x.prof.pos
  | 0x83, 3 => some (x.prof.p.fdiv (2 ^ 64) % 2 ^ 64)
  | 0x83, 4 => some (x.prof.v.fdiv (2 ^ 64))
  | 0x83, 7 => some x.prof.homeOffset
  | 0xD8, 1 => some (s.shareStatus a)
  | 0xD8, 2 => some (s.shareNow a)
  | 0xD8, 3 => some (f32Of (match s.slotOf a with
      | some g => s.slots[g].tG
      | none => 0))
  | 0xD8, 4 => some (f32Of x.member.cap)
  | 0xE8, 1 => some (s.svcOwner a)
  | _, _ => none

/-- The reading of a leg's or current input's object that is not a stored value. -/
def State.readLeg (s : State) (l : LegN) (off sub : Nat) : Option Int :=
  match off, sub with
  | 0x00, 1 => some (s.legStatus l)
  | 0x01, 2 => some (s.deadtimeEff l)
  | 0x09, 1 => some (s.ciStatus l)
  | 0x09, 2 => some (f32Of s.inputs[l].reading)
  | 0x09, 3 => some (f32Of s.inputs[l].zero)
  | _, _ => none

/-- The reading of a feedback channel's object that is not a stored value. -/
def State.readChan (s : State) (f : ChanN) (off sub : Nat) : Option Int :=
  match off, sub with
  | 0x00, 1 => some (s.fbStatus f)
  | 0x00, 2 => some s.channels[f].position
  | 0x00, 3 => some (f32Of s.channels[f].speed)
  | 0x02, 5 => some s.channels[f].armed.toNat
  | 0x01, 3 =>
    -- COUNTS_PER_REV of a gear-tooth wheel and of an analog channel follows other objects (R128, R138)
    match s.cfgN (O.fbType f) with
    | 3 | 6 | 7 => some (s.chanCpr f)
    | _ => none
  | _, _ => none

/-- The reading of an object of domains KEEP, NET and BUS that is not a stored value. -/
def State.readModule (s : State) (i sub : Nat) : Option Int :=
  match i, sub with
  | 0x1000, 3 => some (Config.orderVariant % 2 : Nat)
  | 0x1200, 5 => some (Config.ethMac % 2 ^ 48 : Nat)
  | 0x2000, 1 => some s.refStatus
  | 0x2000, 3 => some ((s.ref.time % 2 ^ 64 : Nat) : Int)
  | 0x2070, 3 => some s.crestCounts
  | 0x2060, 1 => some s.gateStatus
  | 0x1100, 1 => some s.modeCode
  | 0x1100, 2 => some s.domainStatus
  | 0x1380, 4 => some s.canCounts
  | 0xA000, 1 => some s.log.head
  | 0xA000, 2 => some s.log.announcedUnread
  | 0x6008, 1 => some s.arbiterStatus
  | 0x6008, 2 => some (f32Of s.arbiter.budget)
  | 0x6008, 3 => some (f32Of s.arbiter.stopDemand)
  | 0x7000, 1 => some s.safetyStatus
  | 0x7000, 2 => some s.lockoutWord
  | 0x7F00, 3 => some s.sealStatus
  | 0x7F00, 4 => some s.stagedCheck
  | 0x7F00, 5 => some s.safety.sealCheck
  | 0x7F00, 7 => some s.safety.changeHead
  | 0x8800, 5 => some s.recStatus
  | 0x9000, 2 => some s.testStatus
  | _, _ =>
    if 0x2010 ≤ i && i < 0x2050 && i % 0x10 == 0 then
      (fin? 4 ((i - 0x2010) / 0x10)).bind fun c =>
        match sub with
        | 5 => some (s.crestLoad c)
        | 6 => some (s.crestStatus c)
        | _ => none
    else if 0x1300 ≤ i && i < 0x1380 && i % 0x40 == 0 then
      (fin? 2 ((i - 0x1300) / 0x40)).bind fun p =>
        match sub with
        | 1 => some (s.canStatus p)
        | 5 => some (s.canPending p)
        | _ => none
    else if (i == 0x1210 || i == 0x1218) && sub == 1 then
      (fin? 2 ((i - 0x1210) / 8)).map fun p => (s.ethStatus p : Int)
    else if 0x9110 ≤ i && i < 0x9113 then
      (fin? 3 (i - 0x9110)).bind fun k =>
        match sub with
        | 3 => some (s.fwStatus k)
        | 4 => some s.power.fw[k].versionA
        | 5 => some s.power.fw[k].versionB
        | _ => none
    else none

/-- The reading of an object of domains FEED, SAFE-P, HOST and MEM outside the axis, leg and channel blocks that is not a
stored value. -/
def State.readUnit (s : State) (i sub : Nat) : Option Int :=
  if 0x3C00 ≤ i && i < 0x3C60 && i % 0x10 == 0 && sub == 1 then
    (fin? 6 ((i - 0x3C00) / 0x10)).map fun g => (s.groupStatus g : Int)
  else if 0x3D00 ≤ i && i < 0x3E00 && i % 0x10 == 0 && sub == 7 then
    (fin? 16 ((i - 0x3D00) / 0x10)).map fun (d : SdN) => f32Of s.sds[d].value
  else if 0x5C00 ≤ i && i < 0x5E00 && i % 0x10 == 1 then
    (fin? 32 ((i - 0x5C00) / 0x10)).bind fun u =>
      match sub with
      | 1 => some (s.cmpStatus u)
      | 3 => some s.units[u].fireTime
      | _ => none
  else if 0x5F00 ≤ i && i < 0x5F40 && i % 0x10 == 0 then
    (fin? 4 ((i - 0x5F00) / 0x10)).bind fun t =>
      match sub with
      | 3 => some (s.tableStatus t)
      | 5 => some (crc32c s.tables[t].staging).toNat
      | 6 => some (crc32c s.tables[t].active).toNat
      | _ => none
  else if 0x6010 ≤ i && i < 0x6022 then
    (fin? 18 (i - 0x6010)).bind fun r =>
      match sub with
      | 1 => some (s.grantWord r)
      | 2 => some (f32Of s.arbiter.reqs[r].power)
      | 3 => some (f32Of s.arbiter.reqs[r].demand)
      | _ => none
  else if 0x6100 ≤ i && i < 0x6200 && i % 0x10 == 2 && sub == 1 then
    (slotOfIndex i).map fun g => (s.groupCheck g : Int)
  else if 0x7100 ≤ i && i < 0x71A0 && i % 8 == 0 && sub == 5 then
    (fin? 20 ((i - 0x7100) / 8)).map fun k => (s.siStatus k : Int)
  else if 0x7200 ≤ i && i < 0x7300 && i % 0x10 == 1 then
    (fin? 16 ((i - 0x7200) / 0x10)).bind fun a =>
      match sub with
      | 1 => some (s.axisSafeStatus a)
      | 2 => some (f32Of (s.axis a).safe.speed)
      | _ => none
  else if 0x7400 ≤ i && i < 0x7480 && i % 8 == 0 && sub == 7 then
    (fin? 16 ((i - 0x7400) / 8)).map fun k => (s.sbcStatus k : Int)
  else if 0x7600 ≤ i && i < 0x7640 && i % 0x10 == 0 && sub == 8 then
    (fin? 4 ((i - 0x7600) / 0x10)).map fun j => (s.thodarStatus j : Int)
  else if 0x8000 ≤ i && i < 0x8200 && i % 0x40 == 0 then
    (fin? 8 ((i - 0x8000) / 0x40)).bind fun t =>
      match sub with
      | 0x0A => some (match s.svc.thr[t].state with
          | .crash | .crashHold => 1
          | .off | .armed | .active | .paused => 0)
      | 0x10 => some (s.thrStatus t)
      | _ => none
  else if 0x8400 ≤ i && i < 0x8600 && i % 0x40 == 0 then
    (fin? 8 ((i - 0x8400) / 0x40)).bind fun w =>
      match sub with
      | 0x15 => some (s.svc.winch[w].state == .releasing && !s.svc.winch[w].ending).toNat
      | 0x20 => some (f32Of (if s.svc.winch[w].payoutValid || s.svc.winch[w].storedN.isSome then s.payout w else 0))
      | 0x21 => some (f32Of s.svc.winch[w].tension)
      | 0x22 => some (s.winchStatus w)
      | _ => none
  else if 0x9041 ≤ i && i ≤ 0x9050 && 1 ≤ sub then some (s.sliceResult ((i - 0x9040) * 256 + (sub - 1)))
  else if 0xA010 ≤ i && i < 0xA400 then
    match s.log.entries.find? fun e => e.entry == i - 0xA010 with
    | none => none
    | some e =>
      match sub with
      | 1 => some e.code
      | 2 => some e.inst
      | 3 => some ((e.time % 2 ^ 64 : Nat) : Int)
      | _ => none
  else none

/-- The status word or reading of an address that is not a stored value. -/
def State.readLive (s : State) (a : Nat) : Option Int :=
  let i := a / 256
  let sub := a % 256
  match axisOfIndex i, legOfIndex i, chanOfIndex i with
  | some x, _, _ => s.readAxis x (i % 0x100) sub
  | none, some l, _ => s.readLeg l (i % 0x40) sub
  | none, none, some f => s.readChan f (i % 0x40) sub
  | none, none, none =>
    match s.readModule i sub with
    | some v => some v
    | none => s.readUnit i sub

/-- What the object at an address reads as (R10, R14): its status word or reading, else its value with a waiting write
in front. -/
def State.readValue (s : State) (a : Nat) : Int := (s.readLive a).getD (s.val a)
/-- The value of the object in force (R445). -/
def State.inForce (s : State) (a : Nat) : Int := (s.readLive a).getD (s.cfg a)

/-! ### What a read clears -/

/-- Reading a status word clears the latches that stand "since it was last read". -/
def State.readClears (s : State) (a : Nat) : State :=
  let i := a / 256
  let sub := a % 256
  match axisOfIndex i, chanOfIndex i with
  | some x, _ =>
    match i % 0x100, sub with
    | 0xC0, 2 => s.modField x fun f => { f with encDisagree := false }
    | 0xC4, 1 => s.modStep x fun y => { y with stallLatch := false }
    | 0x83, 1 => s.modProf x fun p => { p with switchback := false }
    | 0xD8, 1 => s.modMember x fun m => { m with dualLeader := false, takeover := false }
    | _, _ => s
  | none, some f =>
    if i % 0x40 == 0 && sub == 1 then s.modChan f fun c => { c with dirLatch := false, glitchLatch := false } else s
  | none, none =>
    if 0x5C00 ≤ i && i < 0x5E00 && i % 0x10 == 1 && sub == 1 then
      match fin? 32 ((i - 0x5C00) / 0x10) with
      | some u => s.modUnit u fun x => { x with fired := false, missed := false }
      | none => s
    else if 0x1300 ≤ i && i < 0x1380 && i % 0x40 == 0 && sub == 1 then
      match fin? 2 ((i - 0x1300) / 0x40) with
      | some p => s.modCan p fun c => { c with overrunLatch := false }
      | none => s
    else if (i == 0x1210 || i == 0x1218) && sub == 1 then
      match fin? 2 ((i - 0x1210) / 8) with
      | some p => { s with net := { s.net with ports := s.net.ports.set p { s.net.ports[p] with policedLatch := false } } }
      | none => s
    else if 0x7200 ≤ i && i < 0x7300 && i % 0x10 == 1 && sub == 1 then
      match fin? 16 ((i - 0x7200) / 0x10) with
      | some a => s.modSafe a fun x => { x with aboveAscLatch := false, disagreeLatch := false }
      | none => s
    else if i == 0x8800 && sub == 5 then { s with recorder := { s.recorder with gapSeen := false } }
    else s

end Sys2Proof.Machine
end

