-- ==== Sys2Proof/Machine/Recorder.lean ====
section
/-! DEFINITION. The scree recorder (13, R444 to R449): sampling, frames, the ring, the history, freezes, and the
bytes of REC_EXTRACT and REC_HISTORY. -/

namespace Sys2Proof.Machine

open Host

/-- Update the recorder. -/
def State.modRec (s : State) (f : Recorder → Recorder) : State := { s with recorder := f s.recorder }

/-- The gap marker of R445. -/
def gapMarker : Int := -32768

/-- The object of signal k: the address in REC_SOURCE. -/
def State.recObject (s : State) (k : Nat) : Nat := s.cfgN (O.recSource k) / 256

/-- The number that an object's value stands for: an F32 pattern, or an integer. -/
def numberOf (a : Nat) (v : Int) : Rat :=
  match cardOf a with
  | some c => if c.ty == .f32 then f32Rat v else v
  | none => v

/-- The stored sample of signal k (R445). -/
def State.recValue (s : State) (k : Nat) : Int :=
  let a := s.recObject k
  let v := numberOf a (s.inForce a)
  max (-32767) (min 32767 (roundNear ((v - s.cfgF (O.recOffset k)) / s.cfgF (O.recScale k))))

/-- The producer number of a signal: 0x10 + the domain that owns its object (Table 1.9). -/
def State.recProducer (s : State) (k : Nat) : Nat :=
  0x10 + ((ownerOf (s.recObject k / 256)).map (·.val)).getD 0

/-- Add a sample to a signal's running minimum, maximum, sum and number; a gap marker is excluded (R447). -/
def addSample (x : Int × Int × Int × Nat) (v : Int) : Int × Int × Int × Nat :=
  let (lo, hi, sum, n) := x
  if v = gapMarker then x else if n = 0 then (v, v, v, 1) else (min lo v, max hi v, sum + v, n + 1)

/-- The frames the ring keeps (R446). -/
def ringFrames : Nat := 30000

/-- Append a row of samples at 20 kHz tick m: row 0 also ends the frame before; a frame that misses a row is not stored
(R446). `stop` is the number of the last frame the ring takes. -/
def Recorder.row (r : Recorder) (m : Nat) (row : List Int) (stop : Option Nat) : Recorder :=
  let n := m / 20
  let fits : Bool := r.filling.any fun f => f.number * 20 + f.rows.length == m
  let r :=
    match r.filling with
    | some f =>
      if fits && f.rows.length == 20 then
        { r with filling := none, frames := ({ f with rows := f.rows ++ [row] } :: r.frames).take ringFrames }
      else if fits then { r with filling := some { f with rows := f.rows ++ [row] } }
      else { r with filling := none }
    | none => r
  if m % 20 = 0 && stop.all (fun k => n ≤ k) then { r with filling := some { number := n, rows := [row] } } else r

/-- The number of the frame that contains t_tr + REC_POST (R448). -/
def Recorder.lastFrame (r : Recorder) : Nat := (r.triggerTime + r.post * ticksPerS) / 400000

/-- REC_SAMPLE (R445, R446): one sample of each signal at a multiple of 20,000 ticks; a sample whose token fails its
check is a gap marker (Table 1.9). `flips` lists the bits turned over in the checks of the signals in use, in order.
DEDUCED, log entry 86. -/
def execRecSample (flips : List (BitVec 8)) (s : State) : Outcome State Fault Refusal :=
  let ks := s.recSignals
  if s.recorder.phase == .off || !s.runs Dom.feed || !s.runs Dom.mem || s.ref.time % 20000 ≠ 0 then .next s
  else
    let good := fun (k i : Nat) => valueOk (flipAt flips i) (s.recValue k)
    let row := ks.zipIdx.map fun (k, i) => if good k i then s.recValue k else gapMarker
    let s := s.each ks.zipIdx fun s (k, i) => if good k i then s else s.checkReport 7 (s.recProducer k)
    let m := s.ref.time / 20000
    .next (s.modRec fun r =>
      let acc := r.acc.getD (row.map fun _ => (0, 0, 0, 0))
      let r := { r with
        gapSeen := r.gapSeen || row.contains gapMarker
        acc := some ((acc.zip row).map fun (x, v) => addSample x v) }
      match r.phase with
      | .recording => r.row m row none
      | .postTrigger => r.row m row (some r.lastFrame)
      | .off | .frozen => r)

/-- REC_HISTORY_SECOND (R447): the record of the second of REF_TIME that ends; 86,400 are kept. -/
def execRecHistorySecond (s : State) : Outcome State Fault Refusal :=
  if !s.runs Dom.mem || s.ref.time % ticksPerS ≠ 0 then .next s
  else .next (s.modRec fun r => match r.acc with
    | none => r
    | some acc =>
      let rec_ : RecSecond := {
        second := (s.ref.time - 1) / ticksPerS
        values := acc.map fun (lo, hi, sum, n) =>
          if n = 0 then (gapMarker, gapMarker, gapMarker) else (lo, hi, roundNear ((sum : Rat) / n)) }
      { r with acc := none, history := (rec_ :: r.history).take 86400 })

/-- REC_FREEZE (R448): 1 triggers with code 0. DEDUCED, log entry 86. -/
def State.recFreezeAct (s : State) : Acted := (s.recTrigger 0 0).done
/-- REC_FREEZE (R448). -/
def execRecFreeze (src : Src) (v : Int) (s : State) : Outcome State Fault Refusal :=
  .next (s.writeRow src O.recFreeze v fun s => s.recFreezeAct)

/-- REC_FROZEN (R448): the frame that contains t_tr + REC_POST is stored; the ring stops. -/
def execRecFrozen (s : State) : Outcome State Fault Refusal :=
  let r := s.recorder
  .next (if r.phase == .postTrigger && r.frames.head?.any (fun f => r.lastFrame ≤ f.number) then
    s.modRec fun r => { r with phase := .frozen, filling := none, freezes := (r.freezes + 1) % 2 ^ 32 } else s)

/-- REC_REARM (R448): the ring is released at once and recording resumes. -/
def State.recRearmAct (s : State) : Acted :=
  (match s.recorder.phase with
   | .postTrigger | .frozen => s.modRec fun r => { r with phase := .recording, missed := 0, filling := none }
   | .off | .recording => s).done
/-- REC_REARM (R448). -/
def execRecRearm (src : Src) (v : Int) (s : State) : Outcome State Fault Refusal :=
  .next (s.writeRow src O.recRearm v fun s => s.recRearmAct)

/-- The recorder as it starts with MEM, or with a write of REC_ENABLE (R449). -/
def State.recStart (s : State) : State :=
  s.modRec fun r => { phase := if s.cfgN O.recEnable == 1 && s.runs Dom.mem then .recording else .off
                      freezes := r.freezes }
/-- REC_ENABLE: 0 stops and releases the ring; 1 starts with the signals then configured. DEDUCED, log entry 86. -/
def State.recEnableAct (s : State) (v : Int) : Acted :=
  let was := s.cfg O.recEnable
  let s := s.setObj O.recEnable v
  (if was = v then s else s.recStart).done
/-- A reset or power-down of MEM loses the ring, the history and any freeze (R449). -/
def State.recLost (s : State) : State := s.modRec fun _ => {}

/-! ### REC_EXTRACT and REC_HISTORY (Table 13.14) -/

/-- A descriptor of a signal. -/
def State.recDescriptor (s : State) (k : Nat) : List Byte :=
  let a := s.recObject k
  leBytes 2 (a / 256 : Nat) ++ leBytes 1 (a % 256 : Nat) ++ leBytes 1 0 ++ leBytes 4 (s.cfg (O.recScale k))
    ++ leBytes 4 (s.cfg (O.recOffset k))

/-- The 32 bytes of the header and the descriptors. -/
def State.recHeader (s : State) (freeze time code inst count : Nat) : List Byte :=
  leBytes 2 1 ++ leBytes 2 s.recSignals.length ++ leBytes 4 freeze ++ leBytes 8 time ++ leBytes 2 code ++ leBytes 2 inst
    ++ leBytes 4 count ++ leBytes 8 0 ++ s.recSignals.flatMap s.recDescriptor

/-- Bytes followed by their CRC-32C. -/
def withCrc (bs : List Byte) : List Byte := bs ++ leBytes 4 (crc32c bs).toNat

/-- The bytes of a frame. -/
def RecFrame.bytes (f : RecFrame) : List Byte :=
  withCrc (leBytes 4 (f.number % 2 ^ 32 : Nat) ++ leBytes 8 (f.number * 400000 % 2 ^ 64 : Nat)
    ++ f.rows.flatMap fun row => row.flatMap fun v => leBytes 2 v)
/-- The bytes of a history record. -/
def RecSecond.bytes (x : RecSecond) : List Byte :=
  withCrc (leBytes 4 (x.second % 2 ^ 32 : Nat)
    ++ x.values.flatMap fun (lo, hi, mean) => leBytes 2 lo ++ leBytes 2 hi ++ leBytes 2 mean)

/-- REC_EXTRACT: 0 bytes when nothing is frozen (R448). -/
def State.recExtract (s : State) : List Byte :=
  let r := s.recorder
  if r.phase == .frozen then
    s.recHeader r.freezes (r.triggerTime % 2 ^ 64) r.triggerCode r.triggerInst r.frames.length
      ++ r.frames.reverse.flatMap RecFrame.bytes
  else []
/-- REC_HISTORY (R447). -/
def State.recHistory (s : State) : List Byte :=
  s.recHeader 0 0 0 0 s.recorder.history.length ++ s.recorder.history.reverse.flatMap RecSecond.bytes

end Sys2Proof.Machine
end

