-- ==== Sys2Proof/Machine/Sessions.lean ====
section
/-! DEFINITION. Replies and outstanding requests of the sessions, on Orham, the service port and CAN (R321, R322, R341,
R343 of 09 and 10). -/

namespace Sys2Proof.Machine

/-- The first code that is not OK, with its reason, or OK (Table 10.6). -/
def Answer.verdict (a : Answer) : Reply × Nat := (a.codes.find? fun c => c.1 != .ok).getD (.ok, 0)
/-- The code of the header (Table 10.6). -/
def Answer.code (a : Answer) : Reply := a.verdict.1

/-- Update session k. -/
def State.modSession (s : State) (k : Fin 8) (f : Session → Session) : State :=
  { s with net := { s.net with sessions := s.net.sessions.set k (f s.net.sessions[k]) } }

/-- Where a reply goes: the port, and on CAN the CLIENT and the form of the request. -/
structure ReplyTo where
  port : Port
  client : Nat
  form : Nat

/-- Where the reply to a request goes. -/
def replyToOf (q : Request) : ReplyTo := { port := q.port, client := q.src, form := q.form }

/-- Bits [1:0] of a CAN request's operation and what it names (Tables 9.8, 9.9). -/
def Asked.canOp : Asked → Nat × Ref × Nat
  | .read rs => (0, rs.head?.getD ⟨0, 0⟩, 0)
  | .write rs => (1, (rs.head?.map (·.ref)).getD ⟨0, 0⟩, 0)
  | .domainRead r o _ => (2, r, o)
  | .domainWrite r o _ => (3, r, o)
  | .level _ => (1, ⟨0x1238, 1⟩, 0)
  | .other _ => (0, ⟨0, 0⟩, 0)

/-- Pad to a data length that a CAN FD frame can have (Table 9.9). -/
def padFd (bs : List Byte) : List Byte :=
  match [12, 16, 20, 24, 32, 48, 64].find? fun n => bs.length ≤ n with
  | some n => bs ++ List.replicate (n - bs.length) 0#8
  | none => bs.take 64

/-- The frame that answers a CAN request (R321). -/
def State.canReply (s : State) (w : ReplyTo) (seq : Nat) (asked : Asked) (code : Reply) (value : List Byte) : CanFrame :=
  let (op, r, offset) := asked.canOp
  let name := leBytes 2 r.index ++ leBytes 1 r.sub
  let value := value.take 52
  let data :=
    if w.form = 0 then
      let err : Nat := if code == .ok then 0 else 0x20
      let body := if code == .ok then value else leBytes 1 code.byte
      (leBytes 1 (op * 64 + err + seq % 16 : Nat) ++ name ++ body ++ List.replicate 8 0#8).take 8
    else
      padFd (leBytes 1 op ++ leBytes 1 seq ++ name ++ leBytes 1 code.byte ++ leBytes 1 value.length ++ [0#8]
        ++ leBytes 4 offset ++ value)
  { ident := 0x14000000 + s.deviceBits + w.client, extended := true, remote := false, fd := w.form != 0, data }

/-- Put a dictionary reply into the first empty one of mailboxes 24 to 27 (Table 9.2). -/
def State.postReply (s : State) (p : CanN) (f : CanFrame) : State :=
  let boxes : List MailboxN := [24, 25, 26, 27]
  match boxes.find? fun m => s.can[p].boxes[m].frame.isNone with
  | some m => s.canPut p m f
  | none => s.canPut p 24 f

/-- The payload of a reply (Table 10.6): a READ's CODE, TYPE, LEN and value and a WRITE's CODE and REASON for each reference, the
values of every other command. A request that is refused whole is answered without a payload.
DESIGN CHOICE, log entry 139. -/
def Answer.payload (a : Answer) (asked : Asked) : List Byte :=
  if a.codes.length ≠ asked.named.length then a.values.flatten
  else match asked with
    | .read rs =>
      (rs.zip (a.codes.zip (a.values ++ List.replicate rs.length []))).flatMap fun x =>
        leBytes 1 (x.2.1.1.byte : Nat) ++ leBytes 1 (((cardOf (Ref.addr x.1)).map (·.ty.code)).getD 0 : Nat)
          ++ leBytes 2 (x.2.2.length : Nat) ++ x.2.2
    | .write _ | .level _ => a.codes.flatMap fun c => leBytes 1 (c.1.byte : Nat) ++ leBytes 1 (c.2 : Nat)
    | _ => a.values.flatten

/-- The packet of KIND `kind` that answers a request (R336, Table 10.4). Whether it repeats the references of its request and
how it numbers the service port's session are Config's. DESIGN CHOICE, log entry 139. -/
def State.answerPacket (s : State) (kind : Nat) (w : ReplyTo) (session seq : Nat) (asked : Asked) (c : Reply × Nat)
    (payload : List Byte) : Packet :=
  { kind, refs := if Config.replyRefs then asked.named else [], dst := w.client, src := s.address
    session := if session = serviceSession.val then Config.serviceNumber else session
    command := asked.command, seq, code := c.1, reason := c.2, payload }

/-- The reply packet to a request (R336). -/
def State.replyPacket (s : State) (w : ReplyTo) (session seq : Nat) (asked : Asked) (a : Answer) : Packet :=
  s.answerPacket 1 w session seq asked a.verdict (a.payload asked)

/-- Send a reply to where its request came from. -/
def State.sendReply (s : State) (w : ReplyTo) (session seq : Nat) (asked : Asked) (a : Answer) : State :=
  match w.port with
  | .canA => s.postReply 0 (s.canReply w seq asked a.code (a.values.head?.getD []))
  | .canB => s.postReply 1 (s.canReply w seq asked a.code (a.values.head?.getD []))
  | p => s.sendPacket p (Config.macOf w.client) (s.replyPacket w session seq asked a)

/-- Keep the final reply to an accepted request; the last four stay. Of an Orham or service-port session it replaces a kept one
with the same SEQ (R322, R343). -/
def Session.keep (x : Session) (replaces : Bool) (form seq : Nat) (asked : Asked) (a : Answer) : Session :=
  { x with kept := ({ seq, form, asked, answer := a } :: x.kept.filter fun k => !(replaces && k.seq == seq)).take 4 }

/-- An outstanding request of session k receives its final reply (R343). -/
def State.finishRequest (s : State) (k : Fin 8) (u : Unfinished) (a : Answer) : State :=
  let s := s.modSession k fun x =>
    let y := x.keep (k != canSession) u.form u.seq u.asked a
    { y with outstanding := x.outstanding.filter (· != u) }
  let s := { s with domains := s.domains.map fun (d : Domain) => { d with
    drain := d.drain.filter fun o => !(o.session == k.val && o.seq == u.seq && o.port == u.port) } }
  s.sendReply { port := u.port, client := u.client, form := u.form } k.val u.seq u.asked a

/-- The outstanding requests of every session that an object's own completion answers. -/
def State.finishRef (s : State) (addr : Nat) (code : Reply) : State :=
  s.each (List.finRange 8) fun s (k : Fin 8) =>
    s.each (s.net.sessions[k].outstanding.filter fun u => Ref.addr u.ref == addr) fun s u =>
      s.finishRequest k u { u.answer with codes := u.answer.codes.map fun c => if c.1 == .deferred then (code, 0) else c }

/-- A session's domain is lost: the session ends and its outstanding requests receive no reply (R341). -/
def State.dropSession (s : State) (k : Fin 8) : State :=
  let s := { s with domains := s.domains.map fun (d : Domain) => { d with drain := d.drain.filter fun o => o.session != k.val } }
  { s with net := { s.net with
    sessions := s.net.sessions.set k {}
    claims := s.net.claims.filter fun c => c.session != k.val } }

/-- GATE_FORCED (R41, R340): 200 µs have passed without the reply; the gatekeeper answers with the reason of the closure. -/
def execGateForced (d : DomainN) (session : Nat) (seq : Nat) (s : State) : Host.Outcome State Fault Refusal :=
  let D := s.domains[d]
  if D.gate != .draining then .next s
  else
    match D.drain.find? fun o => o.session == session && o.seq == seq, D.refusal with
    | some o, some why =>
      let s := (s.event 0xC006 d.val).modDomain d fun x => { x with drain := x.drain.filter (· != o) }
      if h : o.session < 8 then
        let k : Fin 8 := ⟨o.session, h⟩
        match s.net.sessions[k].outstanding.find? fun u => u.seq == o.seq && u.port == o.port with
        | some u => .next (s.finishRequest k u { codes := u.answer.codes.map fun c =>
            if c.1 == .deferred then why else c })
        | none => .next s
      else .next s
    | _, _ => .next s

end Sys2Proof.Machine
end

