-- ==== Sys2Proof/Machine/Power.lean ====
section
/-! DEFINITION. Power domains, module modes, supply loss, life cycle and firmware (15, and R41 to R44 of 01). -/

namespace Sys2Proof.Machine

open Host

/-- Update the supply, mode and life-cycle state. -/
def State.modPower (s : State) (f : Power → Power) : State := { s with power := f s.power }
/-- Update firmware kind k. -/
def State.modFw (s : State) (k : FwN) (f : Firmware → Firmware) : State :=
  s.modPower fun p => { p with fw := p.fw.set k (f p.fw[k]) }
/-- Every axis is DISABLED. -/
def State.allDisabled (s : State) : Bool := allAxes.all s.isDisabled
/-- No winch is RELEASING (R424, R465). -/
def State.noneReleasing (s : State) : Bool := allSvc.all fun w => s.svc.winch[w].state != .releasing

/-! ### Tested blocks of a domain (14) -/

/-- The domain a tested block belongs to (R450). -/
def blockDomain (id : Nat) : DomainN :=
  match id / 256 with
  | 1 | 2 => Dom.crest ⟨id % 4, by omega⟩
  | 0x0D => Dom.host
  | 0x0E => Dom.net
  | 0x0F => Dom.bus
  | 0x10 => Dom.mem
  | _ => Dom.feed

/-- The slices on blocks of a closing domain are aborted (R456); the number of patterns reached is open. -/
def State.abortSlices (s : State) (d : DomainN) : State :=
  s.each s.slices.toList fun s b => match b with
    | some id => if blockDomain id == d then s.callBlock id else s
    | none => s

/-! ### Firmware kinds and their domains (R482, R486) -/

/-- The image kind whose code domain d runs; KEEP and SAFE-L have none (R482). -/
def kindOf (d : DomainN) : Option FwN :=
  if d == Dom.keep || d == Dom.safeL then none
  else if d == Dom.host then some 1
  else if d == Dom.safeP then some 2
  else some 0

/-- The domains of image kind k. -/
def kindDomains (k : FwN) : List DomainN := (List.finRange 12).filter fun (d : DomainN) => kindOf d == some k

/-! ### What a domain loses when it stops (R13, Table 15.1) -/

/-- An address's persistence. -/
def persistOf (a : Nat) : Persist :=
  match cardOf a with
  | some c => c.persist
  | none => .volatile

/-- The VOLATILE objects of domain d return to their defaults (Table 0.5). -/
def State.forget (s : State) (d : DomainN) : State :=
  let gone := fun (a : Nat) => ownerOf (a / 256) == some d && persistOf a == .volatile
  { s with
    objs := s.objs.filter fun p => !gone p.1
    staged := s.staged.filter fun p => !gone p.1
    stagedAt := s.stagedAt.filter fun p => !gone p.1 }

/-- Waiting values of domain d come into force at its start (Table 0.5). -/
def State.applyRestart (s : State) (d : DomainN) : State :=
  s.applyStaged fun a => ownerOf (a / 256) == some d

/-- A leg as FEED leaves it: what the reaction has put on its gates stays after an unplanned loss, a planned closure turns
them off; nothing of the running cycle is left. DEDUCED, log entry 89. -/
def Leg.feedStop (planned : Bool) (L : Leg) : Leg :=
  let L := if planned then { L.allOff with en := false } else L
  { L with silent := false, leftOut := false, inRefresh := false, refreshActive := false, shadow := Vector.replicate 2 {}
           active := {}, last := {}, edges := [] }

/-- What FEED holds beside the dictionary is lost: axes that were DISABLED stay so, the others keep the state that the
reaction gives them; channels restart, groups, arbiter and engine begin afresh (R467). DEDUCED, log entry 89. -/
def State.feedStop (s : State) (planned : Bool) : State :=
  let s := if planned then s else s.each allAxes fun s a => s.otherCause a (some .feedLost)
  let s := s.each allAxes fun s a =>
    let s := if planned then s.gatesOff a else s
    s.modAxis a fun x =>
      { safe := x.safe
        field := if planned || x.field.state == .disabled then { crest := x.field.crest, unplaced := x.field.unplaced }
                 else { x.field with catching := {}, zeroing := false }
        reaction := if planned || x.field.state == .disabled then {} else x.reaction }
  let s := s.modLegs allLegs fun _ L => L.feedStop planned
  { s with
    units := Vector.replicate 32 {}
    compareOuts := Vector.replicate 8 {}
    passes := Vector.replicate 8 {}
    excOff := Vector.replicate 2 false
    sds := s.sds.map fun _ => {}
    inputs := s.inputs.map fun (i : CurrentInput) => { substituted := i.substituted }
    beforeTick := Vector.replicate 48 none
    migration := []
    slices := Vector.replicate 2 none
    slots := Vector.replicate 16 {}
    arbiter := {}
    engine := {} }

/-- NET is lost or closed: all Orham sessions end, both PHYs are down, IEEE 1588 time is lost (Table 15.1); a planned closure sends
first what its egress queues hold (R341). -/
def State.netStop (s : State) (planned : Bool) : State :=
  let s := if planned then s.each [0, 1] State.flushEth else s
  let s := s.each (List.finRange 6) fun s (k : Fin 6) => s.dropSession ⟨k.val, by omega⟩
  let s := { s with
    net := { s.net with
      ports := s.net.ports.map fun (p : EthPort) =>
        { state := if p.state == EthState.retired then EthState.retired else .down, faults := p.faults, retireLatch := p.retireLatch }
      macs := [], cyclic := Vector.replicate 16 {}, conflictLogged := none, identify := [] } }
  s.ptpLoss

/-- MEM is lost or closed: its session and the recorder end, the event-log entries are lost (R449, R467, R472), but for the
transition from FIELD to RETURN, which keeps the event log (R481). DEDUCED, log entry 141. -/
def State.memStop (s : State) : State :=
  let s := (s.dropSession serviceSession).recLost
  let kept : Bool := s.cfgN O.lcState == 2 && s.power.lcPending == some 3
  { s with
    log := { s.log with
      entries := if kept then s.log.entries else []
      passed := if kept then s.log.passed else (s.log.entries.filter (·.unread)) ++ s.log.passed }
    net := { s.net with claims := s.net.claims.filter fun c => ownerOf c.ref.index != some Dom.mem } }

/-- Domain d stops: what it holds is lost. `planned` is a closure under R41. -/
def State.stopDomain (s : State) (d : DomainN) (planned : Bool) : State :=
  let s := s.abortSlices d
  let s := match kindOf d with
    | some k => s.modFw k fun f => { f with ranSince := none }
    | none => s
  let s := if d == Dom.host then s else s.forget d
  if d == Dom.safeP then s.pathStop .p
  else if d == Dom.safeL then s.pathStop .l
  else if d == Dom.net then s.netStop planned
  else if d == Dom.bus then s.canStopAll.dropSession canSession
  else if d == Dom.host then s.modSvc fun v => { v with closing := none }
  else if d == Dom.mem then s.memStop
  else if d == Dom.feed then s.feedStop planned
  else
    s.each allCrests fun s c =>
      if Dom.crest c == d && s.crests[c].state != .retired then
        let s := s.modCrest c fun x => { x with state := .quiet, marginWarn := false, longest := 0, above := 0, atFloor := 0 }
        if s.power.closing.isNone && s.power.mode == .run then s.orphanAxes c else s
      else s

/-! ### Firmware slots (R482, R486) -/

/-- The VERSION of a slot: false = A. DEDUCED, log entry 90. -/
def Firmware.version (f : Firmware) (b : Bool) : Nat := if b then f.versionB else f.versionA
/-- Set the VERSION of a slot. -/
def Firmware.setVersion (f : Firmware) (b : Bool) (v : Nat) : Firmware :=
  if b then { f with versionB := v } else { f with versionA := v }
/-- The slot that the kind's domains start from: the new one while it activates or is on trial (R485, R486).
DEDUCED, log entry 90. -/
def Firmware.startSlot (f : Firmware) : Bool := if f.state == .activating || f.state == .tentative then !f.slot else f.slot
/-- The image that the kind starts from verifies (R486). -/
def State.fwOk (s : State) (d : DomainN) : Bool :=
  match kindOf d with
  | some k => s.power.fw[k].version s.power.fw[k].startSlot != 0
  | none => true

/-- At every start an active image that does not verify is replaced by the other slot, if that one's does (R486). -/
def State.checkImages (s : State) : State :=
  s.each (List.finRange 3) fun s (k : FwN) =>
    s.modFw k fun f =>
      if f.state != .activating && f.version f.slot = 0 && f.version (!f.slot) ≠ 0 then { f with slot := !f.slot, state := .reverted } else f

/-! ### Starting domains (R44, R465, R475) -/

/-- Begin the start of domain d: STARTING, or FAILED with no valid image (R486). -/
def State.startDomain (s : State) (d : DomainN) : State :=
  let ok := s.fwOk d
  s.modDomain d fun D => { D with
    state := if ok then .starting else .failed, gate := .closed, reason := .powerDown, drain := [], restart := false, gated := false }

/-- FEED becomes ready: the objects in force set the machine up again; every cause of its loss is gone (R513).
DEDUCED, log entry 89. -/
def State.feedStart (s : State) : State :=
  let s := s.assignLegs
  let s := s.each allAxes fun s a =>
    let s := s.modReact a fun r => { r with causes := r.causes.filter (· != .feedLost) }
    let s := if s.isDisabled a then
        let c := s.homeCrest a
        s.modField a fun f => { f with crest := c, unplaced := s.crests[c].state != .active && s.crests[c].state != .quiet }
      else s
    s.feedEnables a
  let s := s.each allChans fun s f => s.fbRestart f
  let s := { s with
    compareOuts := s.compareOuts.map fun (o : CompareOut) => { o with driven := true }
    tables := s.tables.map fun (t : MicroTable) => { active := t.flash, previous := t.flash, staging := t.flash, flash := t.flash } }
  let s := s.each (List.finRange 8) fun s (p : PtN) => (s.ptSource p (s.cfg (O.ptSource p))).1
  s.payoutLost

/-- Domain d is that of a retired crest. -/
def State.retiredDomain (s : State) (d : DomainN) : Bool :=
  allCrests.any fun c => Dom.crest c == d && s.crests[c].state == .retired

/-- Domain d has begun to run. The image whose domains all run now: an activated one is TENTATIVE from now on (R486). -/
def State.fwRan (s : State) (d : DomainN) : State :=
  s.each (List.finRange 3) fun s (k : FwN) =>
    if kindOf d == some k && s.power.closing.isNone && s.svc.closing.isNone
        && (kindDomains k).all fun d => s.runs d || s.retiredDomain d then
      s.modFw k fun f => match f.state with
        | .activating => { f with state := .tentative, ranSince := some s.ref.time }
        | .tentative => if f.ranSince.isNone then { f with ranSince := some s.ref.time } else f
        | _ => f
    else s

/-- Domain d reports ready: its gatekeepers open (R44) and it begins its work. -/
def State.readyDomain (s : State) (d : DomainN) : State :=
  let s := s.applyRestart d
  let s := s.modDomain d fun D => { D with state := .run, gate := .open, drain := [], restart := false }
  let s :=
    if d == Dom.safeP then s.pathStart .p
    else if d == Dom.safeL then s.pathStart .l
    else if d == Dom.bus then s.canStartAll
    else if d == Dom.host then
      let s := (s.forget Dom.host).hostStart
      { s with tables := s.tables.map fun (t : MicroTable) => { t with staging := t.active } }
    else if d == Dom.mem then
      let s := s.recStart
      { s with log := { s.log with attn := s.log.attn || s.log.announcedUnread != 0 } }
    else if d == Dom.feed then s.feedStart
    else s.each allCrests fun s c =>
      if Dom.crest c == d then
        ((s.modCrest c fun x => { x with state := .active, longest := 0 }).setObj (O.vcrestNow c) 800).runQueue
      else s
  s.fwRan d

/-- DOMAIN_READY (R44, R465, R467, R475): MEM is ready before any domain but KEEP. DESIGN CHOICE, log entry 5. -/
def execDomainReady (d : DomainN) (s : State) : Outcome State Fault Refusal :=
  let D := s.domains[d]
  let waits : Bool := d != Dom.mem && s.domains[Dom.mem].state == .starting
  if (D.state == .starting || (D.state == .failed && D.restart)) && !waits && !s.retiredDomain d && s.fwOk d then
    .next (s.readyDomain d)
  else .next s

/-! ### A fresh LC_NONCE (R480) -/

/-- LC_NONCE is drawn afresh. DESIGN CHOICE, log entry 103. -/
def State.drawNonce (s : State) : State :=
  { s.setObj O.lcNonce (Config.nonce s.draws % 2 ^ 32 : Nat) with draws := s.draws + 1 }

/-- LC_NONCE_REDRAW (R480): 10 minutes after a draw. -/
def execLcNonceRedraw (s : State) : Outcome State Fault Refusal :=
  .next (if s.runs Dom.keep then s.drawNonce else s)

/-! ### Life cycle (R478 to R481) -/

/-- The customer's data is wiped at the transition from FIELD to RETURN (R481). -/
def State.wipe (s : State) : State :=
  let kept := fun (a : Nat) => (0x1000 ≤ a / 256 && a / 256 < 0x1200) || persistOf a != .stored
  { s with
    objs := s.objs.filter fun p => kept p.1
    staged := s.staged.filter fun p => kept p.1
    stagedAt := s.stagedAt.filter fun p => kept p.1
    flash := s.flash.filter fun p => kept p.1
    tables := Vector.replicate 4 {}
    recorder := {}
    svc := { s.svc with winch := s.svc.winch.map fun (w : Winch) => { w with storedN := none } }
    safety := { s.safety with
      password := none, active := [], sealing := none, sealed := 0, sealCount := 0, sealCheck := 0, changes := [] } }

/-- An accepted transition takes effect (R479). -/
def State.takeTransition (s : State) : State :=
  match s.power.lcPending with
  | none => s
  | some t =>
    let s := if s.cfgN O.lcState = 2 && t = 3 then s.wipe else s
    (s.setObj O.lcState t).modPower fun p => { p with lcPending := none }

/-! ### Starting the module (R473 to R475) -/

/-- Every domain but KEEP starts, after every one of them has stopped. -/
def State.startAll (s : State) (lastStart : Nat) : State :=
  let s := s.takeTransition.checkImages
  let s := (s.setObj O.lastStart lastStart).drawNonce
  let s := s.modPower fun p => { p with mode := .run, closing := none, failing := false, returned := false
                                        bySupply := false, bscan := false }
  let s := s.each allCrests fun s c =>
    if s.crests[c].state == .retired then s else s.modCrest c fun x => { x with state := .quiet }
  let s := s.modDomain Dom.keep fun D => { D with state := .run, gate := .open }
  s.each ((List.finRange 12).drop 1) fun s (d : DomainN) =>
    if s.retiredDomain d then s else s.startDomain d

/-- The firmware as a loss of power leaves it (R484, R486). -/
def Firmware.powerOff (f : Firmware) : Firmware :=
  { state := if f.state == .tentative then .reverted else .idle
    slot := f.slot, versionA := f.versionA, versionB := f.versionB }

/-- The module without supply: OFF, or DORMANT with what KEEP holds (R471, R472, R476). Flash and fuses keep their
contents. DEDUCED, log entry 88. -/
def State.powerOff (s : State) (dormant : Bool) : State :=
  let keeps := fun (a : Nat) => persistOf a == .keep && (dormant || a == O.lcState)
  let objs := (s.objs.filter fun p => keeps p.1).foldl (fun m p => storeSet m p.1 p.2)
    (s.flash.foldl (fun m p => storeSet m p.1 p.2) [])
  { State.reset with
    objs, flash := s.flash, out := s.out, draws := s.draws, pending := s.pending
    ref := { time := if dormant then s.ref.time else 0 }
    domains := if dormant then State.reset.domains.set 0 { state := .run } else State.reset.domains
    tables := s.tables.map fun (t : MicroTable) => { active := t.flash, previous := t.flash, staging := t.flash, flash := t.flash }
    svc := { winch := s.svc.winch.map fun (w : Winch) => { storedN := w.storedN } }
    safety := {
      active := s.safety.active, sealed := s.safety.sealed, sealCount := s.safety.sealCount
      sealCheck := s.safety.sealCheck, password := s.safety.password, changes := s.safety.changes
      changeHead := s.safety.changeHead, storedLockouts := s.safety.storedLockouts
      lockouts := s.safety.storedLockouts.map fun (y : Lockout) => { y with p := true, l := true, causedAt := none } }
    power := { mode := if dormant then .dormant else .off, fw := s.power.fw.map Firmware.powerOff
               rtcTicks := if dormant then s.power.rtcTicks else 0 }
    log := if dormant then { head := s.log.head, made := s.log.made, announcedUnread := s.log.announcedUnread } else {} }

/-- The module starts from OFF or DORMANT. -/
def State.powerOn (s : State) (lastStart mv : Nat) : State :=
  (s.startAll lastStart).setObj O.supplyNow mv

/-! ### Closing every domain (R470, R476, R479, R463, R485) -/

/-- The reason a gatekeeper gives for the closure under way (R41). -/
def Closing.why : Closing → CloseReason
  | .dormant => .powerDown
  | .restart 3 => .update
  | .restart _ => .reset

/-- The steps of Table 15.2. -/
def closeSteps : List (List DomainN) :=
  [[Dom.host], [Dom.net, Dom.bus], [Dom.crest 0, Dom.crest 1, Dom.crest 2, Dom.crest 3, Dom.feed], [Dom.safeP, Dom.safeL],
   [Dom.mem]]

/-- A STORED value in force or in wait has not reached flash (R354). -/
def State.flashPending (s : State) : Bool :=
  let late := fun (p : Nat × Int) =>
    persistOf p.1 == .stored && (storeGet s.flash p.1).getD (defaultOf p.1) != s.val p.1
  s.objs.any late || s.staged.any late || s.flash.any late || s.safety.sealing.isSome

/-- The domain still has to close. -/
def State.unclosed (s : State) (d : DomainN) : Bool := s.domains[d].state != .off && s.domains[d].state != .failed

/-- Go on with a closure of every domain: the next step begins when the one before has closed; MEM waits for the writes
on their way to flash; the end is DORMANT or a restart. -/
def State.closeNext (s : State) : State :=
  match s.power.closing with
  | none => s
  | some c =>
    match closeSteps.find? fun step => step.any s.unclosed with
    | some step =>
      if step == [Dom.mem] && s.flashPending then s
      else s.each step fun s d =>
        if s.domains[d].state == .run || s.domains[d].state == .starting then
          if d == Dom.host then (if s.svc.closing.isSome then s else s.hostClose c.why false)
          else s.closeGate d c.why false
        else s
    | none => match c with
      | .dormant => s.powerOff true
      | .restart n => s.startAll n

/-- Begin a closure of every domain except KEEP. -/
def State.closeAll (s : State) (c : Closing) : State :=
  (s.modPower fun p => { p with closing := some c }).closeNext

/-- GATE_DRAIN_COMPLETE (R41, R44, R466): every reply has passed out; only now does the domain stop. -/
def execGateDrainComplete (d : DomainN) (s : State) : Outcome State Fault Refusal :=
  let D := s.domains[d]
  if D.gate != .draining || !D.drain.isEmpty then .next s
  else
    let s := s.modDomain d fun D => { D with state := .off, gate := .closed }
    let s := s.stopDomain d true
    let s := if D.restart then s.startDomain d else s
    .next s.closeNext

/-! ### One domain (R465 to R468) -/

/-- The condition of Table 15.1. -/
def State.closable (s : State) (d : DomainN) : Bool :=
  let still := fun (a : AxisN) => match (s.axis a).field.state with
    | .disabled | .ready | .safeOff | .lockedOut => true
    | .running | .stopping | .holdAsc | .fault => false
  if d == Dom.keep then false
  else if d == Dom.safeP || d == Dom.safeL then allAxes.all still
  else if d == Dom.net || d == Dom.bus then true
  else if d == Dom.host then s.noneReleasing
  else if d == Dom.mem then
    s.net.claims.isEmpty && s.power.fw.all fun (f : Firmware) => f.state != .receiving && f.state != .activating
  else if d == Dom.feed then s.allDisabled
  else allCrests.all fun c => Dom.crest c != d || allAxes.all fun a =>
    !s.computes c a || (s.axis a).field.state == .disabled || (s.axis a).field.state == .ready

/-- An accepted closure of one domain. -/
def State.closeDomain (s : State) (d : DomainN) (why : CloseReason) (restart : Bool) : State :=
  if d == Dom.host then s.hostClose why restart else s.closeGate d why restart

/-- A RESET or POWER_DOWN of domain d (R465). A domain that is starting or failed has nothing to drain; one that already
drains takes the newer wish. DEDUCED, log entry 87. -/
def State.domainCloseAct (s : State) (d : DomainN) (restart : Bool) : Acted :=
  let st := s.domains[d].state
  if d == Dom.keep || st == .off then (s, .outOfRange, 0)
  else if (d == Dom.host && s.svc.closing.isSome) || !s.closable d || (restart && s.retiredDomain d) then s.lock
  else
    let why : CloseReason := if restart then .reset else .powerDown
    match st with
    | .off => (s, .outOfRange, 0)
    | .run => (s.closeDomain d why (restart && s.power.closing.isNone)).done
    | .stopping => (s.modDomain d fun D => { D with reason := why, restart := restart && s.power.closing.isNone }).done
    | .starting | .failed =>
      (if restart then s.startDomain d
       else
        let s := s.each (allCrests.filter fun c => Dom.crest c == d) fun s c => s.modCrest c fun x => { x with reinstating := false }
        s.modDomain d fun D => { D with
          state := .off, gate := .closed, reason := why, drain := [], restart := false }).done

/-- A START of domain d (R465, R466). -/
def State.domainStartAct (s : State) (d : DomainN) : Acted :=
  let st := s.domains[d].state
  if st != .off && st != .failed then (s, .outOfRange, 0)
  else if s.retiredDomain d then s.lock
  else (s.startDomain d).done

/-- A write of DOMAIN_CTRL: [15:8] the action, [7:0] the domain (Table 15.8). DEDUCED, log entry 87. -/
def State.domainCtrlAct (s : State) (v : Int) : Acted :=
  let n := v.toNat
  if h : n % 256 < 12 then
    let d : DomainN := ⟨n % 256, h⟩
    match n / 256 with
    | 1 => s.domainCloseAct d true
    | 2 => s.domainCloseAct d false
    | _ => s.domainStartAct d
  else (s, .outOfRange, 0)

/-- DOMAIN_RESET (R465, R466). -/
def execDomainReset (src : Src) (d : DomainN) (s : State) : Outcome State Fault Refusal :=
  .next (s.writeRow src O.domainCtrl (0x100 + d.val : Nat) fun s => s.domainCtrlAct (0x100 + d.val : Nat))
/-- DOMAIN_POWER_DOWN (R465, R466). -/
def execDomainPowerDown (src : Src) (d : DomainN) (s : State) : Outcome State Fault Refusal :=
  .next (s.writeRow src O.domainCtrl (0x200 + d.val : Nat) fun s => s.domainCtrlAct (0x200 + d.val : Nat))
/-- DOMAIN_START (R465, R466). -/
def execDomainStart (src : Src) (d : DomainN) (s : State) : Outcome State Fault Refusal :=
  .next (s.writeRow src O.domainCtrl (0x300 + d.val : Nat) fun s => s.domainCtrlAct (0x300 + d.val : Nat))

/-- An image on trial whose domain restarts without a planned closure is given up (R486). -/
def State.fwLost (s : State) (d : DomainN) : State :=
  match kindOf d with
  | some k => s.modFw k fun f => if f.state == .tentative then { f with state := .reverted, ranSince := none } else f
  | none => s

/-- Domain d is lost: the requests of other domains' sessions that wait for one of its objects are answered NOT_AVAILABLE
(R46, R340); those of its own sessions receive no reply (R341). -/
def State.answerLost (s : State) (d : DomainN) : State :=
  s.each (List.finRange 8) fun s (k : Fin 8) =>
    if sessionDomain k == d then s
    else s.each (s.net.sessions[k].outstanding.filter fun u => ownerOf u.ref.index == some d) fun s u =>
      s.finishRequest k u { u.answer with codes := u.answer.codes.map fun c =>
        if c.1 == .deferred then (.notAvailable, 0x03) else c }

/-- DOMAIN_SUPPLY_LOSS (R467): a domain loses its supply without a planned closure. -/
def execDomainSupplyLoss (d : DomainN) (s : State) : Outcome State Fault Refusal :=
  let D := s.domains[d]
  if D.state == .off then .next s
  else if d == Dom.keep then .next (s.powerOff false)
  else
    let crest := allCrests.find? fun c => Dom.crest c == d
    match crest with
    | some c => .next ((s.abortSlices d).retireCrest c false).closeNext
    | none =>
      let s := s.fwLost d
      let safe : Bool := d == Dom.safeP || d == Dom.safeL
      let second : Bool := match D.lostAt with
        | some t => s.ref.time - t ≤ 10 * ticksPerS
        | none => false
      let s := s.modDomain d fun D => { D with
        state := .failed, gate := .closed, reason := .powerDown, drain := [], lostAt := some s.ref.time
        restart := !safe && !second && s.power.closing.isNone }
      let s := if d == Dom.host then s.each allAxes State.serviceLost else s
      let s := s.answerLost d
      .next (s.stopDomain d false).closeNext

/-! ### Module modes (R469, R470, R474) -/

/-- A write of POWER_MODE. DEDUCED, log entry 89. -/
def State.powerModeAct (s : State) (v : Int) : Acted :=
  if s.power.closing.isSome then s.lock
  else if v = 0 then
    if s.power.mode == .quiet then
      let s := s.modPower fun p => { p with mode := .run }
      (s.each allCrests fun s c => if s.domains[Dom.crest c].gated then s.startDomain (Dom.crest c) else s).done
    else s.done
  else if !s.allDisabled then s.lock
  else if v = 1 then
    let s := s.modPower fun p => { p with mode := .quiet }
    (s.each allCrests fun s c =>
      if s.crests[c].state == .retired || s.domains[Dom.crest c].state == .off then s
      else
        let s := s.modDomain (Dom.crest c) fun D => { D with
          gated := true, state := .off, gate := .closed, reason := .powerDown, drain := [], restart := false }
        s.stopDomain (Dom.crest c) true).done
  else if s.power.fw.any fun (f : Firmware) => f.state == .receiving || f.state == .activating then s.lock
  else (s.closeAll .dormant).done

/-- POWER_MODE_RUN (R469). -/
def execPowerModeRun (src : Src) (s : State) : Outcome State Fault Refusal :=
  .next (s.writeRow src O.powerMode 0 fun s => s.powerModeAct 0)
/-- POWER_MODE_QUIET (R469). -/
def execPowerModeQuiet (src : Src) (s : State) : Outcome State Fault Refusal :=
  .next (s.writeRow src O.powerMode 1 fun s => s.powerModeAct 1)
/-- POWER_MODE_DORMANT (R469, R470). -/
def execPowerModeDormant (src : Src) (s : State) : Outcome State Fault Refusal :=
  .next (s.writeRow src O.powerMode 2 fun s => s.powerModeAct 2)

/-- WAKE (R474): high for 10 ms in DORMANT, with POWER_CONFIG.WAKE_PIN set and the supply at 18 V. -/
def execWake (mv : Nat) (s : State) : Outcome State Fault Refusal :=
  .next (if s.power.mode == .dormant && (s.cfgN O.powerConfig).testBit 0 && 18000 ≤ mv then s.powerOn 1 mv else s)

/-- SUPPLY_ON (R474, R475, R477, R487): the 24 V supply stands at `mv`. Beyond its absolute maximum of 36 V the manual
describes no behaviour. DESIGN CHOICE, log entry 5; DEDUCED, log entries 88 and 99. -/
def execSupplyOn (mv : Nat) (s : State) : Outcome State Fault Refusal :=
  if 36000 < mv then .fault .absoluteMaximum
  else match s.power.mode with
  | .off => .next (if 18000 ≤ mv then s.powerOn 0 mv else s)
  | .dormant => .next (if s.power.bySupply && (s.cfgN O.powerConfig).testBit 1 && 18000 ≤ mv then s.powerOn 2 mv
      else s.modPower fun p => { p with failing := false })
  | .run | .quiet =>
    .next ((s.setObj O.supplyNow mv).modPower fun p => { p with returned := p.returned || (p.failing && 18000 ≤ mv) })

/-- SUPPLY_FAILURE (R476 step 1): the speed rule on every axis with control EN asserted; STORED writes are refused from
now on. In DORMANT only KEEP is left to lose its supply (R471). DEDUCED, log entry 88. -/
def execSupplyFailure (mv : Nat) (s : State) : Outcome State Fault Refusal :=
  match s.power.mode with
  | .run | .quiet =>
    if s.power.failing || 16300 ≤ mv then .next s
    else
      let s := (s.setObj O.supplyNow mv).modPower fun p => { p with failing := true }
      .next (s.each allAxes fun s a => s.otherCause a none)
  | .dormant => .next (if 16300 ≤ mv then s else s.modPower fun p => { p with failing := true })
  | .off => .next s

/-- Every STORED value accepted so far is in flash (R476 step 2). -/
def State.flushFlash (s : State) : State :=
  let s := s.sealDone
  let put := fun (m : Store) (p : Nat × Int) => if persistOf p.1 == .stored then storeSet m p.1 p.2 else m
  let back := s.flash.filter fun p => persistOf p.1 != .stored || (storeGet s.objs p.1).isSome
  { s with
    flash := s.staged.foldl put (s.objs.foldl put back)
    tables := s.tables.map fun (t : MicroTable) => { t with flash := t.active }
    safety := { s.safety with storedLockouts := s.safety.lockouts.map fun (y : Lockout) => { y with braking := false, causedAt := none } } }

/-- HOLD_UP_END (R476 steps 2 to 5, R477): the hold-up ends in DORMANT with VKEEP at 2.0 V or above, else in OFF; a supply
that has returned starts the module again. DEDUCED, log entry 88. -/
def execHoldUpEnd (vkeepMv : Nat) (s : State) : Outcome State Fault Refusal :=
  if !s.power.failing then .next s
  else if s.power.mode == .dormant then
    .next (if 2000 ≤ vkeepMv then s.modPower fun p => { p with failing := false } else s.powerOff false)
  else
    let back := s.power.returned
    let s := s.flushFlash
    let mv := s.cfgN O.supplyNow
    let s := (s.powerOff (2000 ≤ vkeepMv)).modPower fun p => { p with bySupply := true }
    let s := s.setObj O.vkeepNow (min vkeepMv 4000 : Nat)
    .next (if back then s.powerOn 2 mv else s)

/-! ### LC_ADVANCE (R479, R480) -/

/-- The serial number in 16 bytes. -/
def serialBytes : List Byte := (Config.serial ++ List.replicate 16 0#8).take 16
/-- The module's serial-number digest (R480). -/
def serialDigest : List Byte := (sha256 serialBytes).take 8

/-- A token serves the request for `target` (R480). -/
def State.tokenOk (s : State) (token : List Byte) (target : Nat) : Bool :=
  token.length == 80 && leVal (token.take 1) == target && leVal ((token.drop 1).take 3) == 0
    && (token.drop 4).take 8 == serialDigest && leVal ((token.drop 12).take 4) == s.cfgN O.lcNonce
    && Config.signatureOk (token.take 16) (token.drop 16)

/-- A write of LC_ADVANCE (Table 15.6). -/
def State.lcAdvanceAct (s : State) (src : Src) (v : Int) : Acted :=
  let from_ := s.cfgN O.lcState
  let t := v.toNat
  let need : Option (Level × Bool) :=
    match from_, t with
    | 0, 1 => some (.maker, Config.factoryTested)
    | 1, 2 => some (.configure, s.allDisabled && s.safety.sealed == 1)
    | 2, 3 => some (.configure, s.allDisabled && s.tokenOk s.power.token 3 && s.cfg O.lcConsent == s.cfg O.lcNonce)
    | 3, 1 => some (.maker, s.tokenOk s.power.token 1)
    | 0, 4 | 1, 4 | 3, 4 => some (.maker, s.tokenOk s.power.token 4)
    | _, _ => none
  match need with
  | none => (s, .outOfRange, 0)
  | some (l, ok) =>
    if levelRank src.level < levelRank l then (s, .accessDenied, 0x20)
    else if !ok || s.power.lcPending.isSome || s.power.closing.isSome then s.lock
    else
      let s := s.drawNonce.modPower fun p => { p with lcPending := some t }
      (s.closeAll (.restart 4)).done

/-- LC_ADVANCE (R479). -/
def execLcAdvance (src : Src) (v : Int) (s : State) : Outcome State Fault Refusal :=
  .next (s.writeRow src O.lcAdvance v fun s => s.lcAdvanceAct src v)

/-! ### Firmware (R482 to R486) -/

/-- Largest image of a kind, in bytes (R482). -/
def fwMax (k : FwN) : Nat := if k.val = 0 then 8388608 else if k.val = 1 then 12582912 else 2097152

/-- LENGTH of an image as far as it has been received; none before its field is complete (Table 15.7). -/
def imageLength (image : List Byte) : Option Nat :=
  if 16 ≤ image.length then some (leVal ((image.drop 12).take 4)) else none

/-- A piece of an image of kind k that continues at the bytes received (R484): the state, the answer, and whether the
image is complete. A kind that verifies, activates or is on trial takes none. DEDUCED, log entry 90. -/
def State.fwPiece (s : State) (k : FwN) (offset : Nat) (data : List Byte) : State × (Reply × Nat) × Bool :=
  let f := s.power.fw[k]
  match f.state with
  | .verifying | .activating | .tentative => (s, (.busy, 0x13), false)
  | .idle | .receiving | .verified | .rejected | .reverted =>
    let image := if offset = 0 then data else f.image ++ data
    let past : Bool := fwMax k < image.length || match imageLength image with
      | some n => n < image.length
      | none => false
    if past then (s, (.outOfRange, 0), false)
    else
      let whole : Bool := imageLength image == some image.length
      let s := s.modFw k fun f => { f.setVersion (!f.slot) 0 with
        state := if whole then .verifying else .receiving, image, reason := 0 }
      (s, (.ok, 0), whole)

/-- Why an image is rejected: 4 magic, 2 kind, 3 length, 1 signature, 0 not at all (Tables 15.7, 15.13). -/
def imageReason (k : FwN) (image : List Byte) : Nat :=
  let n := image.length
  if image.take 4 != [0x55#8, 0x46#8, 0x57#8, 0x31#8] then 4
  else if leVal ((image.drop 4).take 1) ≠ k.val then 2
  else if n < 128 || imageLength image != some n then 3
  else if !Config.signatureOk (image.take (n - 64)) (image.drop (n - 64)) then 1
  else 0

/-- FW_VERIFY_COMPLETE (R484). -/
def execFwVerifyComplete (k : FwN) (s : State) : Outcome State Fault Refusal :=
  .next (s.modFw k fun f =>
    if f.state != .verifying then f
    else
      let r := imageReason k f.image
      if r = 0 then { f.setVersion (!f.slot) (leVal ((f.image.drop 8).take 4)) with state := .verified, reason := 0 }
      else { f with state := .rejected, reason := r })

/-- A write of FW_ACTIVATE (R485). DEDUCED, log entry 90. -/
def State.fwActivateAct (s : State) (k : FwN) : Acted :=
  let pending : Bool := s.power.lcPending.isSome
    || s.power.fw.any fun (f : Firmware) => f.state == .activating || f.state == .tentative
  let ready : Bool :=
    if k.val = 0 then s.allDisabled
    else if k.val = 1 then s.noneReleasing
    else allAxes.all fun a => s.isDisabled a || (s.axis a).field.state == .safeOff
  if pending then (s, .busy, 0x13)
  else if s.power.fw[k].state != .verified || !ready || s.power.closing.isSome then s.lock
  else
    let s := s.modFw k fun f => { f with state := .activating, ranSince := none }
    (if k.val = 0 then s.closeAll (.restart 3)
     else if k.val = 1 then s.hostClose .update true
     else s.closeGate Dom.safeP .update true).done

/-- FW_ACTIVATE (R485). -/
def execFwActivate (src : Src) (k : FwN) (v : Int) (s : State) : Outcome State Fault Refusal :=
  .next (s.writeRow src (O.fwActivate k) v fun s => s.fwActivateAct k)

/-- Each domain of image kind k has run for 10 s since the image began its trial (R486). -/
def State.fwTried (s : State) (k : FwN) : Bool :=
  s.power.fw[k].ranSince.any (fun t => t + 10 * ticksPerS ≤ s.ref.time)
    && (kindDomains k).all fun d => s.runs d || s.retiredDomain d

/-- FW_TENTATIVE_CONFIRMED (R486): the domains have stayed in RUN for 10 s; the new slot is the active one.
DEDUCED, log entry 90. -/
def execFwTentativeConfirmed (k : FwN) (s : State) : Outcome State Fault Refusal :=
  .next (s.modFw k fun f =>
    if f.state == .tentative && s.fwTried k then
      { f with state := .idle, slot := !f.slot, ranSince := none, image := [] }
    else f)

/-- FW_REVERT (R486): the new image's domains have not reached RUN within 5 s of their start; they start again from the
previous slot. -/
def execFwRevert (k : FwN) (s : State) : Outcome State Fault Refusal :=
  let f := s.power.fw[k]
  let hung := (kindDomains k).filter fun d => s.domains[d].state == .starting || s.domains[d].state == .failed
  if f.state == .activating && !hung.isEmpty then
    let s := s.modFw k fun f => { f with state := .reverted, ranSince := none }
    .next (s.each hung State.startDomain)
  else .next s

/-- BASEPLATE_MEASURE (R490): every 100 ms in RUN or QUIET. -/
def execBaseplateMeasure (tenthsC : Int) (s : State) : Outcome State Fault Refusal :=
  match s.power.mode with
  | .run | .quiet => .next (s.setObj O.baseplateTemp (max (-550) (min 1500 tenthsC)))
  | .dormant | .off => .next s

end Sys2Proof.Machine
end

