-- ==== Sys2Proof/Machine/SelfTest.lean ====
section
/-! DEFINITION. The periodic self-test: blocks, slices, cairns, confirmed failures, the test controls (14). -/

namespace Sys2Proof.Machine

open Host

/-- Instances of each block type, the spare lanes of R451 included (Table 14.1). -/
def blockCount : Nat → Nat
  | 1 | 2 | 0x0D => 4
  | 3 | 0x0C | 0x0E | 0x10 => 1
  | 4 | 7 => 48
  | 5 => 18
  | 6 => 54
  | 8 | 9 | 0x0A => 16
  | 0x0B => 32
  | 0x0F => 2
  | _ => 0

/-- The block ids of a self-test slot, ascending: types 0x01 to 0x0C of slot 16, 0x0D to 0x10 of slot 17 (R452). -/
def slotBlocks (slot : TestSlot) : List Nat :=
  let types := if slot then [0x0D, 0x0E, 0x0F, 0x10] else (List.range 12).map (· + 1)
  types.flatMap fun t => (List.range (blockCount t)).map fun i => t * 256 + i

/-- The requester number of a self-test slot (R289). -/
def slotReq (slot : TestSlot) : Fin 18 := if slot then 17 else 16

/-- The place of a slot among the running slices. -/
def slotIx (slot : TestSlot) : Fin 2 := if slot then 1 else 0

/-- Slices per cycle of a block's type. -/
def State.slicesOf (s : State) (id : Nat) : Nat := s.cfgN (O.slicesPerCycle (id / 256))

/-- The spare lane of input i's group of eight is out of use (R451). DEDUCED, log entry 95. -/
def State.spareGone (s : State) (type first i : Nat) : Bool := 0 < (s.block (type * 256 + first + i / 8)).mappedOut

/-- The block's eligibility (Table 14.1), and that its domain is in RUN (R450, R469). DEDUCED, log entry 93. -/
def State.eligible (s : State) (id : Nat) : Bool :=
  let i := id % 256
  let axisOk := fun (ok : AxisN → Bool) => match axisNum i with
    | some a => ok a
    | none => false
  s.runs (blockDomain id) && decide (i < blockCount (id / 256)) &&
  match id / 256 with
  | 1 | 2 => (s.crests[(⟨i % 4, by omega⟩ : CrestN)]).state == .active
  | 4 => match legNum i with
    | some l => match s.axisOf l with
      | some a => !(s.isStepper a && (s.legsOf a).any fun l => (s.leg l).en)
      | none => true
    | none => false
  | 5 => 16 ≤ i || !s.spareGone 5 16 i || s.cfgN (O.sdRole i) == 0
  | 6 => 48 ≤ i || !s.spareGone 6 48 i || s.cfgN (O.fbType i) == 0
  | 7 => match legNum i with
    | some l => (s.leg l).state == .notAssigned || match s.axisOf l with
      | some a => s.isDisabled a
      | none => true
    | none => false
  | 8 => axisOk fun a => (s.isDisabled a || (s.axis a).field.state == .ready) && !(s.legsOf a).any fun l => (s.leg l).en
  | 9 => axisOk fun a => s.isStepper a && (s.isDisabled a || (s.axis a).field.state == .ready)
      && !(s.legsOf a).any fun l => (s.leg l).en
  | 0x0A => axisOk fun a => s.isDisabled a && !allUnits.any fun u =>
      s.cfgN (O.cmpEnable u) == 1 && s.cmpAxis u == some a
  | 0x0B => if h : i < 32 then s.cfgN (O.cmpEnable i) == 0 || s.units[i].sourceInvalid else false
  | 0x0F => if h : i < 2 then s.cfgN (O.canMode i) == 0 || s.can[i].offered.isNone else false
  | _ => true
where
  /-- Leg i. -/
  legNum (i : Nat) : Option LegN := if h : i < 48 then some ⟨i, h⟩ else none

/-- Periodic slices run: TEST_ENABLE 1, FEED in RUN, no boundary scan, not in SCRAP (R462, R463). -/
def State.engineOn (s : State) : Bool :=
  s.cfgN O.testEnable == 1 && s.runs Dom.feed && !s.power.bscan && s.cfgN O.lcState != 4

/-- The test deadline of a block, in reference ticks (R452). -/
def State.testDeadline (s : State) (id : Nat) : Rat :=
  let b := s.block id
  b.cycleStart.getD s.ref.time + ((s.cfgN (O.testCycleTarget (id / 256)) * ticksPerS * (b.next + 1) : Nat) : Rat) / s.slicesOf id

/-- A block of the slot that may be chosen: eligible and not waiting (R452). -/
def State.dueBlocks (s : State) (slot : TestSlot) : List Nat :=
  if s.engineOn && !s.engine.fullTest then
    (slotBlocks slot).filter fun id => s.eligible id && !(s.block id).waiting && !s.slices.any fun b => b == some id
  else []

/-- The slot's choice: the earliest test deadline, lower id first (R452). -/
def State.chooseBlock (s : State) (slot : TestSlot) : Option Nat :=
  (s.dueBlocks slot).foldl (fun best id => match best with
    | none => some id
    | some b => if s.testDeadline id < s.testDeadline b then some id else best) none

/-- A chosen block's slice did not start: it waits, 1 ms doubling to 1 s (R455). -/
def State.missSlice (s : State) (id : Nat) : State :=
  s.modBlock id fun b => { b with wait := if b.wait = 0 then 1 else min (2 * b.wait) 1000, waiting := true }

/-- A slice on a leg cell begins a self-test period: no automatic clear has been used in it (R85). -/
def State.slicePeriod (s : State) (id : Nat) : State :=
  if id / 256 == 7 then
    (if h : id % 256 < 48 then s.modLeg ⟨id % 256, h⟩ fun L => { L with autoclears := 0 } else s)
  else s

/-- The length of a slice of a block's type, in ticks (Table 14.1). -/
def sliceTicks (id : Nat) : Nat :=
  400 * ([0, 8, 20, 5, 12, 10, 20, 50, 30, 20, 15, 5, 40, 100, 50, 10, 200].getD (id / 256) 0)

/-- The first tick after the present one at which something falls that comes every `period` ticks from `phase` on. -/
def State.nextTick (s : State) (period phase : Nat) : Nat :=
  s.ref.time + (period - (s.ref.time + period - phase) % period)

/-- The next sample instant of an axis that runs cycles: the nominal one, or in a search the start of its window
(R99, R162). -/
def State.nextSample (s : State) (a : AxisN) : Nat :=
  let f := (s.axis a).field
  let c := f.cycles[f.cycle % 2]
  let window : Int := if s.saddleMode a == .fixed then 0 else (s.searchWindow a).1
  ((c.sampledAt : Int) - c.offset + s.cycleTicks a + window).toNat

/-- The legs of axis a lie on more than one crest (R3, Table 14.1). -/
def State.spansCrests (s : State) (a : AxisN) : Bool :=
  (s.legsOf a).any fun l => (s.legsOf a).any fun m => l.val / 12 != m.val / 12

/-- The next service deadline of a block (Table 14.1); none where it has none. DEDUCED, log entry 93. -/
def State.serviceDeadline (s : State) (id : Nat) : Option Nat :=
  let i := id % 256
  let first := fun (ts : List Nat) => ts.foldl (fun m t => match m with
    | none => some t
    | some u => some (min u t)) none
  let samples := fun (p : AxisN → Bool) => (allAxes.filter fun a => s.cycling a && p a).map s.nextSample
  match id / 256 with
  | 1 =>
    let on := s.computes ⟨i % 4, by omega⟩
    let plans := allAxes.any fun a => on a && s.runs Dom.feed
    first (samples on ++ if plans then [s.nextTick 20000 18000] else [])
  | 3 => first (samples s.spansCrests)
  | 4 => if h : i < 48 then first (samples fun a => (s.legsOf a).contains ⟨i, h⟩) else none
  | 0x0A => some (s.nextTick 20000 0)
  | 0x0C => some (s.nextTick 400000 392000)
  | 0x0D => some (s.nextTick 400000 100000)
  | _ => none

/-- A slice of the block may start now (R453): at the earliest 10 µs after the tick, where its grants are published (Table 8.10);
the block is idle, its next service deadline lies further away than the slice is long, and the slice ends 20 µs before the next
arbiter tick. A crest is idle while no cycle waits for it. DEDUCED, log entries 46 and 93. -/
def State.sliceFits (s : State) (id : Nat) : Bool :=
  let n := sliceTicks id
  let idle : Bool := id / 256 != 1 ||
    allAxes.all fun a => !s.computes ⟨id % 4, by omega⟩ a || !s.cycling a || (s.axis a).field.cycle ≤ (s.axis a).field.executed
  4000 ≤ s.ref.time % 400000 && idle && ((s.serviceDeadline id).all fun d => n < d - s.ref.time) && s.ref.time + n + 8000 ≤ s.nextTick 400000 0

/-- SLICE_START (R453, R454): the engine starts a slice of the slot's chosen block at an instant at which it fits; in the
full-device test, of any. DEDUCED, log entry 93. -/
def execSliceStart (slot : TestSlot) (block : Nat) (s : State) : Outcome State Fault Refusal :=
  let e := s.engine
  let r := s.arbiter.reqs[slotReq slot]
  let granted : Bool := e.chosen[slotIx slot] == some block && r.code == .full && r.reason != .notRequesting
    && !e.started && s.eligible block && s.sliceFits block
  let full : Bool := e.fullTest && (slotBlocks slot).contains block
  if s.slices[slotIx slot].isSome || !(granted && s.engineOn || full && s.runs Dom.feed) then .next s
  else
    let s := { s.slicePeriod block with
      slices := s.slices.set (slotIx slot) (some block)
      engine := { e with started := true, lastBlock := block, chosen := e.chosen.set (slotIx slot) none } }
    .next (s.modBlock block fun b => { b with
      wait := 0, waiting := false
      cycleStart := if b.next = 0 && b.cycleStart.isNone then some s.ref.time else b.cycleStart
      clean := b.clean || b.next == 0
      lateLogged := b.lateLogged && !(b.next = 0 && b.cycleStart.isNone) })

/-- A leg is retired at once (Table 14.2, R87). DEDUCED, log entry 95. -/
def State.retireLeg (s : State) (l : LegN) : State :=
  let before := s
  let s := s.modLeg l fun L => { L.allOff with state := .retired, retireLatch := true, en := false }
  match s.axisOf l with
  | some a => s.checkPhases before a (some (l, .low))
  | none => s

/-- The consequence of a confirmed failure (R460, Table 14.2). DEDUCED, log entry 95. -/
def State.confirmedFailure (s : State) (id : Nat) : State :=
  let i := id % 256
  let crest := fun (s : State) => s.retireCrest ⟨i % 4, by omega⟩ false
  match id / 256 with
  | 1 => crest s
  | 2 =>
    let again : Bool := 0 < (s.block id).mappedOut
    let s := s.modBlock id fun b => { b with mappedOut := b.mappedOut + 1 }
    if again then crest s else s
  | 3 => match allCrests.reverse.find? fun c => s.crests[c].state != .retired with
    | some c => s.retireCrest c false
    | none => s
  | 4 => if h : i < 48 then
      let l : LegN := ⟨i, h⟩
      let s := s.modInput l fun x => { x with substituted := true, trim := 0 }
      match s.axisOf l with
      | some a => if s.phasesReadable a [] then s else s.currentImplausible a
      | none => s
    else s
  | 5 => if h : i < 16 then
      let d : SdN := ⟨i, h⟩
      if s.sds[d].stale then s else (s.modSd d fun d => { d with stale := true, holdOver := false }).event 0x2208 i
    else s.modBlock id fun b => { b with mappedOut := 1 }
  | 6 => if h : i < 48 then
      let f : ChanN := ⟨i, h⟩
      ((s.modChan f fun c => { c with state := .retired, retireLatch := true }).homeChannel f true true).cmpInvalidate
    else s.modBlock id fun b => { b with mappedOut := 1 }
  | 7 => if h : i < 48 then s.retireLeg ⟨i, h⟩ else s
  | 0x0B => if h : i < 32 then s.modUnit ⟨i, h⟩ fun u => { u with sourceInvalid := true } else s
  | 0x0F => if h : i < 2 then s.canRetire ⟨i, h⟩ else s
  | 0x10 =>
    let again : Bool := 0 < (s.block id).mappedOut
    let s := s.modBlock id fun b => { b with mappedOut := b.mappedOut + 1 }
    if again && s.domains[Dom.mem].state == .run then s.closeGate Dom.mem .reset true else s
  | _ => s

/-- The codes of a confirmed failure: announced where a unit is retired or an input substituted (R1, R114, R460).
DEDUCED, log entry 95. -/
def State.reportConfirmed (s : State) (id : Nat) : State :=
  if [1, 3, 4, 6, 7, 0x0F].contains (id / 256) then s.announce 0xA403 id else s.event 0xA403 id

/-- A block's slice ends well enough for the cycle to go on to the next slice; the last one completes the cycle (R450,
R455, R461). -/
def State.nextSlice (s : State) (id : Nat) : State :=
  let b := s.block id
  if b.next + 1 < s.slicesOf id then s.modBlock id fun b => { b with next := b.next + 1, repeating := false }
  else
    let ms := (s.ref.time - b.cycleStart.getD s.ref.time) / ticksPerMs
    let late : Bool := s.cfgN (O.testCycleTarget (id / 256)) * 1000 < ms
    let s := s.setObj (O.fullCycleLast (id / 256) (id % 256)) (min ms 0xFFFFFFFF : Nat)
    let s := if late && !b.lateLogged then s.event 0xA101 id else s
    let cleared : Bool := b.rerun && b.clean
    let s := s.modBlock id fun b => { b with
      next := 0, repeating := false, cycleStart := none, rerun := false, clean := true, late, lateLogged := false
      confirmed := b.confirmed && !cleared }
    if cleared && id / 256 == 0x0B then
      (if h : id % 256 < 32 then
        let u : UnitN := ⟨id % 256, h⟩
        if s.units[u].sourceInvalid && s.cmpValid u then s.cmpRearm u else s
       else s)
    else s

/-! ### Reinstating a crest (R34) -/

/-- The blocks of the full cycles that reinstate crest c, slice by slice: CREST_LOGIC, CREST_SRAM, CREST_LINK (R34). -/
def State.reinstateBlocks (s : State) (c : CrestN) : List Nat :=
  [0x0100 + c.val, 0x0200 + c.val, 0x0300].flatMap fun id => List.replicate (s.slicesOf id) id

/-- A full cycle of a block starts. -/
def State.startCycle (s : State) (id : Nat) : State :=
  s.modBlock id fun b => { b with
    next := 0, repeating := false, wait := 0, waiting := false, rerun := true, clean := true, lateLogged := false
    cycleStart := some s.ref.time }

/-- A slice of the reinstatement ends with its cairn (R454, R459). -/
def State.reinstateSlice (s : State) (x : SliceOutcome) : State :=
  let pass : Bool := x.countOk && x.signatureOk
  let s := s.modBlock x.block fun b => { b with
    result := if pass then .pass else .fail, slice := b.next, patterns := x.patterns % 0x10000 }
  if pass then s.nextSlice x.block else s.event 0xA202 x.block

/-- CREST_REINSTATED (R34 steps 2 to 4): the test engine has run the slices given, of full cycles of CREST_LOGIC and
CREST_SRAM of the crest and of CREST_LINK, back to back; with the last one passed the crest is ACTIVE, with the first that
fails it stays RETIRED and powered down. DEDUCED, log entry 135. -/
def execCrestReinstated (c : CrestN) (slices : List SliceOutcome) (s : State) : Outcome State Fault Refusal :=
  let all := s.reinstateBlocks c
  let good := slices.takeWhile fun x => x.countOk && x.signatureOk
  let passed : Bool := good.length == all.length
  let run := slices.take (good.length + 1)
  if !s.reinstating c || run.map (·.block) != all.take run.length || !(passed || good.length < run.length) then .next s
  else
    let s := s.each [0x0100 + c.val, 0x0200 + c.val, 0x0300] State.startCycle
    let s := s.each run State.reinstateSlice
    let s := s.modCrest c fun x => { x with reinstating := false }
    if passed then
      let s := s.modCrest c fun x => { x with state := .active, longest := 0, above := 0, atFloor := 0 }
      let s := s.modDomain (Dom.crest c) fun d => { d with state := .run, gate := .open, drain := [] }
      .next ((s.setObj (O.vcrestNow c) 800).event 0xC008 c).runQueue
    else
      let s := s.modDomain (Dom.crest c) fun d => { d with state := .off, gate := .closed, reason := .retired }
      .next (s.announce 0xC404 c)

/-! ### Cairns -/

/-- SLICE_COMPLETE (R454, R459, R460): the cairn is written, and count and signature judge the slice. -/
def execSliceComplete (block : Nat) (patterns : Nat) (countOk signatureOk : Bool) (s : State) :
    Outcome State Fault Refusal :=
  if !s.slices.any fun b => b == some block then .next s
  else
    let s := { s with slices := s.slices.map fun b => if b == some block then none else b }
    let pass : Bool := countOk && signatureOk
    let again := (s.block block).repeating
    let s := s.modBlock block fun b => { b with
      result := if pass then .pass else .fail, slice := b.next, patterns := patterns % 0x10000 }
    if pass then .next (s.nextSlice block)
    else if !again then .next ((s.modBlock block fun b => { b with repeating := true }).event 0xA202 block)
    else
      let s := (s.event 0xA202 block).reportConfirmed block
      let s := s.modBlock block fun b => { b with confirmed := true, clean := false }
      .next ((s.nextSlice block).confirmedFailure block)

/-- SLICE_ABORT (R456 to R459): an unplanned request for the block ends its slice without a cairn. -/
def execSliceAbort (block : Nat) (patterns : Nat) (s : State) : Outcome State Fault Refusal :=
  .next (s.abortBlock block patterns)

/-- SLICE_WAIT_EXPIRY (R455): the wait after a miss is over. -/
def execSliceWaitExpiry (block : Nat) (s : State) : Outcome State Fault Refusal :=
  .next (s.modBlock block fun b => { b with waiting := false })

/-- The present full cycle of a block has lasted longer than TEST_CYCLE_TARGET (R455). -/
def State.cyclePast (s : State) (id : Nat) : Bool :=
  (s.block id).cycleStart.any fun t => t + s.cfgN (O.testCycleTarget (id / 256)) * ticksPerS < s.ref.time

/-- CYCLE_LATE (R455): the present unfinished cycle exceeds TEST_CYCLE_TARGET; logged once per cycle. -/
def execCycleLate (block : Nat) (s : State) : Outcome State Fault Refusal :=
  if !s.cyclePast block || (s.block block).lateLogged || !s.runs Dom.feed then .next s
  else .next ((s.modBlock block fun b => { b with late := true, lateLogged := true }).event 0xA101 block)

/-- A write of TEST_RERUN (R461); a slice of the block that runs is aborted by it (R456). DEDUCED, log entry 93. -/
def State.testRerunAct (s : State) (v : Int) : Acted :=
  let id := v.toNat
  if s.cfgN O.lcState == 4 then (s, .refused, 0)
  else if (blockIx id).isNone then (s, .outOfRange, 0)
  else if !s.eligible id || s.power.bscan then s.lock
  else
    ((s.callBlock id).modBlock id fun b => { b with
    next := 0, repeating := false, wait := 0, waiting := false, rerun := true, clean := true, lateLogged := false
    cycleStart := some s.ref.time }).done
/-- TEST_RERUN (R461). -/
def execTestRerun (src : Src) (v : Int) (s : State) : Outcome State Fault Refusal :=
  .next (s.writeRow src O.testRerun v fun s => s.testRerunAct v)

/-- A write of TEST_ENABLE; 0 is logged, a running slice completes (Table 14.4). -/
def State.testEnableAct (s : State) (v : Int) : Acted :=
  let s := s.setObj O.testEnable v
  (if v = 0 then s.event 0xA004 noInstance else s).done
/-- TEST_ENABLE. -/
def execTestEnable (src : Src) (v : Int) (s : State) : Outcome State Fault Refusal :=
  .next (s.writeRow src O.testEnable v fun s => s.testEnableAct v)

/-- A write of TEST_CTRL: bit 0 starts the full-device test, in MAKER and RETURN only, with the axes DISABLED; every domain
is taken out of service (R462, R463). DEDUCED, log entry 96. -/
def State.testCtrlAct (s : State) (v : Int) : Acted :=
  let lc := s.cfgN O.lcState
  if lc != 0 && lc != 3 then (s, .refused, 0)
  else if v.toNat % 2 = 0 then s.done
  else if !s.allDisabled || s.power.bscan || s.engine.fullTest || s.power.closing.isSome then s.lock
  else
    let s := { s with engine := { s.engine with
      fullTest := true, started := false
      blocks := s.engine.blocks.map fun (b : TestBlock) => { b with
        next := 0, repeating := false, wait := 0, waiting := false, rerun := true, clean := true, lateLogged := false
        cycleStart := none } } }
    (s.each ((List.finRange 12).drop 1) fun s (d : DomainN) =>
      s.modDomain d fun D => if D.state == .run then { D with gate := .closed, reason := .reset } else D).done
/-- TEST_CTRL. -/
def execTestCtrl (src : Src) (v : Int) (s : State) : Outcome State Fault Refusal :=
  .next (s.writeRow src O.testCtrl v fun s => s.testCtrlAct v)

/-- FULL_DEVICE_TEST_END (R463): it ends with a restart of every domain except KEEP. -/
def execFullDeviceTestEnd (s : State) : Outcome State Fault Refusal :=
  .next (if s.engine.fullTest then s.closeAll (.restart 5) else s)

/-- SEN-P and SEN-L are removed from every leg (R463). -/
def State.noEnables (s : State) : Bool :=
  allAxes.all (fun a => !(s.axis a).safe.senP && !(s.axis a).safe.senL)
    && allLegs.all fun l => !(s.leg l).enP && !(s.leg l).enL

/-- A write of BSCAN_ENABLE (R462, R463). DEDUCED, log entry 96. -/
def State.bscanAct (s : State) (v : Int) : Acted :=
  let lc := s.cfgN O.lcState
  if lc != 0 && lc != 1 && lc != 3 then (s, .refused, 0)
  else if v = 0 then (if s.power.bscan && s.power.closing.isNone then s.closeAll (.restart 5) else s).done
  else if !s.allDisabled || !s.noEnables || s.power.closing.isSome then s.lock
  else (s.modPower fun p => { p with bscan := true }).done
/-- BSCAN_OPEN (R463). -/
def execBscanOpen (src : Src) (s : State) : Outcome State Fault Refusal :=
  .next (s.writeRow src O.bscanEnable 1 fun s => s.bscanAct 1)
/-- BSCAN_CLOSE (R463). -/
def execBscanClose (src : Src) (s : State) : Outcome State Fault Refusal :=
  .next (s.writeRow src O.bscanEnable 0 fun s => s.bscanAct 0)

end Sys2Proof.Machine
end

