-- ==== Sys2Proof/Machine/Arbiter.lean ====
section
/-! DEFINITION. The power arbiter (R286 to R297 of 08). -/

namespace Sys2Proof.Machine

open Host

/-- The requesters. -/
def allReqs : List (Fin 18) := List.finRange 18

/-- Update the arbiter. -/
def State.modArb (s : State) (f : Arbiter → Arbiter) : State := { s with arbiter := f s.arbiter }

/-! ### The budget (R286 to R288) -/

/-- B_src (R286). DEDUCED, log entry 46. -/
def State.budgetSource (s : State) : Rat :=
  if s.cfgN O.budgetSource == 0 || s.arbiter.fallback then s.cfgF O.budgetFallback else s.cfgF O.powerBudget

/-- The droop factor for the frequency f (R287). -/
def State.droopFactor (s : State) (f : Rat) : Rat :=
  let x := (s.cfgF O.freqNom - s.cfgF O.freqDeadband - f) / s.cfgF O.freqSpan
  1 - (1 - (s.cfgN O.freqMinFactor : Rat) / 1000) * min 1 (max 0 x)

/-- k_f at this tick: 1 with FREQ_SOURCE 0 and before the first write, held while stale (R287). -/
def State.kfNow (s : State) : Rat :=
  if s.cfgN O.freqSource == 0 || !s.arbiter.freqWritten then 1
  else if s.arbiter.freqStale then s.arbiter.kf
  else s.droopFactor (s.cfgF O.shipFreq)

/-- B_eff from the last one and B_src × k_f: a fall acts at once, a rise at BUDGET_RISE (R288).
DESIGN CHOICE, log entry 47. -/
def State.budgetNow (s : State) (b : Rat) : Rat :=
  let rise := s.cfgF O.budgetRise
  if b ≤ s.arbiter.budget || rise = 0 then b else min b (s.arbiter.budget + rise / 1000)

/-- Sample the budget and the frequency (R286 to R288). -/
def State.sampleBudget (s : State) : State :=
  let kf := s.kfNow
  let b := s.budgetSource * kf
  let eff := s.budgetNow b
  let droop : Bool := kf < 1
  let was := s.arbiter.droop
  let s := s.modArb fun A => { A with kf, budget := eff, droop, riseLimited := eff < b }
  if droop && !was then s.event 0xB104 noInstance else s

/-- A restoring write counts from the tick that takes it (Table 8.10). DEDUCED, log entry 46. -/
def State.takeRestores (s : State) : State :=
  let s := if s.arbiter.budgetNew && (storeGet s.staged O.powerBudget).isNone then
      s.modArb fun A => { A with budgetNew := false, fallback := false }
    else s
  if s.arbiter.freqNew && (storeGet s.staged O.shipFreq).isNone then
    s.modArb fun A => { A with freqNew := false, freqStale := false, freqWritten := true }
  else s

/-! ### Requests (Table 8.9) -/

/-- The mean drawn power of axis a over the cycles since the last tick, W: 0 where none was executed (Table 8.9). -/
def State.drawnMean (s : State) (a : AxisN) : Rat :=
  let f := (s.axis a).field
  if f.drawnCycles = 0 then 0 else f.drawnSum / f.drawnCycles

/-- The state of axis a 20 µs before this tick (Table 8.10 step 1). -/
def State.sampledState (s : State) (a : AxisN) : AxisState :=
  let f := (s.axis a).field
  if s.ref.time < f.stateAt + 8000 then f.stateBefore else f.state
/-- HOLDING of a stepper axis 20 µs before this tick (Table 8.10 step 1). -/
def State.sampledHolding (s : State) (a : AxisN) : Bool :=
  let x := (s.axis a).step
  if s.ref.time < x.holdingAt + 8000 then !x.holding else x.holding

/-- The class and demand of requester r as sampled for this tick; none = no demand. -/
def State.request (s : State) (r : Fin 18) : Option (PowerClass × Rat) :=
  let keep := fun (c : PowerClass) (d : Rat) => if 0 < d then some (c, d) else none
  match axisNum r.val with
  | none => if (s.dueBlocks (r.val == 17)).isEmpty then none else some (.aux, 6 / 5)
  | some a =>
    match s.sampledState a with
    | .stopping => keep .stop (s.drawnMean a)
    | .running =>
      if s.isStepper a then
        let p := s.cfgF (O.stepPower a)
        let h := s.holdRatio a
        if s.sampledHolding a then keep .hold (p * h * h) else keep .aux p
      else
        let q := s.cfgF (O.powerRequest a)
        keep (if s.cfgN (O.powerClass a) == 1 then .hold else .work) (if 0 < q then q else s.cfgF (O.powerRated a))
    | .disabled | .ready | .holdAsc | .fault | .safeOff | .lockedOut => none

/-! ### Dividing one class (R290, R291) -/

/-- The requesters of a class from the rotating pointer on, wrapping after 17. -/
def fromPointer (pointer : Nat) (rs : List (Fin 18)) : List (Fin 18) :=
  (rs.filter fun r => pointer ≤ r.val) ++ rs.filter fun r => r.val < pointer

/-- Leftover quanta, one each in order, none beyond a demand: the requesters that receive one (R291).
DEDUCED, log entry 48. -/
def leftoverTo (quantum : Rat) (demand power : Fin 18 → Rat) : Nat → List (Fin 18) → List (Fin 18)
  | 0, _ => []
  | _, [] => []
  | n + 1, r :: rs =>
    if power r + quantum ≤ demand r then r :: leftoverTo quantum demand power n rs
    else leftoverTo quantum demand power (n + 1) rs

/-- What a division of one class answers: the grant of each, who lost a tie, and the pointer. -/
structure Division where
  power : Fin 18 → Rat
  tie : List (Fin 18)
  pointer : Nat

/-- The class where the budget runs out: scaled, rounded down to whole quanta, the leftover quanta from the pointer on.
DEDUCED, log entry 48. -/
def divideScaled (left quantum : Rat) (pointer : Nat) (rs : List (Fin 18)) (demand : Fin 18 → Rat) : Division :=
  let total := rs.foldl (fun t r => t + demand r) 0
  let base := fun r => ((left / total * demand r) / quantum).floor * quantum
  let spent := rs.foldl (fun t r => t + base r) 0
  let n := ((left - spent) / quantum).floor.toNat
  let got := leftoverTo quantum demand base n (fromPointer pointer rs)
  { power := fun r => if got.contains r then base r + quantum else base r
    -- where quanta remain that nobody may take, only one that is scaled to nothing has lost (R291)
    tie := if n = 0 then [] else rs.filter fun r => !got.contains r && (n ≤ got.length || base r = 0)
    pointer := match got.getLast? with
      | some r => (r.val + 1) % 18
      | none => pointer }

/-- One class after another (R290): what is left, the grants so far, the class where the budget ran out, ties and pointer. -/
structure Dividing where
  left : Rat
  grants : List (Fin 18 × Rat) := []
  scaled : List (Fin 18) := []
  tie : List (Fin 18) := []
  pointer : Nat

/-- Serve one class below STOP. -/
def Dividing.serve (d : Dividing) (quantum : Rat) (rs : List (Fin 18)) (demand : Fin 18 → Rat) : Dividing :=
  let total := rs.foldl (fun t r => t + demand r) 0
  if rs.isEmpty then d
  else if total ≤ d.left then { d with left := d.left - total, grants := d.grants ++ rs.map fun r => (r, demand r) }
  else
    let x := divideScaled d.left quantum d.pointer rs demand
    { left := 0, grants := d.grants ++ rs.map fun r => (r, x.power r), scaled := d.scaled ++ rs, tie := d.tie ++ x.tie
      pointer := x.pointer }

/-! ### Publishing the grants (R292, R296, R297) -/

/-- DEFER_LIMIT of a class, in ticks. -/
def State.deferLimit (s : State) (c : PowerClass) : Nat :=
  ticksPerMs * match c with
  | .hold => s.cfgN O.deferLimitHold
  | .stop | .work => s.cfgN O.deferLimitWork
  | .aux => s.cfgN O.deferLimitAux

/-- The sampling instant of this tick's requests (Table 8.10 step 1). -/
def State.sampleTick (s : State) : Nat := s.ref.time - 8000

/-- Requester r without a demand (R289); a refused axis that is still RUNNING keeps its answer until it starts again
(R292). -/
def State.grantNone (s : State) (r : Fin 18) (refused : Bool) : State :=
  if refused then s.modReq r fun x => { x with queuedAt := none, tieLost := false, power := 0 }
  else s.modReq r fun x => { code := .full, reason := .notRequesting, refused := x.refused }

/-- Defer requester r (R292, R297): it enters the queue, or is refused once its limit is over. -/
def State.deferReq (s : State) (r : Fin 18) (c : PowerClass) (demand : Rat) (tie : Bool) : State :=
  let since := s.arbiter.reqs[r].queuedAt
  let s := if since.isNone then s.event 0xB006 r.val else s
  let t := since.getD s.ref.time
  if s.deferLimit c ≤ s.ref.time - t then
    let s := (s.modReq r fun _ => { code := .refused, cls := c, reason := .deferExpired, demand
                                    refused := r.val < 16, sampledAt := s.sampleTick }).event 0xB107 r.val
    match axisNum r.val with
    | some a => if s.isStepper a || (s.axis a).field.state != .running then s else s.enter a .stopping
    | none => s
  else
    s.modReq r fun x => { code := .deferred, tieLost := tie, cls := c, reason := .budget, demand
                          queuedAt := some t, refused := x.refused, sampledAt := s.sampleTick }

/-- Publish the grant of requester r: FULL where its class was covered, SCALED in the class where the budget ran out (R290). -/
def State.publish (s : State) (d : Dividing) (r : Fin 18) (c : PowerClass) (demand : Rat) : State :=
  let g := ((d.grants.find? fun p => p.1 == r).map (·.2)).getD 0
  let tie := d.tie.contains r
  let scaled := d.scaled.contains r
  if g = 0 then s.deferReq r c demand tie
  else s.modReq r fun x => {
    code := if scaled then .scaled else .full, tieLost := tie, cls := c, reason := if scaled then .budget else .none
    power := g, demand, refused := x.refused, sampledAt := s.sampleTick }

/-- At most one new slice start per tick (R296): of two slots granted FULL, the one first in the pointer's order keeps its
grant; a slot whose slice still runs cannot start. DEDUCED, log entry 48. -/
def State.limitSlices (s : State) (pointer : Nat) : State :=
  let full := fun (r : Fin 18) => s.arbiter.reqs[r].code == .full && s.arbiter.reqs[r].reason == .none
  let order := fromPointer pointer [16, 17]
  let able := order.filter fun r => full r && s.slices[slotIx (r.val == 17)].isNone
  s.each [(16 : Fin 18), 17] fun s r =>
    if full r && able.head? != some r then
      s.modReq r fun x => { x with code := .deferred, reason := .sliceLimit, power := 0 }
    else s

/-- Divide the budget among the requests (R290 to R292, R296, R297). -/
def State.divide (s : State) (reqs : List (Fin 18 × PowerClass × Rat)) : State :=
  let demand := fun (r : Fin 18) => ((reqs.find? fun p => p.1 == r).map (·.2.2)).getD 0
  let of_ := fun (c : PowerClass) => (reqs.filter fun p => p.2.1 == c).map (·.1)
  let stop := (of_ .stop).foldl (fun t r => t + demand r) 0
  let q : Rat := s.cfgN O.powerQuantum
  let d0 : Dividing := { left := max 0 (s.arbiter.budget - stop), pointer := s.arbiter.pointer
                         grants := (of_ .stop).map fun r => (r, demand r) }
  let d := ((d0.serve q (of_ .hold) demand).serve q (of_ .work) demand).serve q (of_ .aux) demand
  let past : Bool := s.arbiter.budget < stop
  let was := s.arbiter.stopOver
  let first := s.arbiter.pointer
  let s := s.modArb fun A => { A with pointer := d.pointer, stopOver := past, stopDemand := stop }
  let s := if past && !was then s.event 0xB105 noInstance else s
  let queued := s.arbiter.reqs
  let s := s.each reqs fun s (r, c, w) => s.publish d r c w
  let s := s.limitSlices first
  -- a slot held back by the limit keeps the queue place it had, or none (R292)
  s.each [(16 : Fin 18), 17] fun s r =>
    if s.arbiter.reqs[r].reason == .sliceLimit then s.modReq r fun x => { x with queuedAt := queued[r].queuedAt } else s

/-- Each slot chooses its block; a block chosen before whose slice has not started waits (R452, R455). -/
def State.chooseBlocks (s : State) : State :=
  let s := s.each s.engine.chosen.toList fun s b => match b with
    | some id => s.missSlice id
    | none => s
  { s with engine := { s.engine with
    started := false
    chosen := #v[s.chooseBlock false, s.chooseBlock true] } }

/-- ARBITER_TICK (R286 to R297, R452). Values written less than 20 µs before the tick count at the next one
(Table 8.10). -/
def execArbiterTick (s : State) : Outcome State Fault Refusal :=
  if !s.runs Dom.feed || s.ref.time % 400000 ≠ 0 then .next s
  else
    let old := (s.stagedAt.filter fun p => p.2.toNat + 8000 ≤ s.ref.time).map (·.1)
    let s := s.applyStaged fun a => old.contains a && (match cardOf a with
      | some c => c.effect == .nextArbiter
      | none => false)
    let s := s.takeRestores.sampleBudget.chooseBlocks
    let all := allReqs.map fun r => (r, s.request r)
    let s := s.each allAxes fun s a => s.modField a fun f => { f with drawnSum := 0, drawnCycles := 0 }
    let kept := fun (r : Fin 18) (q : Option (PowerClass × Rat)) =>
      r.val < 16 && s.arbiter.reqs[r].refused && (match q with
        | some (c, _) => c != .stop
        | none => false)
    let s' := s.each all fun s (r, q) =>
      if q.isNone || kept r q then s.grantNone r (kept r q) else s
    .next (s'.divide (all.filterMap fun (r, q) => if kept r q then none else q.map fun (c, w) => (r, c, w)))

/-- A write of POWER_BUDGET: the first one after a timeout or start restores the source (R286). DEDUCED, log entry 46. -/
def State.budgetWritten (s : State) : State :=
  let was := s.arbiter.fallback && !s.arbiter.budgetNew
  let s := s.modArb fun A => { A with budgetNew := true }
  if was && s.val O.budgetSource == 1 then s.event 0xB002 noInstance else s

/-- A write of SHIP_FREQ ends FREQ_STALE (R287). -/
def State.freqWrote (s : State) : State := s.modArb fun A => { A with freqNew := true }

/-- BUDGET_FALLBACK (R286): POWER_BUDGET has not been written for BUDGET_TIMEOUT. -/
def execBudgetFallback (s : State) : Outcome State Fault Refusal :=
  if !s.runs Dom.feed || s.cfgN O.budgetSource == 0 || s.cfgN O.budgetTimeout == 0 || s.arbiter.fallback then .next s
  else .next ((s.modArb fun A => { A with fallback := true }).event 0xB101 noInstance)

/-- FREQ_STALE (R287): SHIP_FREQ has not been written for FREQ_TIMEOUT. -/
def execFreqStale (s : State) : Outcome State Fault Refusal :=
  if !s.runs Dom.feed || s.cfgN O.freqSource == 0 || s.arbiter.freqStale then .next s
  else .next ((s.modArb fun A => { A with freqStale := true }).event 0xB103 noInstance)

end Sys2Proof.Machine
end

