-- ==== Sys2Proof/Machine/Cycle.lean ====
section
/-! DEFINITION. The cycle of an axis: the sample instant, the commit of the axis loop, the update point, a missed
deadline (01, with R90 to R114 of 03, R120 of 04 and R160 to R199 of 05). -/

namespace Sys2Proof.Machine

open Host

/-- The crest that computes axis a. -/
def State.crestOf (s : State) (a : AxisN) : CrestN := (s.axis a).field.crest

/-! ### The sample instant (R39, R90, R97, R103, R120) -/

/-- The snapshot of axis a's channel is latched: whether FEED answered the request, and the snapshot with its check as it
reaches the crest (R120, R122). -/
def State.latchSnapshot (s : State) (a : AxisN) (x : SampleIn) : State × Bool × Snapshot :=
  match s.channelOf a with
  | none => (s, true, {})
  | some f =>
    if s.fbTypeOf f == 0 then (s, true, {})
    else if !s.runs Dom.feed then (s, false, {})
    else
      let (s, snap) := s.takeSnapshot f x
      (s, true, { snap with checks := flipFirst x.snapshotFlip snap.checks })

/-- The set-point token of a cycle (R35): profile position, before HOME_OFFSET_NOW (R265), and velocity; for a stepper the position at
the middle of the interval that the commit governs (R208). -/
def State.setPointToken (s : State) (a : AxisN) (offset : Int) : SetPoint :=
  let p := (s.axis a).prof
  let pos := if s.isStepper a then p.ahead (s.midTicks a - offset).toNat else p.p
  let t : SetPoint := { pos := wrapP (pos - p.homeOffset * unit96), vel := p.v }
  { t with checks := t.sum }

/-- What the surroundings have delivered by the sample instant: sigma-delta outputs and the VBS readings of any leg, which are
digitised whether its axis runs cycles or not (R61, R94). DEDUCED, log entry 133. -/
def State.takeReadings (s : State) (x : SampleIn) : State :=
  let s := s.each x.sd fun s v => if s.sds[v.input].stale then s else s.sdTake v
  s.each x.vbs fun s (l, mv) => s.setObj (O.vbsNow l) mv

/-- The inputs of axis a that a sample instant latches: a stepper's are latched at its chopper's ticks (R90, R210). -/
def State.sampledLegs (s : State) (a : AxisN) : List LegN := if s.isStepper a then [] else s.legsOf a

/-- The ripple of each leg at an instant, in ticks from the nominal one at phase x (R110). -/
def State.rippleOf (s : State) (a : AxisN) (x offset : Int) : List (LegN × Rat) :=
  if !s.fieldActive a then []
  else (s.sampledLegs a).map fun l =>
    let (before, after) := s.setsAround a l
    (l, s.rippleAt a l (if offset < 0 then before else after) (x + 16 * offset))

/-- SAMPLE_INSTANT (R35, R39, R90, R94, R97, R99, R103, R120, R162): a new cycle of the axis begins in the buffers that the
cycle before does not use. -/
def execSampleInstant (a : AxisN) (x : SampleIn) (s : State) : Outcome State Fault Refusal :=
  let s := s.takeReadings x
  if !s.cycling a then .next s
  else
    let f := (s.axis a).field
    let k := f.cycle + 1
    let double : Bool := s.cfgN (O.updateMode a) == 1
    let peak := double && f.peakNext
    let search : Bool := s.saddleMode a != .fixed && f.catching.phase != .precharge
    let (offset, valid, gap) := s.sampleAt a search (s.fieldActive a) peak
    let ripple := s.rippleOf a (if peak then s.period16 a / 2 else 0) offset
    let samples := (s.sampledLegs a).zip x.conversions
    let setPoint := s.setPointToken a offset
    let (s, answered, snapshot) := s.latchSnapshot a x
    let c : Cycle := {
      number := k, sampledAt := s.ref.time, offset, peak, answered, snapshot, samples, ripple, setPoint, valid, gap
      grant := s.requester a }
    let s := s.modField a fun f => { f with
      cycle := k, cycles := f.cycles.set (k % 2) c, peakNext := double && !f.peakNext }
    .next (s.modStep a fun p => { p with tableSeen := p.tablePending })

/-! ### The commit: what the crest takes (R32, R122, R150) -/

/-- The snapshot of a cycle as the crest uses it: bridged for one cycle where its check fails or FEED gave none; the second
consecutive failed check is a fault of the channel (R122, R150, Table 1.9 kind 0x03). -/
def State.useSnapshot (s : State) (a : AxisN) (c : Cycle) (dt : Rat) : State :=
  match s.channelOf a with
  | none => s
  | some f =>
    if s.fbTypeOf f == 0 then s
    else if c.answered && c.snapshot.checks == c.snapshot.sum then
      (s.modChan f fun c => { c with snapFails := 0 }).modField a fun fl => { fl with
        snapshot := c.snapshot, snapBad := if c.snapshot.valid then 0 else fl.snapBad + 1 }
    else
      let was := (s.axis a).field.snapshot
      let q : Rat := (was.position : Rat) + (was.fraction : Rat) / 65536 + was.speed * dt
      let s := s.modField a fun fl => { fl with
        snapBad := fl.snapBad + 1
        snapshot := { was with
          position := wrap32 q.floor, fraction := ((q - q.floor) * 65536).floor.toNat, valid := false } }
      if !c.answered then s
      else
        let s := s.checkFail 3 f.val
        let n := s.channels[f].snapFails + 1
        let s := s.modChan f fun c => { c with snapFails := n }
        if n == 2 then s.fbFault f .snapshotFailed else s

/-- The set-point of a cycle as the crest uses it: one that fails its check is counted against the crest, and the previous one
goes on at its velocity (Table 1.9 kind 0x04). DEDUCED, log entry 25. -/
def State.useSetPoint (s : State) (a : AxisN) (last p : SetPoint) (flip : BitVec 8) : State × SetPoint :=
  if flipFirst flip p.checks == p.sum then (s, p)
  else
    let c := s.crestOf a
    (s.checkFail 4 c.val (some c), { last with pos := wrapP (last.pos + last.vel * s.cycleTicks a) })

/-- The current samples of a cycle: used where the instant was valid and they suffice, else predicted from the working state w
(R97, R100, R101, R106, R112). -/
def State.commitSample (s : State) (a : AxisN) (c : Cycle) (w : Loop) (dt : Rat) : State :=
  let s := s.takeSamples a c.samples
  let s := s.modSaddle a fun d => { d with gap := c.gap }
  let s := s.each (s.legsOf a) fun s l => s.modInput l fun i => { i with validLast := c.valid }
  let bad := (s.legsOf a).filter fun l => s.inputs[l].satLast
  let whole := (s.legsOf a).all fun l => c.samples.any fun x => x.1 == l && convOk x.2
  if c.valid && whole && s.phasesReadable a bad then s.validSample a bad c.ripple
  else s.predictSample a (s.predictCurrents a w dt)

/-! ### The commit: encoder and observer (R179 to R182, R192) -/

/-- The encoder in use is lost: ride-through, or 0x4205, which is logged in a held reaction too (R181, R199). -/
def State.commitEncoder (s : State) (a : AxisN) : State :=
  let f := (s.axis a).field
  let used : Bool := f.angleSource == .channel && (s.channelOf a).isSome && (s.driving a || (s.axis a).reaction.held)
  let lost : Bool := !s.axisChanValid a || 2 ≤ f.snapBad
  if !lost then s.modField a fun f => { f with encLost := false }
  else if !used || f.encLost then s
  else
    let s := s.modField a fun f => { f with encLost := true }
    if s.cfgN (O.rideThrough a) == 1 && f.obsHealthy then
      (s.modField a fun f => { f with
        angleSource := .rideThrough, rideCause := some .loss, angleSince := none, speedSince := none }).event 0x4104 a
    else (s.event 0x4205 a).otherCause a none

/-- Since when a condition holds: a reference tick, or none where it does not. -/
def State.since (s : State) (now : Bool) (t : Option Nat) : Option Nat := if now then some (t.getD s.ref.time) else none

/-- Channel and observer are compared: their difference beyond the tolerance of R180, and for R182 their agreement in angle, or
in speed within 1 %. On an induction axis the speeds are compared throughout. DEDUCED, log entry 134. -/
def State.trackEncoder (s : State) (a : AxisN) : State :=
  let f := (s.axis a).field
  let ind : Bool := s.axisType a == 3
  let both : Bool := s.axisChanValid a && f.obsHealthy
  let apart := turnDiff (f.obs.angle - s.chanAngle a)
  let dv := qabs (f.snapshot.speed - f.obs.speed)
  let far : Bool := if ind then s.cfgN (O.speedRated a) < 20 * dv else s.cfgN (O.encCheckAngle a) < 360 * qabs apart
  let agree : Bool := 100 * dv ≤ qabs f.obs.speed
  s.modField a fun f => { f with
    apart
    apartSince := s.since (both && far) f.apartSince
    angleSince := s.since (both && !far) f.angleSince
    speedSince := s.since (both && agree) f.speedSince }

/-- The source of the angle changes hands (R179, R192): only a healthy observer supplies it, and without one the axis runs in
current-frequency mode, from which a ride-through returns to ride-through. DEDUCED, log entry 29. -/
def State.commitSource (s : State) (a : AxisN) : State :=
  let f := (s.axis a).field
  let src : AngleSource := match f.angleSource with
    | .currentFrequency =>
      if !f.obsHealthy then .currentFrequency else if f.rideCause.isSome then .rideThrough else .observer
    | .observer => if f.obsHealthy then .observer else .currentFrequency
    | .rideThrough => if f.obsHealthy then .rideThrough else .currentFrequency
    | .channel => .channel
  if s.driving a then s.modField a fun f => { f with angleSource := src } else s

/-- Overspeed, and the end of an overspeed's hold, by the electrical frequency in Hz (R172, R513). DEDUCED, log entry 26. -/
def State.commitOverspeed (s : State) (a : AxisN) (fe : Rat) : State :=
  let lim := s.cfgF (O.fElecMax a)
  let run := if 11 * lim < 10 * fe then min ((s.axis a).field.overspeedRun + 1) 9 else 0
  let s := s.modField a fun f => { f with overspeedRun := run }
  let s := s.modReact a fun r =>
    let n := if fe ≤ lim then min (r.slow + 1) 8 else 0
    { r with slow := n, causes := if n == 8 then r.causes.filter (· != .overspeed) else r.causes }
  if run == 8 then (s.event 0x4208 a).otherCause a (some .overspeed) else s

/-- The modelled rotor flux and the slip angle of an induction axis, updated in every cycle whatever its state, and the end of
magnetising at 0.9 ψr* (R173, R174, R175). DESIGN CHOICE, log entry 12. -/
def State.commitFlux (s : State) (a : AxisN) (w : Loop) (i : Vec) (dt : Rat) : State :=
  if s.axisType a != 3 then s
  else
    let m := s.motor a
    let slip := s.slipHz a i.2
    let s := s.modField a fun f => { f with
      psiR := Config.rotorFlux f.psiR (m.lm * i.1) m.tauR dt
      slipAngle := frac1 (Config.integrate f.slipAngle slip dt) }
    let f := (s.axis a).field
    if f.catching.phase == .magnetising && 9 * (m.lm * (s.cfgF (O.idMag a) + w.fieldCut)) ≤ 10 * f.psiR then s.catchRelease a
    else s

/-! ### The commit: field control (R163 to R176, R187, R190) -/

/-- The sweep of SEARCH goes on by a cycle (R190): the rotor is found where the voltage in phase with the current falls to within
10 % above RS × SEARCH_CURRENT; after both sweeps the motor stands. -/
def State.commitSweep (s : State) (a : AxisN) (was now dt : Rat) : State :=
  let c := (s.axis a).field.catching
  let m := s.motor a
  let near := 11 / 10 * m.rs * s.cfgF (O.searchCurrent a)
  let hz := c.sweepHz - s.cfgF (O.searchRate a) * dt
  let sense : Rat := if c.sweepReverse then -1 else 1
  if !c.sweeping || c.found.isSome then s
  else s.modField a fun f => { f with catching :=
    let c := { c with sweepAngle := frac1 (c.sweepAngle + sense * c.sweepHz * dt), sweepHz := max 0 hz }
    if near < was && now ≤ near then { c with found := some (sense * f.catching.sweepHz / m.turnsPerCount) }
    else if 0 < hz then c
    else if c.sweepAgain then { c with found := some 0 }
    else { c with sweepAgain := true, sweepReverse := !c.sweepReverse, sweepHz := s.cfgF (O.fElecMax a) } }

/-- The induced-voltage window takes a cycle (R187): whether its conditions have held so far, and the observer's ψ. -/
def State.commitKe (s : State) (a : AxisN) (e : Vec) : State :=
  let lim := s.cfgF (O.iRated a) / 20
  let ok : Bool := decide ((s.cfgN (O.speedRated a) : Rat) < 5 * s.absSpeed a) && qabs e.1 < lim && qabs e.2 < lim
  s.modField a fun f => { f with
    keWhole := f.keWhole && ok && f.obsHealthy, keSum := f.keSum + f.obs.psi, keCycles := f.keCycles + 1 }

/-- The working state while the gates do not switch under the current loop: what is measured goes on, all else starts afresh. -/
def State.idleLoop (s : State) (a : AxisN) (w : Loop) : State × Loop :=
  let s := s.modField a fun f => { f with
    idRef := 0, iqRef := 0, fieldWeakening := false, voltLimit := false, curLimit := false, powerLimit := false
    torque := 0, power := 0, drawnCycles := f.drawnCycles + 1, keWhole := false }
  let s := s.modSaddle a fun d => { d with depth := 0, limitActive := false }
  (s, { theta := w.theta, idq := w.idq, setPoint := w.setPoint })

/-- The speed loop acts: in speed and position mode and in STOPPING, outside current-frequency mode and a running catch (R176, R192,
R194, R197). -/
def State.speedLoopOn (s : State) (a : AxisN) : Bool :=
  let f := (s.axis a).field
  (s.cfgN (O.controlMode a) != 0 || f.state == .stopping) && f.angleSource != .currentFrequency && f.catching.phase == .none

/-- Field control of a cycle: torque into current, the limits, the current loop and the duties (R163 to R176). `w` holds the angle
and the currents of the cycle. It gives the phase duties and the working state. -/
def State.fieldLoop (s : State) (a : AxisN) (w : Loop) (c : Cycle) (dt : Rat) : State × Loop × Tri :=
  let f := (s.axis a).field
  let m := s.motor a
  let (torque, int) := s.speedLoop a w w.setPoint dt
  let loopOn := s.speedLoopOn a
  let r := s.references a w (s.torqueDemand a torque) dt
  let ((id, iq), ramp) := s.rampRefs a w r.id r.iq dt
  let hz := s.frameHz a w.setPoint w.idq.2
  let psi := if m.induction then f.psiR else m.psi
  let (v, vInt) := s.currentLoop a w (id, iq) w.idq hz psi dt
  let applied := vecWithin v (s.vLimSq a)
  let uv := unpark (w.theta + hz * s.midDelay a c) v
  let depth := s.depthOf a (s.modulate a uv)
  let drawn := 3 / 2 * (applied.1 * w.idq.1 + applied.2 * w.idq.2)
  let s := s.commitSweep a w.vdq.1 v.1 dt
  let s := if r.volt && !f.fwReported then (s.modField a fun f => { f with fwReported := true }).event 0x410C a else s
  let s := s.modField a fun f => { f with
    idRef := id, iqRef := iq, fieldWeakening := r.weak, voltLimit := r.volt, curLimit := r.cur, powerLimit := r.power
    torque := m.torque f.psiR w.idq, power := drawn, drawnSum := f.drawnSum + drawn, drawnCycles := f.drawnCycles + 1 }
  let s := s.modSaddle a fun d => { d with
    depth, limitActive := s.saddleMode a != .fixed && decide ((s.depthLimit a : Rat) < depth) }
  let s := if s.isPM a then s.commitKe a (id - w.idq.1, iq - w.idq.2) else s
  (s, { w with vInt, speedInt := if loopOn then int else w.speedInt, fieldCut := r.cut.1, iqCut := r.cut.2, vdq := v, ramp },
    s.phaseDuties a uv w.carry)

/-! ### The commit: what it hands on -/

/-- A resumption that waits for a catchable motor (R185). DEDUCED, log entry 19. -/
def State.commitResume (s : State) (a : AxisN) : State :=
  let r := (s.axis a).reaction
  let f := (s.axis a).field
  if r.resumePending && !r.held && (f.state == .holdAsc || f.state == .fault) && !f.catching.running && s.catchable a
      && !(s.axis a).safe.p.ss1Run then
    ((s.modField a fun f => { f with recovering := true }).modReact a fun r =>
      { r with resumePending := false }).startCatch a r.resumeStopping
  else s

/-- VOLTAGE takes the vector of a cycle, once the group delay of the inputs has passed (R190). -/
def State.commitVolts (s : State) (a : AxisN) : State :=
  let c := (s.axis a).field.catching
  match c.method, c.phase, s.voltVector a with
  | some .voltage, .measuring, some v =>
    if c.running && c.angleAt ≤ v.1 && c.volts.all fun u => u.1 < v.1 then
      s.modField a fun f => { f with catching := { f.catching with volts := v :: f.catching.volts } }
    else s
  | _, _, _ => s

/-- A flying start goes on: the first cycle selects the method, VOLTAGE measures, braking ends at CATCH_LIMIT
(R189, R190, R194). -/
def State.commitCatch (s : State) (a : AxisN) : State :=
  let c := (s.axis a).field.catching
  if c.running && c.method.isNone then s.catchSelect a
  else if c.phase == .braking && !s.mustBrake a then s.catchRelease a
  else s.commitVolts a

/-- A HOLD axis near standstill whose grant is not FULL stops at once (R294). -/
def State.commitHold (s : State) (a : AxisN) : State :=
  let r := (s.axis a).field.grant
  if !s.isStepper a && (s.axis a).field.state == .running && s.cfgN (O.powerClass a) == 1 && r.code != .full
      && s.absSpeed a < (s.cfgN (O.stopSpeed a) : Rat) then
    (s.event 0xB108 a).enter a .stopping
  else s

/-- What a stop and the stall phase of a homing wait for is watched from execution to execution (R196, R263).
DEDUCED, log entry 143. -/
def State.watchSlow (s : State) (a : AxisN) : State :=
  let f := (s.axis a).field
  let h := (s.axis a).home
  let since := fun (low : Bool) (t : Option Nat) => if low then some (t.getD s.ref.time) else none
  let stop : Bool := f.state == .stopping && s.absSpeed a < (s.cfgN (O.stopSpeed a) : Rat)
  let stall : Bool := h.state == .running && f.curLimit && 10 * s.absSpeed a < (h.cfg.speed : Rat)
  (s.modField a fun f => { f with slowSince := since stop f.slowSince }).modHome a fun h => { h with
    slowSince := since stall h.slowSince }

/-- The end of every execution: the catch, the flag ABOVE_ASC, a resumption and the speeds that are waited for (R74, R185, R189). -/
def State.commitEnd (s : State) (a : AxisN) : State :=
  let s := s.commitCatch a
  let s := if s.isStepper a then s else s.commitHold a
  (((s.writeAboveAsc a (s.axis a).field.speed).followFlag a).commitResume a).watchSlow a

/-- The execution for a PM or induction axis: cycle k with its buffer c, from the working state w, for a set-point. -/
def State.commitField (s : State) (a : AxisN) (k : Nat) (c : Cycle) (w : Loop) (p : SetPoint) : State :=
  let dt : Rat := (s.cycleTicks a : Rat) / ticksPerS
  let s := s.commitSample a c w dt
  let s := ((s.runObserver a dt).commitSpeed a).judgeObserver a
  let s := ((s.commitEncoder a).trackEncoder a).commitSource a
  let θ := s.controlAngle a w p dt
  let s := s.modField a fun f => { f with blend := f.blend - 1 }
  let i := park θ (clarke (s.axis a).saddle.phase)
  let s := s.commitFlux a w i dt
  let slip := if s.axisType a == 3 then s.slipHz a i.2 else 0
  let s := s.commitOverspeed a (qabs ((s.axis a).field.speed * (s.motor a).turnsPerCount + slip))
  let s := s.shareCommit a w p dt
  let w := { w with theta := θ, idq := i, setPoint := p }
  let (s, w, d) : State × Loop × Tri :=
    if s.fieldActive a then s.fieldLoop a w c dt
    else
      let (s, w) := s.idleLoop a w
      (s, w, (1 / 2, 1 / 2, 1 / 2))
  let s := (s.commitEnd a).writeShadows a k d
  let carry := if s.fieldActive a then triOf (s.droppedVolts a k) else (0, 0, 0)
  s.modField a fun f => { f with work := f.work.set (k % 2) { w with carry } }

/-- The execution for a stepper axis (R208, R217). -/
def State.commitStepper (s : State) (a : AxisN) (k : Nat) (p : SetPoint) (tableFlip : BitVec 8) : State :=
  let s := ((s.stepCommit a p tableFlip).commitEnd a).writeShadows a k (0, 0, 0)
  s.modField a fun f => { f with work := f.work.set (k % 2) { setPoint := p } }

/-- AXIS_LOOP_COMMIT (R24, R35, R36 and the rules of the loop): the axis-loop execution of the oldest cycle not yet executed ends.
DESIGN CHOICE, log entry 10; DEDUCED, log entry 25. -/
def execAxisLoopCommit (a : AxisN) (x : CommitIn) (s : State) : Outcome State Fault Refusal :=
  let f := (s.axis a).field
  if !s.cycling a || f.cycle ≤ f.executed then .next s
  else
    let k := max (f.executed + 1) (f.cycle - 1)
    let c := f.cycles[k % 2]
    let w := f.loop
    let s := s.modCrest (s.crestOf a) fun y => { y with longest := max y.longest x.execNs }
    let s := s.modField a fun f => { f with executed := k, grant := c.grant }
    let s := s.useSnapshot a c ((s.cycleTicks a : Rat) / ticksPerS)
    let (s, p) := s.useSetPoint a w.setPoint c.setPoint x.setpointFlip
    if !s.cycling a then .next s
    else if s.isStepper a then .next (s.commitStepper a k p x.tableFlip)
    else .next (s.commitField a k c w p)

/-! ### The update point, a missed deadline (R27, R36, R37, R52) -/

/-- The cycle whose update point is the next one (R36, R162): the older of the two begun, until its update point has passed. -/
def State.dueCycle (s : State) (a : AxisN) : Nat :=
  let f := (s.axis a).field
  let c := f.cycles[(f.cycle + 1) % 2]
  if c.number != 0 && c.number + 1 == f.cycle && !c.past then c.number else f.cycle

/-- Update the buffer of cycle k. -/
def State.modCycle (s : State) (a : AxisN) (k : Nat) (g : Cycle → Cycle) : State :=
  s.modField a fun f => { f with cycles := f.cycles.set (k % 2) (g f.cycles[k % 2]) }

/-- A miss of cycle k; the second without an in-time commit between is a cause under R76 (R27, R513). -/
def State.missed (s : State) (a : AxisN) (k : Nat) : State :=
  let s := (s.modCycle a k fun c => { c with late := true }).modField a fun f => { f with missRun := f.missRun + 1 }
  let s := s.modReact a fun r => { r with inTime := 0 }
  if 2 ≤ (s.axis a).field.missRun then s.otherCause a (some .deadline) else s

/-- The commit was in time: eight in a row end the hold of missed deadlines (R513). -/
def State.inTime (s : State) (a : AxisN) : State :=
  let s := s.modField a fun f => { f with missRun := 0 }
  s.modReact a fun r =>
    let n := min (r.inTime + 1) 8
    { r with inTime := n, causes := if n == 8 then r.causes.filter (· != .deadline) else r.causes }

/-- The leg cell at an update point with a commit in time (R37, R51, R52): the shadow becomes active; a leg left out loses
its control EN, and one that acknowledges again gets it back. `up` is the control EN of the axis, `vbs` the leg's VBS in mV. -/
def Leg.update (k : Nat) (up : Bool) (vbs : Nat) (L : Leg) : Leg :=
  let e := L.shadow[k % 2]
  if e.cycle == k && L.written then
    let L := { L with active := e, refreshActive := e.refresh }
    if L.leftOut then
      let L := { L with leftOut := false }
      match L.state, L.latch with
      | .latched, some (.noAck, _) =>
        let L := L.retry vbs
        if up && L.state == .inService then L.enable else L
      | _, _ => L
    else L
  else if L.leftOut then { L.allOff with en := false }
  else L

/-- The leg cells take their shadow registers for cycle k (R36). -/
def State.takeShadows (s : State) (a : AxisN) (k : Nat) : State :=
  let up := s.driving a && !(s.axis a).field.regain
  s.modLegs (s.legsOf a) fun l L => L.update k up (s.cfgN (O.vbsNow l))

/-- The PULSE edges of the interval that begins at the update point of cycle k (R51, R162); a stepper's legs follow its choppers. -/
def State.setEdges (s : State) (a : AxisN) (k : Nat) : State :=
  let (x, len) := s.updatePhase a (s.axis a).field.cycles[k % 2].peak
  s.modLegs (s.legsOf a) fun l L =>
    let es := if s.isStepper a || !s.fieldActive a then [] else s.intervalEdges a l L.active L.last x len L.pulse
    { L with edges := es, interval := es, before := L.interval, inRefresh := L.inRefresh && !es.isEmpty }

/-- Control EN rises where a flying start is ready for it, or its sweep begins (R190, R191, R217). -/
def State.riseDue (s : State) (a : AxisN) : State :=
  let c := (s.axis a).field.catching
  if c.running && c.ready then
    let s := s.enRise a
    if s.isStepper a then s.stepEnergise a else s
  else if c.sweeping then
    (s.endSlices a).modLegs (s.legsOf a) fun _ L => if L.state == .inService then L.enable else L
  else s

/-- UPDATE_POINT (R13, R27, R32, R36, R51, R162): the leg cells take the edge set whose commit flag was set in time. A commit
word that fails its check at a leg counts as a miss of the cycle. DEDUCED, log entries 21, 22, 23, 30. -/
def execUpdatePoint (a : AxisN) (flips : List (LegN × BitVec 8)) (s : State) : Outcome State Fault Refusal :=
  if !s.cycling a then .next (s.modField a fun f => { f with cycles := f.cycles.map fun (c : Cycle) => { c with past := true } })
  else
    let cr := s.crestOf a
    let k := s.dueCycle a
    let c := (s.axis a).field.cycles[k % 2]
    let ready : Bool := c.number == k && !c.late && c.committed.any fun t => t + 20 ≤ s.ref.time
    let bad := if !ready then [] else (s.legsOf a).filter fun l =>
      let e := (s.leg l).shadow[k % 2]
      e.cycle == k && flips.any fun x => x.1 == l && e.check ^^^ x.2 != checkOf e.word
    let s := s.modLegs (s.legsOf a) fun _ L => { L with last := L.active }
    let s := s.each bad fun s _ => s.checkFail 1 cr.val (some cr)
    let s :=
      if !ready then s
      else if !bad.isEmpty then s.missed a k
      else
        let s := s.takeShadows a k
        (if s.isStepper a then s.stepUpdate a else s).inTime a
    let s := (s.modCycle a k fun c => { c with past := true }).modField a fun f => { f with updatedAt := s.ref.time }
    let s := (s.riseDue a).setEdges a k
    .next (s.applyStaged fun n => (cardOf n).any (fun k => k.effect == .nextCycle) && (s.cycleAxes n).contains a)

/-- DEADLINE_MISSED (R27): the commit flag is not set 50 ns before the update point. DEDUCED, log entry 22. -/
def execDeadlineMissed (a : AxisN) (s : State) : Outcome State Fault Refusal :=
  let k := s.dueCycle a
  let c := (s.axis a).field.cycles[k % 2]
  if !s.cycling a || k == 0 || c.number != k || c.committed.isSome || c.late || c.past then .next s
  else
    let cr := s.crestOf a
    let s := s.event 0xC203 cr.val
    .next ((s.missed a k).crestFault cr 1)

end Sys2Proof.Machine
end

