-- ==== Sys2Proof/Machine/Names.lean ====
section
/-! DEFINITION. Names, units and read ranges of the object cards, for the dictionary description (R353). -/

namespace Sys2Proof.Machine

/-- What the description says of a card beside its attributes. -/
structure CardText where
  index : Nat
  sub : Nat
  name : String
  unit : String
  /-- the least and greatest value that the card's text gives where they are not those of its `range` -/
  bounds : Option (Int × Int)
  deriving DecidableEq, Repr

/-- Names and units, part 0. -/
def cardTexts0 : List CardText := [
  ⟨0x1000, 0x03, "ORDER_VARIANT", "", (some (0, 1))⟩,
  ⟨0x2000, 0x01, "REF_STATUS", "", none⟩,
  ⟨0x2000, 0x03, "REF_TIME", "2.5 ns", (some (0, 18446744073709551615))⟩,
  ⟨0x2000, 0x02, "REF_DISCIPLINE", "", none⟩,
  ⟨0x2010, 0x05, "CREST_LOAD", "executions/s", (some (0, 1200000))⟩,
  ⟨0x2010, 0x01, "MARGIN_FLOOR", "%", none⟩,
  ⟨0x2010, 0x02, "VCREST_LIMIT", "mV", none⟩,
  ⟨0x2010, 0x03, "MARGIN_NOW", "%", (some (-100, 100))⟩,
  ⟨0x2010, 0x04, "VCREST_NOW", "mV", (some (800, 950))⟩,
  ⟨0x2050, 0x01, "CHECK_FAIL_COUNT", "", (some (0, 4294967295))⟩,
  ⟨0x2070, 0x01, "CREST_RETIRE_COUNT", "", none⟩,
  ⟨0x2070, 0x02, "CREST_RETIRE_WINDOW", "s", none⟩,
  ⟨0x2070, 0x03, "CREST_CLASS_COUNTS", "", none⟩,
  ⟨0x2010, 0x07, "CREST_REINSTATE", "", none⟩,
  ⟨0x2010, 0x06, "CREST_STATUS", "", none⟩,
  ⟨0x2060, 0x01, "GATE_STATUS", "", none⟩,
  ⟨0x3001, 0x01, "DEADTIME", "156.25 ps", none⟩,
  ⟨0x3001, 0x02, "DEADTIME_EFFECTIVE", "156.25 ps", (some (640, 64000))⟩,
  ⟨0x3001, 0x03, "GATE_OFF_TIMEOUT", "ns", none⟩,
  ⟨0x3001, 0x04, "MIN_ON", "ns", none⟩,
  ⟨0x3C00, 0x01, "GROUP_STATUS", "", none⟩,
  ⟨0x3C00, 0x02, "VGP_NOW", "mV", (some (0, 25000))⟩,
  ⟨0x3C00, 0x03, "VGN_NOW", "mV", (some (-10000, 2000))⟩,
  ⟨0x3C00, 0x04, "VGN_EXPECTED", "mV", none⟩,
  ⟨0x3002, 0x01, "BLANKING", "100 ns", none⟩,
  ⟨0x3002, 0x02, "DESAT_THRESHOLD", "0.25 V", none⟩,
  ⟨0x3002, 0x03, "MILLER_TIMEOUT", "ns", none⟩,
  ⟨0x3002, 0x04, "SOFT_OFF_CURRENT", "", none⟩,
  ⟨0x4038, 0x01, "ASC_SPEED", "counts/s", none⟩,
  ⟨0x4038, 0x02, "ASC_HOLD", "ms", none⟩,
  ⟨0x4038, 0x03, "LEG_FAULT_RESUME", "", none⟩,
  ⟨0x40F8, 0x01, "REACTION_STATUS", "", none⟩,
  ⟨0x40F8, 0x02, "LEG_FRACTION", "per mille", (some (0, 1000))⟩,
  ⟨0x3000, 0x01, "LEG_STATUS", "", none⟩,
  ⟨0x3000, 0x02, "VBS_NOW", "mV", (some (0, 25000))⟩,
  ⟨0x3003, 0x01, "LEG_REINSTATE", "", none⟩,
  ⟨0x3C60, 0x01, "RETIRE_COUNT", "", none⟩,
  ⟨0x3C60, 0x02, "RETIRE_WINDOW", "s", none⟩,
  ⟨0x3C60, 0x03, "AUTOCLEAR_WAIT", "ms", none⟩,
  ⟨0x3C60, 0x04, "AUTOCLEAR_MAX", "", none⟩]

/-- Names and units, part 1. -/
def cardTexts1 : List CardText := [
  ⟨0x3C60, 0x05, "BS_PRECHARGE", "µs", none⟩,
  ⟨0x3008, 0x01, "CI_MODE", "", none⟩,
  ⟨0x3008, 0x02, "CI_GAIN", "A/V", none⟩,
  ⟨0x3008, 0x03, "CI_OFFSET", "V", none⟩,
  ⟨0x3008, 0x04, "OC_LEVEL", "mV", none⟩,
  ⟨0x3008, 0x05, "OC_FILTER", "ns", none⟩,
  ⟨0x3009, 0x01, "CI_STATUS", "", none⟩,
  ⟨0x3009, 0x02, "CI_NOW", "A", none⟩,
  ⟨0x3009, 0x03, "CI_ZERO_MEASURED", "V", (some (3240099840, 1092616192))⟩,
  ⟨0x3009, 0x04, "CI_REINSTATE", "", none⟩,
  ⟨0x3D00, 0x01, "SD_ROLE", "", none⟩,
  ⟨0x3D00, 0x02, "SD_AXIS", "", none⟩,
  ⟨0x3D00, 0x03, "SD_OSR", "", none⟩,
  ⟨0x3D00, 0x04, "SD_CLOCK", "", none⟩,
  ⟨0x3D00, 0x05, "SD_GAIN", "V", none⟩,
  ⟨0x3D00, 0x06, "SD_OFFSET", "V", none⟩,
  ⟨0x3D00, 0x07, "SD_NOW", "V", none⟩,
  ⟨0x4030, 0x01, "SETTLE_TIME", "ns", none⟩,
  ⟨0x4030, 0x02, "PREDICT_MAX", "", none⟩,
  ⟨0x4030, 0x03, "LIMIT_RELEASE", "ms", none⟩,
  ⟨0x4030, 0x04, "BAL_GAIN", "ns/A", none⟩,
  ⟨0x4030, 0x05, "BAL_TRIM_MAX", "ns", none⟩,
  ⟨0x4030, 0x06, "LEG_INDUCTANCE", "µH", none⟩,
  ⟨0x4030, 0x07, "CIRC_WARN", "A", none⟩,
  ⟨0x4030, 0x08, "CI_AUTOZERO", "", none⟩,
  ⟨0x4030, 0x09, "ZERO_TOL", "mV", none⟩,
  ⟨0x4030, 0x0A, "SUM_TOL", "% of axis current limit", none⟩,
  ⟨0x4030, 0x0B, "LEG_DEV_TOL", "% of axis current limit ÷ n", none⟩,
  ⟨0x40F0, 0x01, "SADDLE_STATUS", "", none⟩,
  ⟨0x40F0, 0x02, "DEPTH_LIMIT", "per mille", (some (100, 1000))⟩,
  ⟨0x40F0, 0x03, "DEPTH_DEMAND", "per mille", (some (0, 1000))⟩,
  ⟨0x40F0, 0x04, "SPEED_UNLIMITED", "counts/s", (some (0, 4294967295))⟩,
  ⟨0x40F0, 0x05, "SPEED_AT_LIMIT", "counts/s", (some (0, 4294967295))⟩,
  ⟨0x40F0, 0x06, "TORQUE_COST", "N·m", none⟩,
  ⟨0x5000, 0x01, "FB_STATUS", "", none⟩,
  ⟨0x5000, 0x02, "FB_POSITION", "counts", (some (-2147483648, 2147483647))⟩,
  ⟨0x5000, 0x03, "SPEED_NOW", "counts/s", none⟩,
  ⟨0x5000, 0x04, "GLITCH_COUNT", "", (some (0, 4294967295))⟩,
  ⟨0x5000, 0x05, "INDEX_MISMATCH_COUNT", "", (some (0, 65535))⟩,
  ⟨0x5000, 0x06, "INDEX_CORRECTION", "counts", (some (-2147483648, 2147483647))⟩]

/-- Names and units, part 2. -/
def cardTexts2 : List CardText := [
  ⟨0x5000, 0x07, "DIR_CHANGE_COUNT", "", (some (0, 4294967295))⟩,
  ⟨0x5001, 0x01, "FB_TYPE", "", none⟩,
  ⟨0x5001, 0x02, "FB_INVERT", "", none⟩,
  ⟨0x5001, 0x03, "COUNTS_PER_REV", "counts", none⟩,
  ⟨0x5001, 0x04, "MIN_EDGE", "2.5 ns", none⟩,
  ⟨0x5002, 0x01, "INDEX_MODE", "", none⟩,
  ⟨0x5002, 0x02, "INDEX_VALUE", "counts", none⟩,
  ⟨0x5002, 0x03, "INDEX_TOL", "counts", none⟩,
  ⟨0x5002, 0x04, "INDEX_GATE", "", none⟩,
  ⟨0x5002, 0x05, "INDEX_ARM", "", none⟩,
  ⟨0x5003, 0x01, "SPEED_WINDOW", "µs", none⟩,
  ⟨0x5003, 0x02, "STANDSTILL_TIME", "ms", none⟩,
  ⟨0x5003, 0x03, "SPEED_SWITCH", "counts/s", none⟩,
  ⟨0x5003, 0x04, "SPEED_HYST", "%", none⟩,
  ⟨0x5003, 0x05, "PERIOD_EDGES", "counts", none⟩,
  ⟨0x5003, 0x06, "DIR_HYST", "counts", none⟩,
  ⟨0x5004, 0x01, "GT_PITCHES", "pitches", none⟩,
  ⟨0x5004, 0x02, "GT_REF", "", none⟩,
  ⟨0x5004, 0x03, "GT_TOL", "0.01", none⟩,
  ⟨0x5004, 0x04, "GT_ACCEL", "0.01", none⟩,
  ⟨0x5004, 0x05, "GT_DIR_SOURCE", "", none⟩,
  ⟨0x5005, 0x01, "SSI_POS_BITS", "bits", none⟩,
  ⟨0x5005, 0x02, "SSI_CLOCK_DIV", "", none⟩,
  ⟨0x5005, 0x03, "SSI_ERR_BIT", "", none⟩,
  ⟨0x5005, 0x04, "SSI_CRC_BITS", "bits", none⟩,
  ⟨0x5005, 0x05, "SSI_CRC_POLY", "", none⟩,
  ⟨0x5005, 0x06, "SSI_CRC_INIT", "", none⟩,
  ⟨0x5005, 0x07, "SSI_TIMEOUT", "µs", none⟩,
  ⟨0x5005, 0x08, "SSI_MONO", "µs", none⟩,
  ⟨0x5005, 0x09, "SSI_BAD_MAX", "words", none⟩,
  ⟨0x5005, 0x0A, "SSI_LINE_DELAY", "ns", none⟩,
  ⟨0x5005, 0x0B, "SSI_BAD_COUNT", "", (some (0, 4294967295))⟩,
  ⟨0x5006, 0x01, "AN_INTERP_BITS", "bits", none⟩,
  ⟨0x5006, 0x02, "AN_PERIODS", "periods", none⟩,
  ⟨0x5006, 0x03, "AN_TRACK_BW", "Hz", none⟩,
  ⟨0x5006, 0x04, "AN_AMPL_NOM", "mV peak", none⟩,
  ⟨0x5007, 0x01, "FB_REINSTATE", "", none⟩,
  ⟨0x5E00, 0x01, "FB_RETIRE_COUNT", "", none⟩,
  ⟨0x5E00, 0x02, "FB_RETIRE_WINDOW", "s", none⟩,
  ⟨0x5E00, 0x03, "GLITCH_LIMIT", "glitches per 10 ms", none⟩]

/-- Names and units, part 3. -/
def cardTexts3 : List CardText := [
  ⟨0x5E10, 0x01, "PT_SOURCE", "", none⟩,
  ⟨0x5E10, 0x02, "PT_MODE", "", none⟩,
  ⟨0x5EA0, 0x01, "EXC_FREQ", "Hz", none⟩,
  ⟨0x5EA0, 0x02, "EXC_AMPL", "mV rms", none⟩,
  ⟨0x4000, 0x01, "AXIS_TYPE", "", none⟩,
  ⟨0x4000, 0x02, "FIRST_LEG", "", none⟩,
  ⟨0x4000, 0x03, "LEGS_PER_PHASE", "legs", none⟩,
  ⟨0x4000, 0x04, "CARRIER_FREQ", "Hz", none⟩,
  ⟨0x4000, 0x05, "UPDATE_MODE", "", none⟩,
  ⟨0x4000, 0x06, "MOD_MODE", "", none⟩,
  ⟨0x4000, 0x07, "FB_CHANNEL", "", none⟩,
  ⟨0x4001, 0x01, "POLE_PAIRS", "", none⟩,
  ⟨0x4001, 0x02, "RS", "Ω", none⟩,
  ⟨0x4001, 0x03, "LD", "mH", none⟩,
  ⟨0x4001, 0x04, "LQ", "mH", none⟩,
  ⟨0x4001, 0x05, "KE_NOM", "V rms line-to-line per 1,000 rpm", none⟩,
  ⟨0x4001, 0x06, "I_RATED", "A", none⟩,
  ⟨0x4001, 0x07, "I_MAX", "A", none⟩,
  ⟨0x4002, 0x01, "SPEED_RATED", "counts/s", none⟩,
  ⟨0x4002, 0x02, "F_ELEC_MAX", "Hz", none⟩,
  ⟨0x4002, 0x03, "VDC_NOM", "V", none⟩,
  ⟨0x4002, 0x04, "COMM_OFFSET", "2^−16 electrical revolution", none⟩,
  ⟨0x4002, 0x05, "REGEN_LIMIT", "W", none⟩,
  ⟨0x4002, 0x06, "MIGRATE_RANK", "", none⟩,
  ⟨0x4003, 0x01, "LM", "mH", none⟩,
  ⟨0x4003, 0x02, "LSIGMA", "mH", none⟩,
  ⟨0x4003, 0x03, "TAU_R", "ms", none⟩,
  ⟨0x4003, 0x04, "ID_MAG", "A", none⟩,
  ⟨0x4040, 0x01, "CUR_BW", "Hz", none⟩,
  ⟨0x4040, 0x02, "FW_MARGIN", "%", none⟩,
  ⟨0x4040, 0x03, "FW_ID_MAX", "A", none⟩,
  ⟨0x4040, 0x04, "DT_COMP_BAND", "A", none⟩,
  ⟨0x4040, 0x05, "CONTROL_MODE", "", none⟩,
  ⟨0x4040, 0x06, "TORQUE_SET", "N·m", none⟩,
  ⟨0x4041, 0x01, "SPEED_BW", "Hz", none⟩,
  ⟨0x4041, 0x02, "INERTIA", "kg·m²", none⟩,
  ⟨0x4041, 0x03, "POS_BW", "Hz", none⟩,
  ⟨0x4041, 0x04, "STOP_DECEL", "counts/s²", none⟩,
  ⟨0x4041, 0x05, "STOP_SPEED", "counts/s", none⟩,
  ⟨0x4042, 0x01, "OBS_BW", "Hz", none⟩]

/-- Names and units, part 4. -/
def cardTexts4 : List CardText := [
  ⟨0x4042, 0x02, "OBS_INNOV_MAX", "", none⟩,
  ⟨0x4042, 0x03, "OBS_MIN_SPEED", "counts/s", none⟩,
  ⟨0x4042, 0x04, "RIDE_THROUGH", "", none⟩,
  ⟨0x4042, 0x05, "ENC_CHECK_ANGLE", "° electrical", none⟩,
  ⟨0x4042, 0x06, "ENC_CHECK_TIME", "ms", none⟩,
  ⟨0x4042, 0x07, "OBS_LOSS_RESUME", "", none⟩,
  ⟨0x4043, 0x01, "CATCH_LIMIT", "counts/s", none⟩,
  ⟨0x4043, 0x02, "CATCH_MEASURE", "ms", none⟩,
  ⟨0x4043, 0x03, "CATCH_PULSE", "µs", none⟩,
  ⟨0x4043, 0x04, "SEARCH_RATE", "Hz/s", none⟩,
  ⟨0x4043, 0x05, "SEARCH_CURRENT", "A", none⟩,
  ⟨0x4043, 0x06, "IF_CURRENT", "A", none⟩,
  ⟨0x4043, 0x07, "CATCH_TIMEOUT", "ms", none⟩,
  ⟨0x40C0, 0x01, "AXIS_COMMAND", "", none⟩,
  ⟨0x40C0, 0x02, "AXIS_STATUS", "", none⟩,
  ⟨0x40C0, 0x03, "SPEED_EST", "counts/s", none⟩,
  ⟨0x40C0, 0x04, "TORQUE_NOW", "N·m", none⟩,
  ⟨0x40C0, 0x05, "KE_EST", "per mille", (some (0, 2000))⟩,
  ⟨0x40C0, 0x06, "KE_ACK", "", none⟩,
  ⟨0x4048, 0x01, "STEP_CURRENT", "A", none⟩,
  ⟨0x4048, 0x02, "HOLD_CURRENT", "A", none⟩,
  ⟨0x4048, 0x03, "HOLD_DELAY", "ms", none⟩,
  ⟨0x4048, 0x04, "CHOP_HYST", "A", none⟩,
  ⟨0x4048, 0x05, "CHOP_ADAPT", "", none⟩,
  ⟨0x4048, 0x06, "CHOP_OFFSET_MAX", "% of STEP_CURRENT", none⟩,
  ⟨0x4048, 0x07, "DECAY_MODE", "", none⟩,
  ⟨0x4048, 0x08, "CHOP_FAST_TIME", "ns", none⟩,
  ⟨0x4048, 0x09, "CHOP_MIN_TIME", "ns", none⟩,
  ⟨0x4048, 0x0A, "CHOP_DRIVE_MAX", "µs", none⟩,
  ⟨0x4048, 0x0B, "STEP_SENSE", "", none⟩,
  ⟨0x4049, 0x01, "STEP_TABLE", "", none⟩,
  ⟨0x4049, 0x02, "STEP_POWER", "W", none⟩,
  ⟨0x4049, 0x03, "STEP_ALIGN_TIME", "ms", none⟩,
  ⟨0x404A, 0x01, "STALL_ANGLE", "° electrical", none⟩,
  ⟨0x404A, 0x02, "STALL_RATIO", "%", none⟩,
  ⟨0x404A, 0x03, "STALL_MIN_SPEED", "counts/s", none⟩,
  ⟨0x404A, 0x04, "STALL_ACTION", "", none⟩,
  ⟨0x5F00, 0x01, "STEP_TABLE_DATA", "", none⟩,
  ⟨0x5F00, 0x02, "STEP_TABLE_COMMIT", "", none⟩,
  ⟨0x5F00, 0x03, "STEP_TABLE_STATUS", "", none⟩]

/-- Names and units, part 5. -/
def cardTexts5 : List CardText := [
  ⟨0x5F00, 0x04, "STEP_TABLE_RESTORE", "", none⟩,
  ⟨0x5F00, 0x05, "STEP_TABLE_CRC", "", (some (0, 4294967295))⟩,
  ⟨0x5F00, 0x06, "ACTIVE_TABLE_CRC", "", (some (0, 4294967295))⟩,
  ⟨0x40C4, 0x01, "STEP_STATUS", "", none⟩,
  ⟨0x40C4, 0x02, "CHOP_OFFSET_A", "A", none⟩,
  ⟨0x40C4, 0x03, "CHOP_OFFSET_B", "A", none⟩,
  ⟨0x4080, 0x01, "TARGET_POS", "counts", none⟩,
  ⟨0x4080, 0x02, "VELOCITY_SET", "counts/s", none⟩,
  ⟨0x4080, 0x03, "MOVE_MODE", "", none⟩,
  ⟨0x4080, 0x04, "STAGED_TARGET", "counts", none⟩,
  ⟨0x4080, 0x05, "TRIGGER_UNIT", "", none⟩,
  ⟨0x4081, 0x01, "PROFILE_SPEED", "counts/s", none⟩,
  ⟨0x4081, 0x02, "PROFILE_ACCEL", "counts/s²", none⟩,
  ⟨0x4081, 0x03, "PROFILE_DECEL", "counts/s²", none⟩,
  ⟨0x4081, 0x04, "PROFILE_JERK", "1,000 counts/s³", none⟩,
  ⟨0x4082, 0x01, "LIMIT_MIN", "counts", none⟩,
  ⟨0x4082, 0x02, "LIMIT_MAX", "counts", none⟩,
  ⟨0x4082, 0x03, "FOLLOW_MAX", "counts", none⟩,
  ⟨0x4082, 0x04, "FOLLOW_ACTION", "", none⟩,
  ⟨0x4083, 0x01, "PROFILE_STATUS", "", none⟩,
  ⟨0x4083, 0x02, "PROFILE_POS", "counts", (some (-2147483648, 2147483647))⟩,
  ⟨0x4083, 0x03, "PROFILE_POS_RAW", "2^−32 count", (some (0, 18446744073709551615))⟩,
  ⟨0x4083, 0x04, "PROFILE_VEL_RAW", "2^−32 counts per reference tick", (some (-4294967295, 4294967295))⟩,
  ⟨0x4083, 0x05, "SWITCHBACK_COUNT", "", (some (0, 4294967295))⟩,
  ⟨0x4083, 0x06, "OVERSHOOT_DIST", "counts", (some (0, 4294967295))⟩,
  ⟨0x4083, 0x07, "HOME_OFFSET_NOW", "counts", (some (-2147483648, 2147483647))⟩,
  ⟨0x5C00, 0x01, "CMP_ENABLE", "", none⟩,
  ⟨0x5C00, 0x02, "CMP_SOURCE", "", none⟩,
  ⟨0x5C00, 0x03, "CMP_POSITION", "counts", none⟩,
  ⟨0x5C00, 0x04, "CMP_DIRECTION", "", none⟩,
  ⟨0x5C00, 0x05, "CMP_MODE", "", none⟩,
  ⟨0x5C00, 0x06, "CMP_INTERVAL", "counts", none⟩,
  ⟨0x5C00, 0x07, "CMP_ACTION", "", none⟩,
  ⟨0x5C00, 0x08, "CMP_OUTPUT", "", none⟩,
  ⟨0x5C00, 0x09, "CMP_PULSE", "2.5 ns", none⟩,
  ⟨0x5C01, 0x01, "CMP_STATUS", "", none⟩,
  ⟨0x5C01, 0x02, "CMP_FIRE_COUNT", "", (some (0, 4294967295))⟩,
  ⟨0x5C01, 0x03, "CMP_FIRE_TIME", "2.5 ns", (some (0, 18446744073709551615))⟩,
  ⟨0x5C01, 0x04, "CMP_MISSED_COUNT", "", (some (0, 4294967295))⟩,
  ⟨0x4084, 0x01, "HOME_METHOD", "", none⟩]

/-- Names and units, part 6. -/
def cardTexts6 : List CardText := [
  ⟨0x4084, 0x02, "HOME_DIR", "", none⟩,
  ⟨0x4084, 0x03, "HOME_SPEED", "counts/s", none⟩,
  ⟨0x4084, 0x04, "HOME_SPEED_SLOW", "counts/s", none⟩,
  ⟨0x4084, 0x05, "HOME_POSITION", "counts", none⟩,
  ⟨0x4084, 0x06, "HOME_BACKOFF", "counts", none⟩,
  ⟨0x4084, 0x07, "HOME_DISTANCE", "counts", none⟩,
  ⟨0x4085, 0x01, "HOME_SWITCH", "", (some (0, 190))⟩,
  ⟨0x4085, 0x02, "HOME_EDGE", "", none⟩,
  ⟨0x4085, 0x03, "HOME_TORQUE", "% of I_LIM", none⟩,
  ⟨0x4085, 0x04, "HOME_STALL_TIME", "ms", none⟩,
  ⟨0x4085, 0x05, "HOME_RETURN", "", none⟩,
  ⟨0x4085, 0x06, "HOME_COMMAND", "", none⟩,
  ⟨0x6100, 0x01, "GROUP_NUMBER", "", none⟩,
  ⟨0x6100, 0x02, "GROUP_PORT", "", none⟩,
  ⟨0x6100, 0x03, "GROUP_RATE", "Hz", none⟩,
  ⟨0x6100, 0x04, "GROUP_MODE", "", none⟩,
  ⟨0x6100, 0x05, "GROUP_TORQUE_SET", "N·m", none⟩,
  ⟨0x6100, 0x06, "GROUP_INERTIA", "kg·m²", none⟩,
  ⟨0x6100, 0x07, "GROUP_SPEED_BW", "Hz", none⟩,
  ⟨0x6100, 0x08, "GROUP_POS_BW", "Hz", none⟩,
  ⟨0x6100, 0x09, "GROUP_COUNTS_PER_REV", "counts", none⟩,
  ⟨0x6101, 0x01, "MEMBER_ENTRY", "", none⟩,
  ⟨0x6102, 0x01, "GROUP_CHECK", "", (some (0, 65535))⟩,
  ⟨0x40D0, 0x01, "GROUP_SLOT", "", none⟩,
  ⟨0x40D0, 0x02, "MEMBER_RATIO", "motor revolutions per drum revolution", none⟩,
  ⟨0x40D0, 0x03, "DROOP_GAIN", "N·m per group count/s", none⟩,
  ⟨0x40D0, 0x04, "ISOLATED_MAX", "s", none⟩,
  ⟨0x40D8, 0x01, "SHARE_STATUS", "", none⟩,
  ⟨0x40D8, 0x02, "SHARE_NOW", "2^−15", (some (0, 32768))⟩,
  ⟨0x40D8, 0x03, "T_GROUP", "N·m", none⟩,
  ⟨0x40D8, 0x04, "CAP_NOW", "N·m", none⟩,
  ⟨0x6000, 0x01, "BUDGET_SOURCE", "", none⟩,
  ⟨0x6000, 0x02, "POWER_BUDGET", "W", none⟩,
  ⟨0x6000, 0x03, "BUDGET_TIMEOUT", "ms", none⟩,
  ⟨0x6000, 0x04, "BUDGET_FALLBACK", "W", none⟩,
  ⟨0x6000, 0x05, "BUDGET_RISE", "W/s", none⟩,
  ⟨0x6000, 0x06, "POWER_QUANTUM", "W", none⟩,
  ⟨0x6001, 0x01, "FREQ_SOURCE", "", none⟩,
  ⟨0x6001, 0x02, "SHIP_FREQ", "Hz", none⟩,
  ⟨0x6001, 0x03, "FREQ_TIMEOUT", "ms", none⟩]

/-- Names and units, part 7. -/
def cardTexts7 : List CardText := [
  ⟨0x6001, 0x04, "FREQ_NOM", "Hz", none⟩,
  ⟨0x6001, 0x05, "FREQ_DEADBAND", "Hz", none⟩,
  ⟨0x6001, 0x06, "FREQ_SPAN", "Hz", none⟩,
  ⟨0x6001, 0x07, "FREQ_MIN_FACTOR", "per mille", none⟩,
  ⟨0x6002, 0x01, "DEFER_LIMIT_HOLD", "ms", none⟩,
  ⟨0x6002, 0x02, "DEFER_LIMIT_WORK", "ms", none⟩,
  ⟨0x6002, 0x03, "DEFER_LIMIT_AUX", "ms", none⟩,
  ⟨0x6008, 0x01, "ARBITER_STATUS", "", none⟩,
  ⟨0x6008, 0x02, "BUDGET_EFFECTIVE", "W", none⟩,
  ⟨0x6008, 0x03, "STOP_DEMAND", "W", none⟩,
  ⟨0x40E0, 0x01, "POWER_CLASS", "", none⟩,
  ⟨0x40E0, 0x02, "POWER_REQUEST", "W", none⟩,
  ⟨0x40E0, 0x03, "POWER_RATED", "W", none⟩,
  ⟨0x6010, 0x01, "GRANT_WORD", "", none⟩,
  ⟨0x6010, 0x02, "GRANT_POWER", "W", none⟩,
  ⟨0x6010, 0x03, "DEMAND_NOW", "W", none⟩,
  ⟨0x1300, 0x01, "CAN_STATUS", "", none⟩,
  ⟨0x1300, 0x02, "TDC_MEASURED", "12.5 ns", (some (0, 255))⟩,
  ⟨0x1300, 0x03, "RX_DISCARD_COUNT", "", (some (0, 4294967295))⟩,
  ⟨0x1300, 0x04, "RX_OVERRUN_COUNT", "", (some (0, 4294967295))⟩,
  ⟨0x1300, 0x05, "CAN_TX_PENDING", "", none⟩,
  ⟨0x1301, 0x01, "CAN_MODE", "", none⟩,
  ⟨0x1301, 0x02, "CAN_TERM", "", none⟩,
  ⟨0x1301, 0x03, "BUSOFF_RECOVERY", "", none⟩,
  ⟨0x1301, 0x04, "CAN_RELEASE", "", none⟩,
  ⟨0x1301, 0x05, "CAN_ABORT", "", none⟩,
  ⟨0x1301, 0x06, "CAN_REINSTATE", "", none⟩,
  ⟨0x1302, 0x01, "NOM_PRESC", "", none⟩,
  ⟨0x1302, 0x02, "NOM_PROP", "tq", none⟩,
  ⟨0x1302, 0x03, "NOM_PHASE1", "tq", none⟩,
  ⟨0x1302, 0x04, "NOM_PHASE2", "tq", none⟩,
  ⟨0x1302, 0x05, "NOM_SJW", "tq", none⟩,
  ⟨0x1303, 0x01, "DATA_PRESC", "", none⟩,
  ⟨0x1303, 0x02, "DATA_PROP", "tq", none⟩,
  ⟨0x1303, 0x03, "DATA_PHASE1", "tq", none⟩,
  ⟨0x1303, 0x04, "DATA_PHASE2", "tq", none⟩,
  ⟨0x1303, 0x05, "DATA_SJW", "tq", none⟩,
  ⟨0x1303, 0x06, "TDC_MODE", "", none⟩,
  ⟨0x1303, 0x07, "TDC_OFFSET", "12.5 ns", none⟩,
  ⟨0x1380, 0x01, "CAN_RETIRE_COUNT", "", none⟩]

/-- Names and units, part 8. -/
def cardTexts8 : List CardText := [
  ⟨0x1380, 0x02, "CAN_RETIRE_WINDOW", "s", none⟩,
  ⟨0x1380, 0x03, "CAN_SESSION_IDLE", "s", none⟩,
  ⟨0x1380, 0x04, "CAN_CLASS_COUNTS", "", none⟩,
  ⟨0x1200, 0x01, "SEGMENT", "", none⟩,
  ⟨0x1200, 0x02, "NODE", "", none⟩,
  ⟨0x1200, 0x03, "ORHAM_ETHERTYPE", "", (some (1536, 65535))⟩,
  ⟨0x1200, 0x04, "ORHAM_VID", "", none⟩,
  ⟨0x1200, 0x05, "ETH_MAC", "", (some (0, 281474976710655))⟩,
  ⟨0x1010, 0x01, "DICT_DESCRIPTION", "", none⟩,
  ⟨0x1210, 0x01, "ETH_STATUS", "", none⟩,
  ⟨0x1210, 0x02, "ETH_SPEED", "", none⟩,
  ⟨0x1210, 0x03, "ETH_EXPECT_LINK", "", none⟩,
  ⟨0x1210, 0x04, "ETH_REINSTATE", "", none⟩,
  ⟨0x1210, 0x05, "RX_POLICED_COUNT", "", (some (0, 4294967295))⟩,
  ⟨0x1210, 0x06, "END_CHECK_FAIL_COUNT", "", (some (0, 4294967295))⟩,
  ⟨0x1210, 0x07, "BAD_FORM_COUNT", "", (some (0, 4294967295))⟩,
  ⟨0x1220, 0x01, "PTP_ROLE", "", none⟩,
  ⟨0x1220, 0x02, "PTP_TC", "", none⟩,
  ⟨0x1220, 0x03, "PTP_DOMAIN", "", none⟩,
  ⟨0x1220, 0x04, "PTP_OFFSET", "ns", (some (-2147483648, 2147483647))⟩,
  ⟨0x1230, 0x01, "PORT_MAX_LEVEL", "level code", none⟩,
  ⟨0x1230, 0x02, "PORT_MAX_LEVEL", "level code", none⟩,
  ⟨0x1230, 0x03, "PORT_MAX_LEVEL", "level code", none⟩,
  ⟨0x1230, 0x04, "PORT_MAX_LEVEL", "level code", none⟩,
  ⟨0x1231, 0x01, "SESSION_IDLE", "s", none⟩,
  ⟨0x1231, 0x02, "ORHAM_RX_LIMIT", "packets/s", none⟩,
  ⟨0x1238, 0x01, "SESSION_LEVEL", "level code", none⟩,
  ⟨0x1238, 0x02, "SESSION_CREDENTIAL", "", none⟩,
  ⟨0x1250, 0x01, "ETH_RETIRE_COUNT", "", none⟩,
  ⟨0x1250, 0x02, "ETH_RETIRE_WINDOW", "s", none⟩,
  ⟨0x1240, 0x01, "EVENT_DEST", "", (some (16384, 49152))⟩,
  ⟨0x1240, 0x02, "EVENT_REPEAT", "ms", none⟩,
  ⟨0x1500, 0x01, "CYC_ENABLE", "", none⟩,
  ⟨0x1500, 0x02, "CYC_DIR", "", none⟩,
  ⟨0x1500, 0x03, "CYC_PERIOD", "62.5 µs", none⟩,
  ⟨0x1500, 0x04, "CYC_PHASE", "ns", (some (0, 99999999))⟩,
  ⟨0x1500, 0x05, "CYC_PEER", "", (some (0, 32767))⟩,
  ⟨0x1500, 0x06, "CYC_PEER_FRAME", "", none⟩,
  ⟨0x1500, 0x07, "CYC_WATCHDOG", "cycles", none⟩,
  ⟨0x1500, 0x08, "WATCHDOG_ACTION", "", none⟩]

/-- Names and units, part 9. -/
def cardTexts9 : List CardText := [
  ⟨0xA000, 0x01, "EVENT_HEAD", "", (some (0, 1007))⟩,
  ⟨0xA000, 0x02, "ANNOUNCED_UNREAD", "", (some (0, 65535))⟩,
  ⟨0xA000, 0x03, "EVENT_LOST", "", (some (0, 4294967295))⟩,
  ⟨0xA000, 0x04, "EVENT_ACK_ALL", "", none⟩,
  ⟨0xA010, 0x01, "EVENT_CODE", "", none⟩,
  ⟨0xA010, 0x02, "EVENT_INSTANCE", "", (some (0, 65535))⟩,
  ⟨0xA010, 0x03, "EVENT_TIME", "2.5 ns", none⟩,
  ⟨0x1400, 0x01, "ENDPOINT_ENTRY", "", none⟩,
  ⟨0x1600, 0x01, "MAP_ENTRY", "", none⟩,
  ⟨0x7000, 0x01, "SAFETY_STATUS", "", none⟩,
  ⟨0x7000, 0x02, "LOCKOUT_STATUS", "", none⟩,
  ⟨0x7100, 0x01, "SI_FUNCTION", "", none⟩,
  ⟨0x7100, 0x02, "SI_AXES", "", none⟩,
  ⟨0x7100, 0x03, "SI_FILTER", "0.5 ms", none⟩,
  ⟨0x7100, 0x04, "SI_DISCREPANCY", "0.5 ms", none⟩,
  ⟨0x7100, 0x05, "SI_STATUS", "", none⟩,
  ⟨0x7200, 0x01, "SS1_MODE", "", none⟩,
  ⟨0x7200, 0x02, "SS1_TIME", "ms", none⟩,
  ⟨0x7200, 0x03, "SS1_MON_DECEL", "counts/s²", none⟩,
  ⟨0x7200, 0x04, "SS1_MON_DELAY", "ms", none⟩,
  ⟨0x7200, 0x05, "SS1_STANDSTILL", "counts/s", none⟩,
  ⟨0x7200, 0x06, "SS1_BRAKE_SPEED", "counts/s", none⟩,
  ⟨0x7200, 0x07, "SLS_LIMIT", "counts/s", none⟩,
  ⟨0x7200, 0x08, "SLS_RAMP_TIME", "ms", none⟩,
  ⟨0x7200, 0x09, "SDI_TOL", "counts", none⟩,
  ⟨0x7200, 0x0A, "SAFE_SRC1", "", none⟩,
  ⟨0x7200, 0x0B, "SAFE_SRC2", "", none⟩,
  ⟨0x7200, 0x0C, "SAFE_SRC2_RATIO", "source-2 counts per source-1 count", none⟩,
  ⟨0x7200, 0x0D, "SAFE_SPEED_TOL", "counts/s", none⟩,
  ⟨0x7200, 0x0E, "SAFE_SPEED_WINDOW", "ms", none⟩,
  ⟨0x7200, 0x0F, "VIOLATION_STOP", "", none⟩,
  ⟨0x7201, 0x01, "AXIS_SAFE_STATUS", "", none⟩,
  ⟨0x7201, 0x02, "SAFE_SPEED", "counts/s", none⟩,
  ⟨0x7400, 0x01, "SBC_AXIS", "", none⟩,
  ⟨0x7400, 0x02, "SBC_WITH_STO", "", none⟩,
  ⟨0x7400, 0x03, "TEST_PERIOD", "s", none⟩,
  ⟨0x7400, 0x04, "TEST_WIDTH", "µs", none⟩,
  ⟨0x7400, 0x05, "BRAKE_RELEASE_TIME", "ms", none⟩,
  ⟨0x7400, 0x06, "BRAKE_CMD", "", none⟩,
  ⟨0x7400, 0x07, "SBC_STATUS", "", none⟩]

/-- Names and units, part 10. -/
def cardTexts10 : List CardText := [
  ⟨0x7600, 0x01, "THODAR_MEDIUM", "", none⟩,
  ⟨0x7600, 0x02, "THODAR_PEER", "", (some (0, 32767))⟩,
  ⟨0x7600, 0x03, "ID_IN", "", none⟩,
  ⟨0x7600, 0x04, "ID_OUT", "", none⟩,
  ⟨0x7600, 0x05, "THODAR_WATCHDOG", "ms", none⟩,
  ⟨0x7600, 0x06, "THODAR_LEN", "bytes", none⟩,
  ⟨0x7600, 0x07, "THODAR_STATUS_PERIOD", "ms", none⟩,
  ⟨0x7600, 0x08, "THODAR_STATUS", "", none⟩,
  ⟨0x7601, 0x01, "THODAR_COUNT", "", (some (0, 4294967295))⟩,
  ⟨0x7800, 0x01, "VI_FUNCTION", "", none⟩,
  ⟨0x7800, 0x02, "VI_AXES", "", none⟩,
  ⟨0x7F00, 0x01, "SAFETY_PASSWORD_NEW", "", none⟩,
  ⟨0x7F00, 0x02, "CONFIG_SEAL", "", none⟩,
  ⟨0x7F00, 0x03, "SEAL_STATUS", "", none⟩,
  ⟨0x7F00, 0x04, "SEAL_CHECK_STAGED", "", (some (0, 4294967295))⟩,
  ⟨0x7F00, 0x05, "SEAL_CHECK_ACTIVE", "", (some (0, 4294967295))⟩,
  ⟨0x7F00, 0x06, "CHANGE_LOG", "", none⟩,
  ⟨0x7F00, 0x07, "CHANGE_HEAD", "", none⟩,
  ⟨0x40E8, 0x01, "SVC_OWNER", "", none⟩,
  ⟨0x40E8, 0x02, "SVC_ALIVE", "", none⟩,
  ⟨0x40E8, 0x03, "SVC_LOSS_ACTION", "", none⟩,
  ⟨0x8000, 0x01, "THR_AXIS", "", none⟩,
  ⟨0x8000, 0x02, "THR_MODE", "", none⟩,
  ⟨0x8000, 0x03, "THR_CLASS", "", none⟩,
  ⟨0x8000, 0x04, "THR_SPEED_MAX", "counts/s", none⟩,
  ⟨0x8000, 0x05, "THR_TORQUE_MAX", "N·m", none⟩,
  ⟨0x8000, 0x06, "THR_POWER_MAX", "W", none⟩,
  ⟨0x8000, 0x07, "THR_RAMP", "per mille/s", none⟩,
  ⟨0x8000, 0x08, "THR_ENABLE", "", none⟩,
  ⟨0x8000, 0x09, "THR_COMMAND", "per mille", none⟩,
  ⟨0x8000, 0x0A, "THR_CRASH", "", none⟩,
  ⟨0x8000, 0x0B, "THR_CRASH_LEVEL", "per mille", none⟩,
  ⟨0x8000, 0x0C, "THR_CRASH_ACCEL", "counts/s²", none⟩,
  ⟨0x8000, 0x0D, "THR_SHED_LEVEL", "", none⟩,
  ⟨0x8000, 0x0E, "THR_SHED_PERCENT", "% of THR_POWER_MAX", (some (0, 6579300))⟩,
  ⟨0x8000, 0x0F, "THR_SHED_FREQ", "Hz", none⟩,
  ⟨0x8400, 0x01, "WINCH_AXIS", "", none⟩,
  ⟨0x8400, 0x02, "DRUM_COUNTS_PER_REV", "counts", none⟩,
  ⟨0x8400, 0x03, "DRUM_R_FIRST", "m", none⟩,
  ⟨0x8400, 0x04, "DRUM_LAYER_PITCH", "m", none⟩]

/-- Names and units, part 11. -/
def cardTexts11 : List CardText := [
  ⟨0x8400, 0x05, "DRUM_TURNS_PER_LAYER", "turns", none⟩,
  ⟨0x8400, 0x06, "DRUM_LAYERS", "", none⟩,
  ⟨0x8400, 0x07, "ROPE_LENGTH", "m", none⟩,
  ⟨0x8400, 0x08, "WINCH_MODE", "", none⟩,
  ⟨0x8400, 0x09, "ROPE_SPEED_CMD", "m/s", none⟩,
  ⟨0x8400, 0x0A, "TENSION_SET", "kN", none⟩,
  ⟨0x8400, 0x0B, "TENSION_SOURCE", "", none⟩,
  ⟨0x8400, 0x0C, "TENSION_MEAS", "kN", none⟩,
  ⟨0x8400, 0x0D, "TENSION_GAIN", "m/s per kN", none⟩,
  ⟨0x8400, 0x0E, "CT_SPEED_MAX", "m/s", none⟩,
  ⟨0x8400, 0x0F, "AHC_HEAVE", "m", none⟩,
  ⟨0x8400, 0x10, "AHC_HEAVE_VEL", "m/s", none⟩,
  ⟨0x8400, 0x11, "AHC_REF_TIME", "ns", none⟩,
  ⟨0x8400, 0x12, "AHC_LEAD", "ms", none⟩,
  ⟨0x8400, 0x13, "AHC_POS_GAIN", "1/s", none⟩,
  ⟨0x8400, 0x14, "AHC_FADE", "ms", none⟩,
  ⟨0x8400, 0x15, "WINCH_RELEASE", "", none⟩,
  ⟨0x8400, 0x16, "RELEASE_TENSION", "kN", none⟩,
  ⟨0x8400, 0x17, "RELEASE_SPEED", "m/s", none⟩,
  ⟨0x8400, 0x18, "RELEASE_RESERVE", "m", none⟩,
  ⟨0x8400, 0x19, "WINCH_BRAKE", "", none⟩,
  ⟨0x8400, 0x1A, "SPOOL_AXIS", "", none⟩,
  ⟨0x8400, 0x1B, "SPOOL_CMP", "", none⟩,
  ⟨0x8400, 0x1C, "SPOOL_FLANGE_A", "counts", none⟩,
  ⟨0x8400, 0x1D, "SPOOL_FLANGE_B", "counts", none⟩,
  ⟨0x8400, 0x1E, "SPOOL_ENABLE", "", none⟩,
  ⟨0x8400, 0x1F, "PAYOUT_SET", "m", none⟩,
  ⟨0x8400, 0x20, "PAYOUT", "m", none⟩,
  ⟨0x8400, 0x21, "TENSION_NOW", "kN", none⟩,
  ⟨0x8400, 0x22, "WINCH_STATUS", "", none⟩,
  ⟨0x8800, 0x01, "REC_ENABLE", "", none⟩,
  ⟨0x8800, 0x02, "REC_POST", "s", none⟩,
  ⟨0x8800, 0x03, "REC_FREEZE", "", none⟩,
  ⟨0x8800, 0x04, "REC_REARM", "", none⟩,
  ⟨0x8800, 0x05, "REC_STATUS", "", none⟩,
  ⟨0x8800, 0x06, "REC_EXTRACT", "", none⟩,
  ⟨0x8800, 0x07, "REC_HISTORY", "", none⟩,
  ⟨0x8801, 0x01, "REC_TRIGGER", "", none⟩,
  ⟨0x8820, 0x01, "REC_SOURCE", "", none⟩,
  ⟨0x8820, 0x02, "REC_SCALE", "signal unit per stored step", none⟩]

/-- Names and units, part 12. -/
def cardTexts12 : List CardText := [
  ⟨0x8820, 0x03, "REC_OFFSET", "signal unit", none⟩,
  ⟨0x8000, 0x10, "THR_STATUS", "", none⟩,
  ⟨0x9000, 0x01, "TEST_ENABLE", "", none⟩,
  ⟨0x9000, 0x02, "TEST_STATUS", "", none⟩,
  ⟨0x9000, 0x03, "TEST_RERUN", "", none⟩,
  ⟨0x9000, 0x04, "TEST_CTRL", "", none⟩,
  ⟨0x9000, 0x05, "BSCAN_ENABLE", "", none⟩,
  ⟨0x9011, 0x01, "TEST_CYCLE_TARGET", "s", none⟩,
  ⟨0x9012, 0x01, "TEST_CYCLE_TARGET", "s", none⟩,
  ⟨0x9013, 0x01, "TEST_CYCLE_TARGET", "s", none⟩,
  ⟨0x9014, 0x01, "TEST_CYCLE_TARGET", "s", none⟩,
  ⟨0x9015, 0x01, "TEST_CYCLE_TARGET", "s", none⟩,
  ⟨0x9016, 0x01, "TEST_CYCLE_TARGET", "s", none⟩,
  ⟨0x9017, 0x01, "TEST_CYCLE_TARGET", "s", none⟩,
  ⟨0x9018, 0x01, "TEST_CYCLE_TARGET", "s", none⟩,
  ⟨0x9019, 0x01, "TEST_CYCLE_TARGET", "s", none⟩,
  ⟨0x901A, 0x01, "TEST_CYCLE_TARGET", "s", none⟩,
  ⟨0x901B, 0x01, "TEST_CYCLE_TARGET", "s", none⟩,
  ⟨0x901C, 0x01, "TEST_CYCLE_TARGET", "s", none⟩,
  ⟨0x901D, 0x01, "TEST_CYCLE_TARGET", "s", none⟩,
  ⟨0x901E, 0x01, "TEST_CYCLE_TARGET", "s", none⟩,
  ⟨0x901F, 0x01, "TEST_CYCLE_TARGET", "s", none⟩,
  ⟨0x9020, 0x01, "TEST_CYCLE_TARGET", "s", none⟩,
  ⟨0x9011, 0x02, "COVERAGE", "0.1 %", (some (0, 1000))⟩,
  ⟨0x9012, 0x02, "COVERAGE", "0.1 %", (some (0, 1000))⟩,
  ⟨0x9013, 0x02, "COVERAGE", "0.1 %", (some (0, 1000))⟩,
  ⟨0x9014, 0x02, "COVERAGE", "0.1 %", (some (0, 1000))⟩,
  ⟨0x9015, 0x02, "COVERAGE", "0.1 %", (some (0, 1000))⟩,
  ⟨0x9016, 0x02, "COVERAGE", "0.1 %", (some (0, 1000))⟩,
  ⟨0x9017, 0x02, "COVERAGE", "0.1 %", (some (0, 1000))⟩,
  ⟨0x9018, 0x02, "COVERAGE", "0.1 %", (some (0, 1000))⟩,
  ⟨0x9019, 0x02, "COVERAGE", "0.1 %", (some (0, 1000))⟩,
  ⟨0x901A, 0x02, "COVERAGE", "0.1 %", (some (0, 1000))⟩,
  ⟨0x901B, 0x02, "COVERAGE", "0.1 %", (some (0, 1000))⟩,
  ⟨0x901C, 0x02, "COVERAGE", "0.1 %", (some (0, 1000))⟩,
  ⟨0x901D, 0x02, "COVERAGE", "0.1 %", (some (0, 1000))⟩,
  ⟨0x901E, 0x02, "COVERAGE", "0.1 %", (some (0, 1000))⟩,
  ⟨0x901F, 0x02, "COVERAGE", "0.1 %", (some (0, 1000))⟩,
  ⟨0x9020, 0x02, "COVERAGE", "0.1 %", (some (0, 1000))⟩,
  ⟨0x9011, 0x03, "SLICES_PER_CYCLE", "slices", (some (1, 4096))⟩]

/-- Names and units, part 13. -/
def cardTexts13 : List CardText := [
  ⟨0x9012, 0x03, "SLICES_PER_CYCLE", "slices", (some (1, 4096))⟩,
  ⟨0x9013, 0x03, "SLICES_PER_CYCLE", "slices", (some (1, 4096))⟩,
  ⟨0x9014, 0x03, "SLICES_PER_CYCLE", "slices", (some (1, 4096))⟩,
  ⟨0x9015, 0x03, "SLICES_PER_CYCLE", "slices", (some (1, 4096))⟩,
  ⟨0x9016, 0x03, "SLICES_PER_CYCLE", "slices", (some (1, 4096))⟩,
  ⟨0x9017, 0x03, "SLICES_PER_CYCLE", "slices", (some (1, 4096))⟩,
  ⟨0x9018, 0x03, "SLICES_PER_CYCLE", "slices", (some (1, 4096))⟩,
  ⟨0x9019, 0x03, "SLICES_PER_CYCLE", "slices", (some (1, 4096))⟩,
  ⟨0x901A, 0x03, "SLICES_PER_CYCLE", "slices", (some (1, 4096))⟩,
  ⟨0x901B, 0x03, "SLICES_PER_CYCLE", "slices", (some (1, 4096))⟩,
  ⟨0x901C, 0x03, "SLICES_PER_CYCLE", "slices", (some (1, 4096))⟩,
  ⟨0x901D, 0x03, "SLICES_PER_CYCLE", "slices", (some (1, 4096))⟩,
  ⟨0x901E, 0x03, "SLICES_PER_CYCLE", "slices", (some (1, 4096))⟩,
  ⟨0x901F, 0x03, "SLICES_PER_CYCLE", "slices", (some (1, 4096))⟩,
  ⟨0x9020, 0x03, "SLICES_PER_CYCLE", "slices", (some (1, 4096))⟩,
  ⟨0x9041, 0x01, "SLICE_RESULT", "", none⟩,
  ⟨0x9042, 0x01, "SLICE_RESULT", "", none⟩,
  ⟨0x9043, 0x01, "SLICE_RESULT", "", none⟩,
  ⟨0x9044, 0x01, "SLICE_RESULT", "", none⟩,
  ⟨0x9045, 0x01, "SLICE_RESULT", "", none⟩,
  ⟨0x9046, 0x01, "SLICE_RESULT", "", none⟩,
  ⟨0x9047, 0x01, "SLICE_RESULT", "", none⟩,
  ⟨0x9048, 0x01, "SLICE_RESULT", "", none⟩,
  ⟨0x9049, 0x01, "SLICE_RESULT", "", none⟩,
  ⟨0x904A, 0x01, "SLICE_RESULT", "", none⟩,
  ⟨0x904B, 0x01, "SLICE_RESULT", "", none⟩,
  ⟨0x904C, 0x01, "SLICE_RESULT", "", none⟩,
  ⟨0x904D, 0x01, "SLICE_RESULT", "", none⟩,
  ⟨0x904E, 0x01, "SLICE_RESULT", "", none⟩,
  ⟨0x904F, 0x01, "SLICE_RESULT", "", none⟩,
  ⟨0x9050, 0x01, "SLICE_RESULT", "", none⟩,
  ⟨0x9061, 0x01, "FULL_CYCLE_LAST", "ms", (some (0, 4294967295))⟩,
  ⟨0x9062, 0x01, "FULL_CYCLE_LAST", "ms", (some (0, 4294967295))⟩,
  ⟨0x9063, 0x01, "FULL_CYCLE_LAST", "ms", (some (0, 4294967295))⟩,
  ⟨0x9064, 0x01, "FULL_CYCLE_LAST", "ms", (some (0, 4294967295))⟩,
  ⟨0x9065, 0x01, "FULL_CYCLE_LAST", "ms", (some (0, 4294967295))⟩,
  ⟨0x9066, 0x01, "FULL_CYCLE_LAST", "ms", (some (0, 4294967295))⟩,
  ⟨0x9067, 0x01, "FULL_CYCLE_LAST", "ms", (some (0, 4294967295))⟩,
  ⟨0x9068, 0x01, "FULL_CYCLE_LAST", "ms", (some (0, 4294967295))⟩,
  ⟨0x9069, 0x01, "FULL_CYCLE_LAST", "ms", (some (0, 4294967295))⟩]

/-- Names and units, part 14. -/
def cardTexts14 : List CardText := [
  ⟨0x906A, 0x01, "FULL_CYCLE_LAST", "ms", (some (0, 4294967295))⟩,
  ⟨0x906B, 0x01, "FULL_CYCLE_LAST", "ms", (some (0, 4294967295))⟩,
  ⟨0x906C, 0x01, "FULL_CYCLE_LAST", "ms", (some (0, 4294967295))⟩,
  ⟨0x906D, 0x01, "FULL_CYCLE_LAST", "ms", (some (0, 4294967295))⟩,
  ⟨0x906E, 0x01, "FULL_CYCLE_LAST", "ms", (some (0, 4294967295))⟩,
  ⟨0x906F, 0x01, "FULL_CYCLE_LAST", "ms", (some (0, 4294967295))⟩,
  ⟨0x9070, 0x01, "FULL_CYCLE_LAST", "ms", (some (0, 4294967295))⟩,
  ⟨0x9081, 0x01, "ABORT_COUNT", "", (some (0, 4294967295))⟩,
  ⟨0x9082, 0x01, "ABORT_COUNT", "", (some (0, 4294967295))⟩,
  ⟨0x9083, 0x01, "ABORT_COUNT", "", (some (0, 4294967295))⟩,
  ⟨0x9084, 0x01, "ABORT_COUNT", "", (some (0, 4294967295))⟩,
  ⟨0x9085, 0x01, "ABORT_COUNT", "", (some (0, 4294967295))⟩,
  ⟨0x9086, 0x01, "ABORT_COUNT", "", (some (0, 4294967295))⟩,
  ⟨0x9087, 0x01, "ABORT_COUNT", "", (some (0, 4294967295))⟩,
  ⟨0x9088, 0x01, "ABORT_COUNT", "", (some (0, 4294967295))⟩,
  ⟨0x9089, 0x01, "ABORT_COUNT", "", (some (0, 4294967295))⟩,
  ⟨0x908A, 0x01, "ABORT_COUNT", "", (some (0, 4294967295))⟩,
  ⟨0x908B, 0x01, "ABORT_COUNT", "", (some (0, 4294967295))⟩,
  ⟨0x908C, 0x01, "ABORT_COUNT", "", (some (0, 4294967295))⟩,
  ⟨0x908D, 0x01, "ABORT_COUNT", "", (some (0, 4294967295))⟩,
  ⟨0x908E, 0x01, "ABORT_COUNT", "", (some (0, 4294967295))⟩,
  ⟨0x908F, 0x01, "ABORT_COUNT", "", (some (0, 4294967295))⟩,
  ⟨0x9090, 0x01, "ABORT_COUNT", "", (some (0, 4294967295))⟩,
  ⟨0x1100, 0x01, "POWER_MODE", "", none⟩,
  ⟨0x1100, 0x02, "DOMAIN_STATUS", "", none⟩,
  ⟨0x1100, 0x03, "DOMAIN_CTRL", "", (some (256, 779))⟩,
  ⟨0x1100, 0x04, "POWER_CONFIG", "", none⟩,
  ⟨0x1100, 0x05, "SUPPLY_NOW", "mV", (some (0, 40000))⟩,
  ⟨0x1100, 0x06, "VKEEP_NOW", "mV", (some (0, 4000))⟩,
  ⟨0x1100, 0x07, "LAST_START", "", (some (0, 5))⟩,
  ⟨0x1100, 0x08, "RTC_TIME", "s", none⟩,
  ⟨0x1020, 0x01, "LC_STATE", "", (some (0, 4))⟩,
  ⟨0x1020, 0x02, "LC_NONCE", "", (some (0, 4294967295))⟩,
  ⟨0x1020, 0x03, "LC_CONSENT", "", none⟩,
  ⟨0x1020, 0x04, "LC_TOKEN", "", none⟩,
  ⟨0x1020, 0x05, "LC_ADVANCE", "", none⟩,
  ⟨0x9110, 0x01, "FW_IMAGE", "", none⟩,
  ⟨0x9110, 0x02, "FW_ACTIVATE", "", none⟩,
  ⟨0x9110, 0x03, "FW_STATUS", "", none⟩,
  ⟨0x9110, 0x04, "FW_VERSION_A", "", (some (0, 4294967295))⟩]

/-- Names and units, part 15. -/
def cardTexts15 : List CardText := [
  ⟨0x9110, 0x05, "FW_VERSION_B", "", none⟩,
  ⟨0x1100, 0x09, "BASEPLATE_TEMP", "0.1 °C", (some (-550, 1500))⟩]

/-- Names and units of every card. -/
def cardTexts : List CardText :=
  cardTexts0 ++ cardTexts1 ++ cardTexts2 ++ cardTexts3 ++ cardTexts4 ++ cardTexts5 ++ cardTexts6 ++ cardTexts7 ++ cardTexts8 ++ cardTexts9 ++ cardTexts10 ++ cardTexts11 ++ cardTexts12 ++ cardTexts13 ++ cardTexts14 ++ cardTexts15

end Sys2Proof.Machine
end

