-- ==== Sys2Proof/Machine/Dictionary.lean ====
section
/-! DEFINITION. The Daric dictionary as one set of objects (10, R338 to R340, R344 to R356): what each object does with an
accepted write, values as bytes, the dictionary description, the event log's reading, and the flash. -/

namespace Sys2Proof.Machine

open Host

/-! ### Axis setup (R155, R158) -/

/-- AXIS_TYPE, FIRST_LEG or LEGS_PER_PHASE in force: the legs follow the new assignment, and the axis belongs to its home
crest (R3, R155). DEDUCED, log entry 78. -/
def State.axisSetup (s : State) (x : AxisN) (a : Nat) (v : Int) : Acted :=
  let s := (s.setObj a v).assignLegs
  let c := s.homeCrest x
  let s := s.modField x fun f => { f with crest := c, unplaced := s.crests[c].state == .retired }
  (s.each allAxes fun s b => s.feedEnables b).cmpInvalidate.done

/-! ### Ethernet ports (R357) -/

/-- A write of 1 to ETH_REINSTATE (R357): a retired port starts again with its counts clear. -/
def State.ethReinstateAct (s : State) (p : EthN) : Acted :=
  if s.net.ports[p].state == .retired then
    ((s.modEth p fun x => { x with state := .down, faults := [], retireLatch := false }).event 0x8008 p).done
  else s.lock

/-- ETH_REINSTATE (R357). -/
def execEthReinstate (src : Src) (p : EthN) (v : Int) (s : State) : Outcome State Fault Refusal :=
  .next (s.writeRow src (O.ethReinstate p) v fun s => s.ethReinstateAct p)

/-- A write of ETH_SPEED (R327): a link that is up at a rate it does not allow goes down, and comes up anew by ETH_LINK_UP. It is no
loss of link that counts. DESIGN CHOICE, log entry 74. -/
def State.speedAct (s : State) (p : EthN) (v : Int) : Acted :=
  let wrong := fun (x : EthPort) => match x.state with
    | .up1000 => v == 2
    | .up100 => v == 1
    | .down | .retired => false
  ((s.takeValue (O.ethSpeed p) v).modEth p fun x => if wrong x then { x.clear with state := .down } else x).done

/-! ### Time discipline (R21, R332) -/

/-- A write of PTP_ROLE or REF_DISCIPLINE: with role 0 there is no time; DISCIPLINED needs both (R21, R332).
DESIGN CHOICE, log entry 74. -/
def State.timeAct (s : State) (a : Nat) (v : Int) : Acted :=
  let s := s.takeValue a v
  if v ≠ 0 then s.done
  else if a == O.ptpRole then s.ptpLoss.done
  else
    let s := s.steerNow
    { s with ref := { s.ref with disciplined := false, aim := s.ref.steer, slewLimited := false } }.done

/-! ### Cyclic frames (R349) -/

/-- Payload bytes of frame k. -/
def State.cyclicLength (s : State) (k : CycN) : Nat :=
  (s.frameObjects k).foldl (fun n a => n + (((cardOf a).bind (·.ty.bytes)).getD 0)) 0

/-- Every mapped object of a receive frame has Access OPERATE or lower (R349). -/
def State.cyclicWritable (s : State) (k : CycN) : Bool :=
  (s.frameObjects k).all fun a => match cardOf a with
    | some c => match accessOf a c with
      | some l => levelRank l ≤ 1
      | none => false
    | none => false

/-- A write of CYC_ENABLE (R349): a payload above 1,440 bytes, or a receive frame with an object it may not write, is
OUT_OF_RANGE. The frame starts with empty buffers. -/
def State.cycEnableAct (s : State) (k : CycN) (v : Int) : Acted :=
  if v ≠ 0 && (1440 < s.cyclicLength k || (s.cfgN (O.cycDir k) == 0 && !s.cyclicWritable k)) then (s, .outOfRange, 0)
  else
    let s := s.takeValue (O.cycEnable k) v
    { s with net := { s.net with cyclic := s.net.cyclic.set k {} } }.done

/-! ### The event log (R1, R355, R356) -/

/-- Release the latches that wait on the reading of an event (Tables 1.2, 1.12, 2.14, 3.4, 4.7, 9.3, 10.15).
DEDUCED, log entry 76. -/
def State.releaseLatch (s : State) (e : Event) : State :=
  let i := e.inst
  let block := e.code / 0x1000
  let retired : Bool := e.code / 0x100 % 16 % 8 == 4
  let unLeg := fun (s : State) (n : Nat) => match fin? 48 n with
    | some l => s.modLeg l fun L => { L with retireLatch := false }
    | none => s
  let unChan := fun (s : State) (n : Nat) => match fin? 48 n with
    | some f => s.modChan f fun c => { c with retireLatch := false }
    | none => s
  let unCan := fun (s : State) (n : Nat) => match fin? 2 n with
    | some p => s.modCan p fun c => { c with retireLatch := false }
    | none => s
  if e.code == 0xC205 then { s with ref := { s.ref with lossLatch := false } }
  else if e.code == 0xC203 then
    match fin? 4 i with
    | some c => s.modCrest c fun x => { x with deadlineLatch := false }
    | none => s
  else if e.code == 0xC201 then
    match (if i / 256 == 1 || i / 256 == 4 then fin? 4 (i % 256) else none) with
    | some c => s.modCrest c fun x => { x with checkLatch := false }
    | none => s
  else if e.code == 0x2207 then
    match fin? 48 i with
    | some l => s.modInput l fun x => { x with ocLatch := false }
    | none => s
  else if e.code == 0xA403 then
    if i / 256 == 7 then unLeg s (i % 256) else if i / 256 == 6 then unChan s (i % 256)
    else if i / 256 == 0x0F then unCan s (i % 256) else s
  else if !retired then s
  else if block == 1 then (if e.code == 0x140E then s else unLeg s i)
  else if block == 3 then unChan s i
  else if block == 7 then unCan s i
  else if block == 8 then
    match fin? 2 i with
    | some p => s.modEth p fun x => { x with retireLatch := false }
    | none => s
  else s

/-- ATTN stands while an announced entry remains unread, also one that the ring or MEM has lost (R355, R473).
DEDUCED, log entry 98. -/
def State.settleAttn (s : State) : State :=
  { s with log := { s.log with attn := s.log.announcedUnread != 0 } }

/-- Entry i has been read (R356). DEDUCED, log entry 76. -/
def State.markRead (s : State) (i : Nat) : State :=
  match s.log.entries.find? fun e => e.entry == i && e.unread with
  | none => s
  | some e =>
    let s := { s with log := { s.log with
      entries := s.log.entries.map fun (x : Event) => if x.entry == i then { x with unread := false } else x
      announcedUnread := s.log.announcedUnread - (if e.announced then 1 else 0)
      unheard := s.log.unheard.filter fun (x : Event) => !(x.entry == i && x.time == e.time && x.code == e.code && x.inst == e.inst) } }
    (s.releaseLatch e).settleAttn

/-- EVENT_ENTRY_READ (R356): subindex 0x01 of entry i has been read. -/
def execEventEntryRead (i : EntryN) (s : State) : Outcome State Fault Refusal :=
  .next (if s.runs Dom.mem then s.markRead i.val else s)

/-- A write of 1 to EVENT_ACK_ALL (R356). -/
def State.eventAckAllAct (s : State) : Acted :=
  let s := s.each (s.log.entries ++ s.log.passed) fun s e => if e.unread then s.releaseLatch e else s
  { s with log := { s.log with
    entries := s.log.entries.map fun (x : Event) => { x with unread := false }
    announcedUnread := 0, unheard := [], passed := [], attn := false } }.done

/-- EVENT_ACK_ALL (R356). -/
def execEventAckAll (src : Src) (v : Int) (s : State) : Outcome State Fault Refusal :=
  .next (s.writeRow src O.eventAckAll v fun s => s.eventAckAllAct)

/-- EVENT_REPEAT (R355): the unread announcements are sent again. -/
def execEventRepeat (s : State) : Outcome State Fault Refusal :=
  if s.runs Dom.net then
    .next (s.each s.log.unheard.reverse State.sendEvent)
  else .next s

/-! ### What an object does with an accepted write -/

/-- The behaviour of the objects of one axis. -/
def State.writeAxis (s : State) (x : AxisN) (a : Nat) (v : Int) : Acted :=
  if a == O.axisCommand x then s.axisCommand x v
  else if a == O.keAck x then s.keAck x
  else if a == O.homeCommand x then s.homeCommand x v
  else if a == O.axisType x || a == O.firstLeg x || a == O.legsPerPhase x then s.axisSetup x a v
  else (s.takeValue a v).done

/-- The behaviour of the objects of one leg. -/
def State.writeLeg (s : State) (l : LegN) (a : Nat) (v : Int) : Acted :=
  if a == O.legReinstate l then s.legReinstate l
  else if a == O.ciReinstate l then s.ciReinstate l
  else (s.takeValue a v).done

/-- The behaviour of the objects of one feedback channel. -/
def State.writeChan (s : State) (f : ChanN) (a : Nat) (v : Int) : Acted :=
  if a == O.fbType f || a == O.fbInvert f || a == O.countsPerRev f then s.fbSetAndRestart f a v
  else if a == O.fbReinstate f then s.fbReinstate f
  else if a == O.indexArm f then s.indexArm f
  else (s.takeValue a v).done

/-- The behaviour of the objects of a compare unit (R255). -/
def State.writeUnit (s : State) (u : UnitN) (a : Nat) (v : Int) : Acted :=
  if a == O.cmpEnable u || a == O.cmpPosition u || a == O.cmpDirection u || a == O.cmpSource u then s.cmpWrite u a v
  else (s.takeValue a v).done

/-- The behaviour of the objects of CAN port p. -/
def State.writeCan (s : State) (p : CanN) (a : Nat) (v : Int) : Acted :=
  if a == O.canMode p then s.canModeAct p v
  else if a == O.canRelease p then s.canReleaseAct p v
  else if a == O.canReinstate p then s.canReinstateAct p v
  else if a == O.canAbort p then s.canAbortAct p v
  else (s.takeValue a v).done

/-- The behaviour of the objects of thruster t. -/
def State.writeThr (s : State) (t : SvcN) (a : Nat) (v : Int) : Acted :=
  if a == O.thrEnable t then s.thrEnableAct t v
  else if a == O.thrCrash t then s.thrCrashAct t v
  else (s.takeValue a v).done

/-- The behaviour of the objects of winch w. -/
def State.writeWinch (s : State) (w : SvcN) (a : Nat) (v : Int) : Acted :=
  if a == O.winchMode w then s.winchModeAct w v
  else if a == O.winchRelease w then s.winchReleaseAct w v
  else if a == O.spoolEnable w then s.spoolEnableAct w v
  else if a == O.payoutSet w then s.payoutSetAct w v
  else if a == O.tensionMeas w then s.tensionMeasAct w v
  else if a == O.ahcRefTime w then s.refTimeAct w v
  else (s.takeValue a v).done

/-- The behaviour of the objects that the whole module has once. -/
def State.writeModule (s : State) (src : Src) (a : Nat) (v : Int) : Acted :=
  if a == O.powerBudget then (s.takeValue a v).budgetWritten.done
  else if a == O.shipFreq then (s.takeValue a v).freqWrote.done
  else if a == O.ptpRole || a == O.refDiscipline then s.timeAct a v
  else if a == O.ethSpeed 0 then s.speedAct 0 v
  else if a == O.ethSpeed 1 then s.speedAct 1 v
  else if a == O.eventAckAll then s.eventAckAllAct
  else if a == O.configSeal then s.sealAct src v
  else if a == O.recFreeze then s.recFreezeAct
  else if a == O.recRearm then s.recRearmAct
  else if a == O.recEnable then s.recEnableAct v
  else if a == O.testRerun then s.testRerunAct v
  else if a == O.testEnable then s.testEnableAct v
  else if a == O.testCtrl then s.testCtrlAct v
  else if a == O.bscanEnable then s.bscanAct v
  else if a == O.powerMode then s.powerModeAct v
  else if a == O.domainCtrl then s.domainCtrlAct v
  else if a == O.lcAdvance then s.lcAdvanceAct src v
  else (s.takeValue a v).done

/-- What a write that has passed `writeRefusal` does, object by object; an object without behaviour of its own takes the
value by its Takes effect (R13). -/
def State.writeAct (s : State) (src : Src) (a : Nat) (v : Int) : Acted :=
  let i := a / 256
  match axisOfIndex i, legOfIndex i, chanOfIndex i, canOfIndex i with
  | some x, _, _, _ => s.writeAxis x a v
  | _, some l, _, _ => s.writeLeg l a v
  | _, _, some f, _ => s.writeChan f a v
  | _, _, _, some p => s.writeCan p a v
  | none, none, none, none =>
    if isSafetyCfg a then s.safetyCfgAct src a v
    else if h : 0x2010 ≤ i ∧ i < 0x2050 then
      let c : CrestN := ⟨(i - 0x2010) / 0x10, by omega⟩
      if a == O.crestReinstate c then s.crestReinstate c else (s.takeValue a v).done
    else if h : 0x5C00 ≤ i ∧ i < 0x5E00 then s.writeUnit ⟨(i - 0x5C00) / 0x10, by omega⟩ a v
    else if h : 0x5E10 ≤ i ∧ i < 0x5E90 then
      let p : PtN := ⟨(i - 0x5E10) / 0x10, by omega⟩
      if a == O.ptSource p then s.ptSource p v else (s.takeValue a v).done
    else if h : 0x5F00 ≤ i ∧ i < 0x5F40 then
      let t : TableN := ⟨(i - 0x5F00) / 0x10, by omega⟩
      if a == O.stepTableCommit t then s.stepTableCommit t
      else if a == O.stepTableRestore t then s.stepTableRestore t
      else (s.takeValue a v).done
    else if h : 0x1210 ≤ i ∧ i < 0x1220 then
      let p : EthN := ⟨(i - 0x1210) / 8, by omega⟩
      if a == O.ethReinstate p then s.ethReinstateAct p else (s.takeValue a v).done
    else if h : 0x1500 ≤ i ∧ i < 0x1510 then
      let k : CycN := ⟨i - 0x1500, by omega⟩
      if a == O.cycEnable k then s.cycEnableAct k v else (s.takeValue a v).done
    else if h : 0x7400 ≤ i ∧ i < 0x7480 then
      let k : SbcN := ⟨(i - 0x7400) / 8, by omega⟩
      if a == O.brakeCmd k then s.brakeCmdAct k v else (s.takeValue a v).done
    else if h : 0x8000 ≤ i ∧ i < 0x8200 then s.writeThr ⟨(i - 0x8000) / 0x40, by omega⟩ a v
    else if h : 0x8400 ≤ i ∧ i < 0x8600 then s.writeWinch ⟨(i - 0x8400) / 0x40, by omega⟩ a v
    else if h : 0x9110 ≤ i ∧ i < 0x9113 then
      let k : FwN := ⟨i - 0x9110, by omega⟩
      if a == O.fwActivate k then s.fwActivateAct k else (s.takeValue a v).done
    else s.writeModule src a v

/-- OBJECT_WRITE (R12 to R14, R352): a write of an object from a source. -/
def execObjectWrite (src : Src) (r : Ref) (v : Int) (s : State) : Outcome State Fault Refusal :=
  .next (s.writeRow src (Ref.addr r) v fun s => s.writeAct src (Ref.addr r) v)

/-! ### The dictionary description (R353) -/

/-- Access code: `some .read` stands for ANY. -/
def accessCode : Option Level → Nat
  | none => 0 | some .operate => 1 | some .configure => 2 | some .safety => 3 | some .maker => 4 | some .read => 5
/-- Persistence code. -/
def Persist.code : Persist → Nat
  | .volatile => 0 | .stored => 1 | .keep => 2 | .factory => 3
/-- Takes effect code; 0 on a read-only object. -/
def effectCode (c : Card) : Nat :=
  if c.write.isNone then 0
  else match c.effect with
    | .immediate => 1 | .nextCycle => 2 | .nextPlanner => 3 | .nextArbiter => 4 | .whenDisabled => 5 | .atRestart => 6

/-- Largest length of a DOMAIN or STR object; 0 where the manual gives none. -/
def maxLength (a : Nat) : Nat :=
  let i := a / 256
  if i / 0x10 == 0x5F0 || (0x5F00 ≤ i && i < 0x5F40) then 2048
  else if a == O.sessionCredential then 512
  else if a == O.safetyPasswordNew then 16
  else if a == O.changeLog then 8192
  else if a == O.lcToken then 80
  else match fin? 3 (i - 0x9110) with
    | some k => if 0x9110 ≤ i && a % 256 == 1 then fwMax k else 0
    | none => 0

/-- The least and greatest value of a card, as numbers or binary32 patterns. -/
def Card.bounds (c : Card) (t : CardText) : Int × Int :=
  match t.bounds with
  | some b => b
  | none =>
    match c.range with
    | .ints lo hi | .stepped lo hi _ => (lo, hi)
    | .intsOr lo hi xs => (xs.foldl min lo, xs.foldl max hi)
    | .oneOf vs => (vs.foldl min (vs.headD 0), vs.foldl max (vs.headD 0))
    | .floats lo hi | .floatsNotZero lo hi => (lo, hi)
    | .floatsOrZero _ hi => (0, hi)
    | .finite | .finiteNotZero => (0xFF7FFFFF, 0x7F7FFFFF)
    | .all | .custom => if c.ty == .f32 then (0xFF7FFFFF, 0x7F7FFFFF) else c.ty.bounds

/-- The text of a card. -/
def textOf (c : Card) : CardText :=
  (cardTexts.find? fun t => t.index == c.index && t.sub == c.sub).getD ⟨c.index, c.sub, "", "", none⟩

/-- The description record of the object at index i, subindex sub (Table 10.11). DEDUCED, log entry 76. -/
def describe (c : Card) (i sub : Nat) : List Byte :=
  let t := textOf c
  let name := t.name.toUTF8.toList.map fun b => BitVec.ofNat 8 b.toNat
  let unit := t.unit.toUTF8.toList.map fun b => BitVec.ofNat 8 b.toNat
  let long : Bool := c.ty == .domain || c.ty == .str
  let lo : Int := if long then 0 else (c.bounds t).1
  let hi : Int := if long then (maxLength (i * 256 + sub) : Nat) else (c.bounds t).2
  let wide := fun (v : Int) => match c.ty.bytes with
    | some n => leBytes n v ++ List.replicate (8 - n) 0#8
    | none => leBytes 8 v
  leBytes 2 i ++ leBytes 1 sub ++ leBytes 1 (c.ty.code : Nat) ++ leBytes 1 (accessCode (accessOf (i * 256 + sub) c) : Nat)
    ++ leBytes 1 (c.persist.code : Nat) ++ leBytes 1 (effectCode c : Nat) ++ leBytes 1 (name.length : Nat)
    ++ wide c.dflt ++ wide lo ++ wide hi ++ leBytes 1 (unit.length : Nat) ++ name ++ unit

/-- DICT_DESCRIPTION (R353): one record per object present, ascending, and a last record of INDEX 0xFFFF.
DEDUCED, log entry 77. -/
def dictDescription : List Byte :=
  ((List.range 0xB000).flatMap fun i =>
    let here := cards.filter fun c => c.covers (i * 256 + c.sub)
    if here.isEmpty then []
    else (List.range 256).flatMap fun sub => match here.find? fun c => c.covers (i * 256 + sub) with
      | some c => describe c i sub
      | none => []) ++ leBytes 2 (0xFFFF : Nat) ++ List.replicate 31 0#8

/-! ### The bytes of a DOMAIN object -/

/-- An entry of the change log (Table 12.6). -/
def Change.bytes (c : Change) : List Byte :=
  leBytes 4 (c.entryNo : Nat) ++ leBytes 4 (c.time : Nat) ++ leBytes 2 (c.index : Nat) ++ leBytes 1 (c.sub : Nat)
    ++ leBytes 1 (c.source : Nat) ++ leBytes 1 (c.event : Nat) ++ List.replicate 3 0#8
    ++ (match (cardOf (c.index * 256 + c.sub)).bind (·.ty.bytes) with
        | some n => leBytes n c.old ++ List.replicate (8 - n) 0#8 ++ leBytes n c.new ++ List.replicate (8 - n) 0#8
        | none => leBytes 8 c.old ++ leBytes 8 c.new)

/-- CHANGE_LOG: 256 entries in ring order; entry n lies at (n − 1) mod 256, an entry never written reads 0 (R414).
DEDUCED, log entry 77. -/
def State.changeLog (s : State) : List Byte :=
  (List.range 256).flatMap fun k => match s.safety.changes.find? fun c => (c.entryNo - 1) % 256 == k with
    | some c => c.bytes
    | none => List.replicate 32 0#8

/-- What a DOMAIN object reads as. -/
def State.domainBytes (s : State) (a : Nat) : List Byte :=
  let i := a / 256
  if a == O.dictDescription then Sys2Proof.Machine.dictDescription
  else if a == O.changeLog then s.changeLog
  else if a == O.recExtract then s.recExtract
  else if a == O.recHistory then s.recHistory
  else if a == O.lcToken then s.power.token
  else if h : 0x5F00 ≤ i ∧ i < 0x5F40 then s.tables[(i - 0x5F00) / 0x10].staging
  else match (if 0x9110 ≤ i then fin? 3 (i - 0x9110) else none) with
    | some k => s.power.fw[k].image
    | none => []

/-! ### Reading one value -/

/-- The refusal of a read (R340, R344, Table 15.5). -/
def State.readRefusal (s : State) (a : Nat) : Option (Reply × Nat) :=
  let i := a / 256
  if s.cfgN O.lcState == 4 && !((0x1000 ≤ i && i < 0x1200) || (0xA000 ≤ i && i < 0xA400)) then some (.refused, 0)
  else match cardOf a with
    | none => some (.unknownObject, 0)
    | some _ => s.domainRefusal i

/-- What follows from reading a value: latches that stand since the last reading, and the entry of the event log (R356). -/
def State.wasRead (s : State) (a : Nat) : State :=
  let s := (s.accessed a).readClears a
  if 0xA010 ≤ a / 256 && a / 256 < 0xA400 && a % 256 == 1 then s.markRead (a / 256 - 0xA010) else s

/-! ### The flash (R354) -/

/-- Step 4 of an accepted seal (R416): SAFE-P closes as R365 states, and both paths restart. DEDUCED, log entry 65. -/
def State.restartPaths (s : State) : State :=
  s.each [Dom.safeP, Dom.safeL] fun s d =>
    if s.domains[d].state == .run then s.closeDomain d .reset true else s

/-- STORED_WRITE_REACHES_FLASH (R354): the value of the object survives a loss of power from now on. An image piece or a
seal whose flash write this was is answered now (R347, R416), and a closure that waited for it goes on (R471). -/
def execStoredWriteReachesFlash (r : Ref) (s : State) : Outcome State Fault Refusal :=
  let a := Ref.addr r
  if s.power.mode == .off then .next s
  else
    let s := if persistOf a == .stored then { s with flash := storeSet s.flash a (s.val a) } else s
    let seals : Bool := a == O.configSeal && s.safety.sealing.isSome
    let s := if seals then s.sealDone else s
    let s := s.finishRef a .ok
    let s := if seals then s.restartPaths else s
    .next (if s.power.closing.isSome then s.closeNext else s)

end Sys2Proof.Machine
end

