-- ==== Sys2Proof/Machine/Network.lean ====
section
/-! DEFINITION. Orham and the requests of its sessions (10, R327 to R357; R321 and R322 of 09): the policer and the
parser, sessions, repeated requests, access levels and credentials, READ, WRITE and the DOMAIN commands, cyclic frames,
the switch, link faults and IEEE 1588 time. -/

namespace Sys2Proof.Machine

open Host

/-! ### Ports (R32, R345, R351) -/

/-- Subindex − 1 of PORT_MAX_LEVEL, and the instance of 0x8109 (Tables 10.12, 10.16). -/
def levelPort : Port → Nat
  | .ethA => 0 | .ethB => 1 | .canA | .canB => 2 | .service | .safety | .host => 3
/-! ### The way to the parser (R330, R334, R337) -/

/-- The policer of port p takes a queue-0 packet addressed to the module, or drops it (R330). -/
def State.police (s : State) (p : EthN) : State × Bool :=
  let x := s.net.ports[p]
  let full := min (64 * ticksPerS) (x.tokens + (s.ref.time - x.tokensAt) * s.cfgN O.orhamRxLimit)
  if ticksPerS ≤ full then
    (s.modEth p fun x => { x with tokens := full - ticksPerS, tokensAt := s.ref.time }, true)
  else
    let s := (s.count (O.rxPolicedCount p)).modEth p fun x => { x with
      tokens := full, tokensAt := s.ref.time, policedLatch := true }
    if s.logDue s.net.ports[p].policeLogged then
      ((s.modEth p fun x => { x with policeLogged := some s.ref.time }).event 0x8104 p, false)
    else (s, false)

/-- A dictionary request leaves the receive queue of its CAN port (R312, R321). -/
def State.takeRequest (s : State) (p : CanN) (q : Request) : State :=
  s.modCan p fun c => { c with
    rx := dropFirst (fun f => f.ident / 0x4000000 == 4 && f.ident % 0x1000 == q.src % 0x1000 && f.fd == (q.form != 0)) c.rx }

/-- The request reaches the parser: its frame is for it, the policer passes it, its packet is accepted by its bytes, and it is
addressed to this device in one of the forms `forms`. A discarded one is counted (R330, R333, R334, R337); on CAN the frame's own
CRC has been its entry check, and a port that only listens takes it too (R321). DEDUCED, log entry 66. -/
def State.arrive (s : State) (q : Request) (asked : Asked) (forms : List Nat) : State × Bool :=
  match ethOf q.port, canOf q.port with
  | some p, _ =>
    if s.domains[Dom.net].gate == .closed || !s.framed p q.header 0 3 (2 ≤ q.form) then (s, false)
    else
      let (s, taken) := s.police p
      if !taken then (s, false)
      else if !requestSound q asked then (s.count (O.endCheckFailCount p), false)
      else if !s.addressed (dstOf q) then (s, false)
      else if !forms.contains q.form then (s.count (O.badFormCount p), false)
      else (s, true)
  | none, some p =>
    if s.domains[Dom.bus].gate == .closed || s.can[p].state == .off || s.can[p].state == .retired then (s, false)
    else
      let s := s.takeRequest p q
      if asked.named.length ≠ 1 || 1 < q.form || (q.form == 1 && s.cfgN (O.canMode p) == 1) then (s.canDiscard p, false)
      else (s, true)
  | none, none =>
    (s, q.port == .service && s.domains[Dom.mem].gate != .closed && requestSound q asked && s.addressed (dstOf q)
      && forms.contains q.form)

/-! ### Sessions (R322, R341 to R343) -/

/-- The session of a port and session number. -/
def sessionAt (port : Port) (session : Nat) : Option (Fin 8) :=
  if (canOf port).isSome then some canSession
  else if port == .service then some serviceSession
  else if h : session < 6 then some ⟨session, by omega⟩ else none

/-- A kept reply answers the request: its SEQ and its bytes are those of the kept reply's request (R322, R343). -/
def Kept.answers (y : Kept) (q : Request) (asked : Asked) : Bool := y.seq == q.seq && y.form == q.form && y.asked == asked
/-- The kept reply of a session that has ended, to a request of its SRC (R343). DEDUCED, log entry 67. -/
def State.endedReply (s : State) (q : Request) (asked : Asked) : Option (Fin 8 × Kept) :=
  (sessionAt q.port q.session).bind fun k =>
    let x := s.net.sessions[k]
    if !x.bound && x.src == q.src then (x.kept.find? fun y => y.answers q asked).map fun y => (k, y) else none

/-- A request of session k has come: its idle time starts again; the CAN session binds to its first requester. -/
def State.touch (s : State) (k : Fin 8) (q : Request) : State :=
  s.modSession k fun x => { x with
    bound := true
    src := match canOf q.port with
      | some p => canSrc p q.src
      | none => x.src
    lastAt := s.ref.time }

/-- The gatekeeper of the session's own domain refuses while it drains (R41, R341). DEDUCED, log entry 67. -/
def State.ownRefusal (s : State) (q : Request) : Option (Reply × Nat) :=
  let d : DomainN := if (ethOf q.port).isSome then Dom.net else if (canOf q.port).isSome then Dom.bus else Dom.mem
  if s.domains[d].gate == .draining then s.domains[d].refusal else none

/-- The references whose values a reply carries, in order. -/
def Asked.refs : Asked → List Ref
  | .read rs => rs
  | .write ws => ws.map (·.ref)
  | .domainRead r _ _ | .domainWrite r _ _ => [r]
  | .level _ => [refOf O.sessionLevel]
  | .other _ => [refOf O.sessionIdle]

/-- The reply-packet builder verifies the words of each value: a value that fails leaves its reference CHECK_FAILED and without
a value (R31, Table 1.9 kind 0x06). -/
def State.checkValues (s : State) : List Ref → List (BitVec 8) → List (Reply × Nat) → List (List Byte) →
    State × List (Reply × Nat) × List (List Byte)
  | r :: rs, flips, c :: cs, v :: vs =>
    let good := bytesOk (flips.headD 0) v
    let s := if good then s else s.checkReport 6 (0x10 + ((ownerOf r.index).map (·.val)).getD 0)
    let (s, cs, vs) := s.checkValues rs flips.tail cs vs
    (s, (if good then c else (.checkFailed, 0)) :: cs, (if good then v else []) :: vs)
  | _, _, cs, vs => (s, cs, vs)

/-- An answer as the reply-packet builder sends it. -/
def State.replyCheck (s : State) (q : Request) (asked : Asked) (a : Answer) : State × Answer :=
  let (s, codes, values) := s.checkValues asked.refs q.replyFlips a.codes a.values
  (s, { codes, values })

/-- Build and send the reply to a request. -/
def State.reply (s : State) (q : Request) (session : Nat) (asked : Asked) (a : Answer) : State :=
  let (s, a) := s.replyCheck q asked a
  s.sendReply (replyToOf q) session q.seq asked a

/-- What the execution of a request gives: its answer, and the object whose flash write it waits for (R347). -/
structure Executed where
  state : State
  answer : Answer
  waits : Option Ref := none

/-- Serve a request that the parser has taken: a wrong session, a repetition, a copy of one under way and a fifth one are
dealt with here; any other is executed once (R47, R322, R342, R343). -/
def State.serve (s : State) (q : Request) (asked : Asked) (run : State → Fin 8 → Executed) : State :=
  let refuse := fun (s : State) (c : Reply × Nat) => s.sendReply (replyToOf q) q.session q.seq asked { codes := [c] }
  match s.ownRefusal q with
  | some c => refuse s c
  | none =>
    match s.sessionOf q with
    | .error c =>
      match s.endedReply q asked with
      | some (k, y) => s.reply q k.val asked y.answer
      | none => refuse s c
    | .ok k =>
      let s := s.touch k q
      let x := s.net.sessions[k]
      match x.kept.find? fun y => y.answers q asked with
      | some y => s.reply q k.val asked y.answer
      | none =>
        if x.outstanding.any fun u => u.seq == q.seq && u.form == q.form && u.asked == asked then s
        else if 4 ≤ x.outstanding.length then refuse s (.busy, 0x10)
        else
          let e := run s k
          match e.waits with
          | none =>
            let (s, a) := e.state.replyCheck q asked e.answer
            (s.modSession k fun x => x.keep (k != canSession) q.form q.seq asked a).sendReply (replyToOf q) k.val q.seq asked a
          | some r => e.state.modSession k fun x => { x with outstanding := x.outstanding ++
              [{ port := q.port, seq := q.seq, asked, ref := r, client := q.src, form := q.form, since := s.ref.time
                 answer := e.answer }] }

/-! ### Levels and credentials (R344, R345, R515) -/

/-- Session k takes a level. -/
def State.setLevel (s : State) (k : Fin 8) (l : Level) : State × Reply × Nat :=
  (s.modSession k fun x => { x with level := l }, .ok, 0)

/-- The credential of session k is used and erased: granted, or rejected and counted (R345). DEDUCED, log entry 69. -/
def State.useCredential (s : State) (k : Fin 8) (port : Port) (l : Level) (good : List Byte → Bool) :
    State × Reply × Nat :=
  match s.net.sessions[k].credential with
  | none => (s, .accessDenied, 0x22)
  | some (c, _) =>
    let s := s.modSession k fun x => { x with credential := none }
    if good c then s.setLevel k l else (s.rejectCredential (levelPort port), .accessDenied, 0x22)

/-- A write of SESSION_LEVEL by session k: a lower level first, then the 60 s in which every request for SAFETY or MAKER is LOCKED
(R345, R412). DEDUCED, log entry 69. -/
def State.levelWrite (s : State) (k : Fin 8) (port : Port) (v : Int) : State × Reply × Nat :=
  let x := s.net.sessions[k]
  match s.accessRefusal { port, level := x.level } O.sessionLevel with
  | some (code, reason) => (s, code, reason)
  | none =>
    if v < 0 || 4 < v then (s, .outOfRange, 0)
    else
      let l := levelOf v.toNat
      if levelRank l ≤ levelRank x.level then s.setLevel k l
      else if 3 ≤ levelRank l && s.net.credLocked then s.lock
      else if s.cfgN (O.portMaxLevel (levelPort port)) < levelRank l then (s, .accessDenied, 0x20)
      else match l with
      | .read | .operate | .configure => s.setLevel k l
      | .safety =>
        match s.safety.password with
        | none => if port == .service then s.setLevel k l else (s, .accessDenied, 0x20)
        | some pw => s.useCredential k port l fun c => c == pw
      | .maker =>
        if port != .service then (s, .accessDenied, 0x20)
        else if s.cfgN O.lcState != 0 && s.cfgN O.lcState != 3 then (s, .refused, 0)
        else s.useCredential k port l fun c => s.tokenOk c 0x80

/-- SESSION_LEVEL_WRITE (R345); the check of its value first (R32). -/
def execSessionLevelWrite (q : Request) (v : Int) (s : State) : Outcome State Fault Refusal :=
  let (s, ok) := s.arrive q (.level v) [0]
  if !ok then .next s
  else .next (s.serve q (.level v) fun s k =>
    let (s, code, reason) :=
      if valueOk q.entryFlip v then s.levelWrite k q.port v else (s.checkReport 5 (producerOf q.port), .checkFailed, 0)
    { state := s, answer := { codes := [(code, reason)] } })

/-- CREDENTIAL_EXPIRY (R515): 10 s without a piece. -/
def execCredentialExpiry (port : Port) (session : Nat) (s : State) : Outcome State Fault Refusal :=
  match sessionAt port session with
  | some k => .next (s.modSession k fun x => { x with
      credential := x.credential.filter fun c => s.ref.time - c.2 < 10 * ticksPerS })
  | none => .next s

/-- CREDENTIAL_LOCK_EXPIRY (R345): the 60 s of refusal end. DEDUCED, log entry 69. -/
def execCredentialLockExpiry (s : State) : Outcome State Fault Refusal :=
  if s.net.rejections.any fun t => s.ref.time - t < 60 * ticksPerS then .next s
  else .next { s with net := { s.net with credLocked := false, rejections := [] } }

/-- The time without a request that ends session k, SESSION_IDLE or CAN_SESSION_IDLE, has passed (R322, R342). -/
def State.idleOver (s : State) (k : Fin 8) : Bool :=
  (if k == canSession then s.cfgN O.canSessionIdle else s.cfgN O.sessionIdle) * ticksPerS
    ≤ s.ref.time - s.net.sessions[k].lastAt

/-- SESSION_IDLE_TIMEOUT (R342): SESSION_IDLE without a request ends the session. -/
def execSessionIdleTimeout (port : Port) (session : Nat) (s : State) : Outcome State Fault Refusal :=
  match sessionAt port session with
  | some k => .next (if s.net.sessions[k].bound && s.idleOver k then s.endSession k else s)
  | none => .next s

/-- CAN_SESSION_UNBIND (R322, R345): no request for CAN_SESSION_IDLE. -/
def execCanSessionUnbind (s : State) : Outcome State Fault Refusal :=
  .next (if s.idleOver canSession then s.endSession canSession else s)

/-- Reply values of an accepted OPEN: the level READ, and SESSION_IDLE (Table 10.6). -/
def State.openValues (s : State) : List (List Byte) := [leBytes 1 0 ++ leBytes 2 (s.cfg O.sessionIdle)]

/-- Bind session k to the SRC of an OPEN; its reply is the first that the session keeps (R342, R343). -/
def State.openSession (s : State) (k : Fin 8) (q : Request) : State :=
  let (s, a) := s.replyCheck q (.other 0x10) { codes := [(.ok, 0)], values := s.openValues }
  (s.modSession k fun _ =>
    ({ bound := true, src := q.src, lastAt := s.ref.time } : Session).keep true q.form q.seq (.other 0x10) a).sendReply
    (replyToOf q) k.val q.seq (.other 0x10) a

/-- The sessions that an OPEN on this port can bind (R342). -/
def openable (port : Port) : List (Fin 8) := if port == .service then [serviceSession] else [0, 1, 2, 3, 4, 5]

/-- OPEN (R342, R343): the lowest free session; a repeated one is answered with the kept reply. CAN has none to open. DEDUCED, log
entry 67. -/
def execOpen (q : Request) (s : State) : Outcome State Fault Refusal :=
  if (canOf q.port).isSome then .next s
  else
    let (s, ok) := s.arrive q (.other 0x10) [0]
    if !ok then .next s
    else
      let refuse := fun (c : Reply × Nat) => s.sendReply (replyToOf q) 0xFF q.seq (.other 0x10) { codes := [c] }
      match s.ownRefusal q with
      | some c => .next (refuse c)
      | none =>
        let again := fun (k : Fin 8) => if s.net.sessions[k].bound && s.net.sessions[k].src == q.src then
          s.net.sessions[k].kept.find? fun y => y.answers q (.other 0x10) else none
        match (openable q.port).findSome? fun k => (again k).map fun y => (k, y) with
        | some (k, y) => .next (s.reply q k.val (.other 0x10) y.answer)
        | none =>
          match (openable q.port).find? fun k => !s.net.sessions[k].bound && s.net.sessions[k].outstanding.isEmpty with
          | some k => .next (s.openSession k q)
          | none => .next (refuse (.busy, 0x11))

/-- CLOSE (R342): the session ends; its outstanding requests are still answered. DEDUCED, log entry 67. -/
def execClose (q : Request) (s : State) : Outcome State Fault Refusal :=
  if (canOf q.port).isSome then .next s
  else
    let (s, ok) := s.arrive q (.other 0x11) [0]
    if !ok then .next s
    else .next (s.serve q (.other 0x11) fun s k => { state := s.endSession k, answer := { codes := [(.ok, 0)] } })

/-! ### IDENTIFY (R334) -/

/-- The payload of an IDENTIFY answer (Table 10.6). -/
def State.identity (s : State) : List Byte :=
  leBytes 6 (Config.ethMac : Nat) ++ leBytes 1 (Config.orderVariant % 2 : Nat) ++ serialBytes
    ++ leBytes 2 (s.address : Nat)

/-- Send an IDENTIFY answer; one whose words fail their check is sent as CHECK_FAILED (Table 1.9, kind 0x06). -/
def State.sendIdentity (s : State) (p : Port) (src seq : Nat) (flip : BitVec 8) : State :=
  let answer := fun (s : State) (c : Reply) (values : List (List Byte)) =>
    s.sendReply { port := p, client := src, form := 0 } 0xFF seq (.other 0x12) { codes := [(c, 0)], values }
  if bytesOk flip s.identity then answer s .ok [s.identity]
  else answer (s.checkReport 6 (0x10 + Dom.net.val)) .checkFailed []

/-- IDENTIFY (R334): needs no session; addressed in form 2 or 3 it is answered after node × 20 µs. -/
def execIdentify (q : Request) (s : State) : Outcome State Fault Refusal :=
  if (canOf q.port).isSome then .next s
  else
    let (s, ok) := s.arrive q (.other 0x12) [0, 2, 3]
    if !ok then .next s
    else if q.form = 0 then .next (s.sendIdentity q.port q.src q.seq (flipAt q.replyFlips 0))
    else .next { s with net := { s.net with identify := s.net.identify ++ [(q.port, q.src, q.seq, flipAt q.replyFlips 0)] } }

/-- IDENTIFY_REPLY (R334). -/
def execIdentifyReply (s : State) : Outcome State Fault Refusal :=
  match s.net.identify with
  | [] => .next s
  | (p, src, seq, flip) :: ps => .next ({ s with net := { s.net with identify := ps } }.sendIdentity p src seq flip)

/-! ### READ (R337, R344, R353, R356) -/

/-- Read one reference for session k: its code and its value. On CAN's short form a value has at most 4 bytes (R321). -/
def State.readOne (s : State) (q : Request) (k : Fin 8) (r : Ref) : State × (Reply × Nat) × List Byte :=
  let a := Ref.addr r
  match s.readRefusal a, cardOf a with
  | some c, _ => (s, c, [])
  | none, none => (s, (.unknownObject, 0), [])
  | none, some c =>
    match c.ty, c.ty.bytes with
    | .domain, _ => (s, (.typeMismatch, 0), [])
    | _, none => (s, (.ok, 0), [])
    | _, some n =>
      if (canOf q.port).isSome && q.form = 0 && 4 < n then (s, (.typeMismatch, 0), [])
      else if a == O.sessionLevel then (s, (.ok, 0), leBytes 1 (levelRank s.net.sessions[k].level : Nat))
      else (s.wasRead a, (.ok, 0), leBytes n (s.readValue a))

/-- Read references in the order given. -/
def State.readAll (s : State) (q : Request) (k : Fin 8) : List Ref → State × List (Reply × Nat) × List (List Byte)
  | [] => (s, [], [])
  | r :: rs =>
    let (s, c, v) := s.readOne q k r
    let (s, cs, vs) := s.readAll q k rs
    (s, c :: cs, v :: vs)

/-- READ (R337). -/
def execRead (q : Request) (refs : List Ref) (s : State) : Outcome State Fault Refusal :=
  let (s, ok) := s.arrive q (.read refs) [0]
  if !ok then .next s
  else .next (s.serve q (.read refs) fun s k =>
    let (s, codes, values) := s.readAll q k refs
    { state := s, answer := { codes, values } })

/-! ### WRITE (R337, R344, R351, R352) -/

/-- Write one reference for session k. -/
def State.writeOne (s : State) (q : Request) (k : Fin 8) (w : WriteRef) : Acted :=
  let a := Ref.addr w.ref
  let src := s.srcOf q k
  if !bytesOk w.flip w.bytes then (s.checkReport 5 (producerOf q.port), .checkFailed, 0)
  else match s.accessRefusal src a, cardOf a with
  | some (code, reason), _ => (s, code, reason)
  | none, none => (s, .unknownObject, 0)
  | none, some c =>
    if c.ty == .domain then (s, .typeMismatch, 0)
    else if (canOf q.port).isSome && q.form = 0 && (c.ty == .str || c.ty.bytes.any fun n => 4 < n) then
      (s, .typeMismatch, 0)
    else if c.ty == .str then s.ordered src a fun s => s.passwordAct src w.bytes
    else match bytesVal c.ty w.bytes with
    | none => (s, .typeMismatch, 0)
    | some v =>
      if a == O.sessionLevel then s.levelWrite k q.port v
      else match s.writeRefusal src a v with
      | some (code, reason) => (s, code, reason)
      | none => s.ordered src a fun s => s.writeAct src a v

/-- Write references in the order given; a failing one does not stop the later ones. An accepted seal is answered when it
is in flash (R347). -/
def State.writeAll (s : State) (q : Request) (k : Fin 8) : List WriteRef → State × List (Reply × Nat) × Option Ref
  | [] => (s, [], none)
  | w :: ws =>
    let (s, code, reason) := s.writeOne q k w
    let toFlash : Bool := Ref.addr w.ref == O.configSeal && code == .ok
    let (s, cs, r) := s.writeAll q k ws
    (s, (if toFlash then (.deferred, 0) else (code, reason)) :: cs, if toFlash then some w.ref else r)

/-- MEM's boot code serves the service port: no PLATFORM image is valid (R486). DEDUCED, log entry 68. -/
def State.bootPort (s : State) (q : Request) : Bool :=
  q.port == .service && s.domains[Dom.mem].state == .failed && !s.fwOk Dom.mem

/-- A WRITE at the boot code: FW_ACTIVATE of kind 0 only (R486). DEDUCED, log entry 68. -/
def State.bootWrite (s : State) (q : Request) (refs : List WriteRef) : State :=
  let one := fun (acc : State × List (Reply × Nat)) (w : WriteRef) =>
    let (s, cs) := acc
    if Ref.addr w.ref == O.fwActivate 0 && w.bytes == [1#8] && bytesOk w.flip w.bytes then
      let (s, code, reason) := s.fwActivateAct 0
      (s, cs ++ [(code, reason)])
    else (s, cs ++ [(.notAvailable, 0x03)])
  let (s, codes) := refs.foldl one (s, [])
  s.sendReply (replyToOf q) q.session q.seq (.write refs) { codes }

/-- A request whose packet is accepted reaches MEM's boot code. -/
def State.bootTakes (s : State) (q : Request) (asked : Asked) : Bool := requestSound q asked && s.addressed (dstOf q) && q.form == 0

/-- WRITE (R337). -/
def execWrite (q : Request) (refs : List WriteRef) (s : State) : Outcome State Fault Refusal :=
  let asked := refs.map fun w => { w with flip := 0 }
  if s.bootPort q then .next (if s.bootTakes q (.write asked) then s.bootWrite q refs else s)
  else
    let (s, ok) := s.arrive q (.write asked) [0]
    if !ok then .next s
    else
      .next (s.serve q (.write asked) fun s k =>
        let (s, codes, waits) := s.writeAll q k refs
        { state := s, answer := { codes }, waits })

/-! ### DOMAIN objects in pieces (R346, R515) -/

/-- Pieces hold at most 1,436 bytes, on CAN 52 (R321, Table 10.6). -/
def pieceMax (q : Request) : Nat := if (canOf q.port).isSome then 52 else 1436
/-- The short form of a CAN request carries no DOMAIN command (R321). -/
def shortForm (q : Request) : Bool := (canOf q.port).isSome && q.form = 0
/-- The reply value of a DOMAIN command: on CAN OFFSET has its own field (Tables 9.9, 10.6). -/
def pieceValue (q : Request) (offset : Nat) (data : List Byte) : List Byte :=
  if (canOf q.port).isSome then data else leBytes 4 (offset : Nat) ++ data

/-- The object is a DOMAIN. -/
def isDomain (a : Nat) : Bool := (cardOf a).any fun c => c.ty == .domain

/-- The object's bytes lie in flash: firmware images and the change log. DESIGN CHOICE, log entry 137. -/
def inFlash (a : Nat) : Bool := isDomain a && persistOf a == .stored
/-- The object's bytes lie in DRAM: the recorder's. DESIGN CHOICE, log entry 137. -/
def inDram (a : Nat) : Bool := a == O.recExtract || a == O.recHistory
/-- A 64-bit beat of the bytes from `offset` on, n of them, has a double-bit error (R30): every word of it fails its check.
DESIGN CHOICE, log entry 137. -/
def beatFails (badBeats : List Nat) (offset n : Nat) : Bool :=
  badBeats.any fun b => decide (8 * b < offset + n ∧ offset < 8 * b + 8)

/-- DOMAIN_READ (R346): a read at or beyond the end returns 0 bytes; a write-claimed object is BUSY. A read of the flash that
fails three times is refused (R48), by the code REFUSED: DESIGN CHOICE, log entry 137. Bytes of a DRAM beat with a double-bit
error fail their check (R30). -/
def execDomainRead (q : Request) (ref : Ref) (offset maxLen : Nat) (badBeats : List Nat) (flashTries : Nat) (s : State) :
    Outcome State Fault Refusal :=
  let (s, ok) := s.arrive q (.domainRead ref offset maxLen) [0]
  if !ok then .next s
  else .next (s.serve q (.domainRead ref offset maxLen) fun s _ =>
    let a := Ref.addr ref
    let refuse := fun (c : Reply × Nat) => { state := s, answer := { codes := [c] } : Executed }
    match s.readRefusal a with
    | some c => refuse c
    | none =>
      if !isDomain a || shortForm q then refuse (.typeMismatch, 0)
      else if a != O.sessionCredential && s.net.claims.any fun c => c.ref == ref then refuse (.busy, 0x12)
      else if inFlash a && 3 ≤ flashTries then refuse (.refused, 0)
      else
        let data := ((s.domainBytes a).drop offset).take (min maxLen (pieceMax q))
        if inDram a && beatFails badBeats offset data.length then
          { state := s.checkReport 6 (0x10 + ((ownerOf ref.index).map (·.val)).getD 0)
            answer := { codes := [(.checkFailed, 0)], values := [[]] } }
        else { state := s, answer := { codes := [(.ok, 0)], values := [pieceValue q offset data] } })

/-- A piece of `data` at `offset` against the bytes written so far: none = OUT_OF_RANGE, `some true` = it goes on,
`some false` = it repeats bytes already written (R346). DEDUCED, log entry 71. -/
def pieceFits (written : List Byte) (offset : Nat) (data : List Byte) : Option Bool :=
  if offset = written.length then some true
  else if offset + data.length ≤ written.length && (written.drop offset).take data.length == data then some false
  else none

/-- A piece of SESSION_CREDENTIAL (R515). DEDUCED, log entry 71. -/
def State.credentialPiece (s : State) (k : Fin 8) (offset : Nat) (data : List Byte) : State × (Reply × Nat) × Nat :=
  let old := match s.net.sessions[k].credential with
    | some (c, _) => c
    | none => []
  match pieceFits old offset data with
  | none => (s, (.outOfRange, 0), old.length)
  | some more =>
    let new := if more then old ++ data else old
    if 512 < new.length then (s, (.outOfRange, 0), old.length)
    else (s.modSession k fun x => { x with credential := some (new, s.ref.time) }, (.ok, 0), new.length)

/-- What a DOMAIN object does with a piece that goes on: its state, its answer, whether the object is complete, and
whether the answer waits for the flash (R219, R480, R484). -/
def State.takePiece (s : State) (a offset : Nat) (data : List Byte) : State × (Reply × Nat) × Bool × Bool :=
  let i := a / 256
  if h : 0x5F00 ≤ i ∧ i < 0x5F40 then
    if 2048 < offset + data.length then (s, (.outOfRange, 0), false, false)
    else
      let t : TableN := ⟨(i - 0x5F00) / 0x10, by omega⟩
      (s.modTable t fun x => { x with
        staging := x.staging.take offset ++ data ++ x.staging.drop (offset + data.length) },
       (.ok, 0), offset + data.length == 2048, false)
  else if a == O.lcToken then
    if 80 < offset + data.length then (s, (.outOfRange, 0), false, false)
    else
      (s.modPower fun p => { p with token := p.token.take offset ++ data }, (.ok, 0), offset + data.length == 80, false)
  else match (if 0x9110 ≤ i then fin? 3 (i - 0x9110) else none) with
    | some k =>
      let (s, c, whole) := s.fwPiece k offset data
      (s, c, whole, c.1 == .ok)
    | none => (s, (.typeMismatch, 0), false, false)

/-- Hold, renew or end the claim of session k on a DOMAIN object (R346). -/
def State.setClaim (s : State) (ref : Ref) (c : Option Claim) : State :=
  { s with net := { s.net with claims := c.toList ++ s.net.claims.filter fun x => x.ref != ref } }

/-- A DOMAIN_WRITE piece of session k under its claim (R346): the answer, the bytes written so far, and whether the answer
waits for the flash. DEDUCED, log entry 71. -/
def State.claimedPiece (s : State) (k : Fin 8) (ref : Ref) (offset : Nat) (data : List Byte) :
    State × (Reply × Nat) × Nat × Bool :=
  let a := Ref.addr ref
  let mine := s.net.claims.find? fun c => c.ref == ref
  let written := match mine with
    | some c => c.data
    | none => []
  if mine.any fun c => c.session != k.val then (s, (.busy, 0x12), 0, false)
  else match pieceFits written offset data with
  | none => (s, (.outOfRange, 0), written.length, false)
  | some false =>
    (s.setClaim ref (mine.map fun c => { c with lastAt := s.ref.time }), (.ok, 0), written.length, false)
  | some true =>
    let (s', c, whole, waits) := s.takePiece a offset data
    if c.1 != .ok then (s', c, written.length, false)
    else
      let claim : Claim := { ref, session := k.val, data := written ++ data, lastAt := s.ref.time }
      (s'.setClaim ref (if whole then none else some claim), c, written.length + data.length, waits)

/-- One DOMAIN_WRITE of session k; the checks of its data first (R32). -/
def State.domainPiece (s : State) (q : Request) (k : Fin 8) (ref : Ref) (offset : Nat) (data : List Byte) : Executed :=
  let a := Ref.addr ref
  let refuse := fun (c : Reply × Nat) => { state := s, answer := { codes := [c] } : Executed }
  if !bytesOk q.entryFlip data then
    { state := s.checkReport 5 (producerOf q.port), answer := { codes := [(.checkFailed, 0)] } }
  else match s.accessRefusal (s.srcOf q k) a with
  | some c => refuse c
  | none =>
    if !isDomain a || shortForm q then refuse (.typeMismatch, 0)
    else if data.isEmpty || pieceMax q < data.length then refuse (.outOfRange, 0)
    else
      let (s, c, n, waits) :=
        if a == O.sessionCredential then
          let (s, c, n) := s.credentialPiece k offset data
          (s, c, n, false)
        else s.claimedPiece k ref offset data
      let values := if c.1 == .ok then [pieceValue q offset (leBytes 4 (n : Nat))] else []
      if waits then { state := s, answer := { codes := [(.deferred, 0)], values }, waits := some ref }
      else { state := s, answer := { codes := [c], values } }

/-- A DOMAIN_WRITE at the boot code: the PLATFORM image only (R486). DEDUCED, log entry 68. -/
def State.bootPiece (s : State) (q : Request) (ref : Ref) (offset : Nat) (data : List Byte) : State :=
  let answer := fun (s : State) (a : Answer) => s.sendReply (replyToOf q) q.session q.seq (.domainWrite ref offset data) a
  if !bytesOk q.entryFlip data then answer (s.checkReport 5 (producerOf q.port)) { codes := [(.checkFailed, 0)] }
  else if Ref.addr ref == Ref.addr ⟨0x9110, 1⟩ && !data.isEmpty && data.length ≤ 1436 then
    let (s, c, n, _) := s.claimedPiece serviceSession ref offset data
    answer s { codes := [c], values := if c.1 == .ok then [pieceValue q offset (leBytes 4 (n : Nat))] else [] }
  else answer s { codes := [(.notAvailable, 0x03)] }

/-- DOMAIN_WRITE (R346). -/
def execDomainWrite (q : Request) (ref : Ref) (offset : Nat) (data : List Byte) (s : State) :
    Outcome State Fault Refusal :=
  if s.bootPort q then .next (if s.bootTakes q (.domainWrite ref offset data) then s.bootPiece q ref offset data else s)
  else
    let (s, ok) := s.arrive q (.domainWrite ref offset data) [0]
    if !ok then .next s
    else .next (s.serve q (.domainWrite ref offset data) fun s k => s.domainPiece q k ref offset data)

/-- DOMAIN_CLAIM_EXPIRY (R346): 10 s without a piece. -/
def execDomainClaimExpiry (ref : Ref) (s : State) : Outcome State Fault Refusal :=
  if s.net.claims.any fun c => c.ref == ref && s.ref.time - c.lastAt < 10 * ticksPerS then .next s
  else .next (s.setClaim ref none)

/-- PROGRESS_REPLY (R322, R347): an outstanding request runs on; a DOMAIN piece tells how far it has got. On CAN a piece
draws none. DESIGN CHOICE, log entry 92. -/
def execProgressReply (port : Port) (session seq : Nat) (s : State) : Outcome State Fault Refusal :=
  match sessionAt port session with
  | none => .next s
  | some k =>
    match s.net.sessions[k].outstanding.find? fun u => u.seq == seq with
    | none => .next s
    | some u =>
      let s := s.modSession k fun x => { x with
        outstanding := x.outstanding.map fun (y : Unfinished) => if y == u then { y with since := s.ref.time } else y }
      let piece := match u.asked with
        | .domainWrite _ _ data => some data.length
        | _ => none
      let w : ReplyTo := { port := u.port, client := u.client, form := u.form }
      let progress := fun (s : State) (payload : List Byte) =>
        s.sendPacket u.port (Config.macOf u.client) (s.answerPacket 2 w k.val u.seq u.asked (.deferred, 0) payload)
      match canOf u.port, piece with
      | some _, some _ => .next s
      | some p, none => .next (s.postReply p (s.canReply w u.seq u.asked .deferred []))
      | none, some n => .next (progress { s with draws := s.draws + 1 }
          (leBytes 4 (min (Config.flashDone s.draws) n : Nat) ++ leBytes 4 (n : Nat)))
      | none, none => .next (progress s [])

/-! ### Cyclic process data (R38, R349, R350) -/

/-- Update cyclic frame k. -/
def State.modCyc (s : State) (k : CycN) (f : Cyclic → Cyclic) : State :=
  { s with net := { s.net with cyclic := s.net.cyclic.set k (f s.net.cyclic[k]) } }

/-- Cycle m, modulo 2^16, is cycle n or an earlier one (R350: a packet carries n mod 2^16). -/
def notLater (m n : Nat) : Bool := (n + 0x10000 - m % 0x10000) % 0x10000 < 0x8000

/-- A packet for a cycle enters the buffers of frame k (R38, R350). The first buffer is for the next cycle n to be applied, the
second for a later one: a packet for a still later cycle replaces it, and the overrun is counted; one for a cycle whose
instant has passed is discarded and counted. Before the first instant the earliest packet stands for cycle n.
DEDUCED, log entry 72. -/
def Cyclic.take (x : Cyclic) (new : Nat × EthN × List Byte) : Cyclic :=
  let c := new.1
  let n := match x.instant with
    | some m => (m + 1) % 0x10000
    | none => ((x.buffers.head?).map (·.1)).getD c
  let first := x.buffers.filter fun b => b.1 == n
  let second := x.buffers.filter fun b => b.1 != n
  if c == n then { x with buffers := new :: second }
  else if notLater c n then
    if x.instant.isNone && second.isEmpty then { x with buffers := new :: first }
    else { x with discarded := x.discarded + 1 }
  else match second with
    | [] => { x with buffers := first ++ [new] }
    | b :: _ =>
      if c == b.1 then { x with buffers := first ++ [new] }
      else if notLater c b.1 then { x with discarded := x.discarded + 1 }
      else { x with buffers := first ++ [new], overruns := x.overruns + 1 }

/-- Receive frame k takes packets of that SRC and COMMAND whose LENGTH matches its mapping (R350). -/
def State.cyclicTakes (s : State) (k : CycN) (src frame length : Nat) : Bool :=
  s.cyclicOn k 0 && s.cfgN (O.cycPeer k) == src && s.cfgN (O.cycPeerFrame k) == frame && length == s.cyclicLength k

/-- CYCLIC_FRAME_RECEIVED (R31, R38, R333, R337, R350): every receive frame that takes packets of this SRC and COMMAND buffers it;
one that is not accepted by its bytes is dropped and counted. -/
def execCyclicFrameReceived (p : EthN) (src frame cycle : Nat) (payload : List Byte) (h : Header) (s : State) :
    Outcome State Fault Refusal :=
  let packet : Packet :=
    { version := h.version, kind := h.kind.getD 3, dst := h.dst, src, session := h.session, command := frame
      seq := cycle % 0x10000, payload, lacking := h.lacking }
  if !s.runs Dom.net || !s.framed p h 5 5 true then .next s
  else if !packet.accepted h.endCheck || packet.kind ≠ 3 then .next (s.count (O.endCheckFailCount p))
  else if !s.addressed h.dst then .next s
  else
    let buffer := fun (k : CycN) =>
      let x := s.net.cyclic[k]
      if s.cyclicTakes k src frame payload.length then x.take (cycle % 0x10000, p, payload) else x
    .next { s with net := { s.net with cyclic := Vector.ofFn buffer } }

/-- Write one mapped value of a received packet: not one that fails its check; it has its place among the writes of the tick of
the application instant (R349, R351, Table 1.9 kind 0x08). DEDUCED, log entries 70 and 72. -/
def State.cyclicWrite (s : State) (p : EthN) (x : Nat × Bool × Option Int) : State :=
  let src : Src := { port := portOf p, level := .operate, arrival := some s.ref.time }
  if !x.2.1 then s.checkReport 8 (p.val : Nat)
  else match x.2.2 with
    | some v => if (s.writeRefusal src x.1 v).isSome then s else (s.ordered src x.1 fun s => s.writeAct src x.1 v).1
    | none => s
/-- Write the mapped values of a received packet, in list order (R349). DEDUCED, log entry 72. -/
def State.cyclicApply (s : State) (p : EthN) (objs : List Nat) (bytes : List Byte) (flips : List (BitVec 8)) : State :=
  s.each (mappedValues objs bytes flips) fun s x => s.cyclicWrite p x

/-- Every value of a received packet passes its check. -/
def cyclicGood (objs : List Nat) (bytes : List Byte) (flips : List (BitVec 8)) : Bool :=
  (mappedValues objs bytes flips).all (·.2.1)

/-- No packet was applied in the cycle: the watchdog of frame k counts it, and acts when it is due (R350).
DEDUCED, log entry 72. -/
def State.cyclicMiss (s : State) (k : CycN) : State :=
  let n := s.net.cyclic[k].missed + 1
  let s := s.modCyc k fun x => { x with missed := n }
  if n ≠ s.cfgN (O.cycWatchdog k) then s
  else
    let s := (s.modCyc k fun x => { x with timedOut := true }).event 0x8205 k
    if s.cfgN (O.watchdogAction k) ≠ 1 then s
    else
      let mapped := s.frameObjects k
      s.each (allAxes.filter fun a => mapped.any fun o => axisOfIndex (o / 256) == some a) fun s a => (s.axisStop a).1

/-- The CYCLIC packet of cycle n of frame k (R350). -/
def State.cyclicPacket (s : State) (k : CycN) (n : Nat) (payload : List Byte) : Packet :=
  { kind := 3, dst := Config.openHeader 3 2, src := s.address, command := k, seq := n % 0x10000, payload }

/-- CYCLIC_APPLICATION_INSTANT (R38, R349, R350). -/
def execCyclicApplicationInstant (k : CycN) (cycle : Nat) (flips : List (BitVec 8)) (s : State) :
    Outcome State Fault Refusal :=
  let objs := s.frameObjects k
  if !s.cycleCame k cycle then .next s
  else if s.cyclicOn k 1 then
    let payload := objs.flatMap fun a => leBytes (((cardOf a).bind (·.ty.bytes)).getD 0) (s.readValue a)
    .next ((s.each objs State.wasRead).sendBoth (cyclicMac (s.cfgN O.segment) (s.cfgN O.node) k)
      (s.cyclicPacket k cycle payload))
  else if s.cyclicOn k 0 then
    let n := cycle % 0x10000
    let found := s.net.cyclic[k].buffers.find? fun b => b.1 == n
    let s := s.modCyc k fun x => { x with instant := some n, buffers := x.buffers.filter fun b => !notLater b.1 n }
    match found with
    | none => .next (s.cyclicMiss k)
    | some (_, p, payload) =>
      let good := cyclicGood objs payload flips
      let s := s.modCyc k fun x => { x with
        applied := some n, missed := if good then 0 else x.missed, timedOut := x.timedOut && !good }
      let s := s.cyclicApply p objs payload flips
      .next (if good then s else s.cyclicMiss k)
  else .next s

/-! ### The switch and its ports (R327, R328, R334, R357) -/

/-- A minute and the ageing time of a learned address, in ticks. -/
def ticksPerMin : Nat := 60 * ticksPerS

/-- Learn a source address (R328): 4,096 entries, aged out after 300 s; the oldest gives way. DEDUCED, log entry 73. -/
def State.learn (s : State) (mac : Nat) (p : EthN) : State :=
  let live := s.net.macs.filter fun m => m.mac != mac && s.ref.time - m.time ≤ 300 * ticksPerS
  { s with net := { s.net with macs := { mac, port := p, time := s.ref.time } :: live.take 4095 } }

/-- ETH_FRAME_FORWARD (R328, R334): learning, the address conflict, and forwarding of every frame that is not for the
module alone, through the egress queue of its priority (R329). DEDUCED, log entries 73 and 160. -/
def execEthFrameForward (p : EthN) (f : EthFrame) (s : State) : Outcome State Fault Refusal :=
  if !s.runs Dom.net || !s.net.ports[p].up then .next s
  else
    let s := s.learn f.srcMac p
    let own := Config.ethMac % 2 ^ 48
    let s := if f.orhamSrc == some s.address && f.srcMac != own then
        let s := s.modEth p fun x => { x with conflict := true }
        if s.net.conflictLogged.all fun t => ticksPerMin ≤ s.ref.time - t then
          { s with net := { s.net with conflictLogged := some s.ref.time } }.event 0x8107 noInstance
        else s
      else s
    let q : EthN := if p.val = 0 then 1 else 0
    .next (if f.dstMac != own then s.egress q (f.pcp.getD 0) f.length (.ethFrame q f) else s)

/-- Count a port fault; the port whose class reaches ETH_RETIRE_COUNT powers down and is announced (R1, R357). -/
def State.ethFault (s : State) (p : EthN) (cls specific : Nat) : State :=
  let (fs, d, retire) := countFault s.net.ports[p].faults cls s.ref.time (s.cfgN O.ethRetireWindow) (s.cfgN O.ethRetireCount)
  let s := s.modEth p fun x =>
    let x := if retire then { x.clear with state := .retired, retireLatch := true } else x
    { x with faults := fs }
  if retire then s.announce (faultCode 8 d specific) p else s.event (faultCode 8 d specific) p

/-- LINK_LOST (R357). -/
def execLinkLost (p : EthN) (s : State) : Outcome State Fault Refusal :=
  if !s.net.ports[p].up then .next s
  else
    let s := s.modEth p fun x => { x.clear with state := .down }
    .next (if s.cfgN (O.ethExpectLink p) == 1 then s.ethFault p 0 2 else s)

/-- FRAME_ERRORS (R357): a second with 100 or more bad frames. -/
def execFrameErrors (p : EthN) (bad : Nat) (s : State) : Outcome State Fault Refusal :=
  .next (if 100 ≤ bad && s.net.ports[p].up then s.ethFault p 1 3 else s)

/-- ETH_LINK_UP (R327): auto-negotiation ends at a rate that ETH_SPEED allows. DESIGN CHOICE, log entry 74. -/
def execEthLinkUp (p : EthN) (gigabit : Bool) (s : State) : Outcome State Fault Refusal :=
  let speed := s.cfgN (O.ethSpeed p)
  if s.runs Dom.net && s.net.ports[p].state == .down && (speed == 0 || (speed == 1) == gigabit) then
    .next (s.modEth p fun x => { x with state := if gigabit then .up1000 else .up100 })
  else .next s

/-! ### IEEE 1588 time (R21, R331, R332) -/

/-- The code of SLEW_LIMITED: a block, class and specific number that Table 0.6 allows (R16, R17, R21). DESIGN CHOICE, log entry 74. -/
def slewCode : Nat := faultCode (Config.slewCode % 12 + 1) (Config.slewCode / 12 % 6) (Config.slewCode / 72 % 255 + 1)
/-- The servo sets a new aim for the TCXO within ±10 ppm. A correction of more than a second's slew is being spread out:
SLEW_LIMITED, logged when it begins, under a code that no table gives (R21). DESIGN CHOICE, log entry 74. -/
def State.servoAim (s : State) (offset : Rat) : State :=
  let s := s.steerNow
  let r := s.ref
  let aim := clampI (-10000) 10000 (Config.servo offset r.steer)
  let large : Bool := decide (100 < (aim - r.steer).natAbs)
  let s := { s with ref := { r with aim, slewLimited := large } }
  if large && !r.slewLimited then s.event slewCode noInstance else s

/-- IEEE 1588 time in ns at a reference tick, as the reference carries it on (R331). -/
def State.ptpTimeAt (s : State) (tick : Nat) : Rat := s.ref.ptpTime + (((tick : Int) - s.ref.ptpAt : Int) : Rat) * 5 / 2

/-- The offset that a complete Sync shows: DISCIPLINED after 10 s within ±1 µs, PTP_OFFSET, and the servo's aim while
discipline is enabled (R21, R332). DESIGN CHOICE, log entry 74. -/
def State.offsetMeasured (s : State) (offset : Rat) : State :=
  let on : Bool := s.cfgN O.refDiscipline == 1
  let s := if on then s.servoAim offset else s
  let r := s.ref
  let close : Option Nat := if -1000 ≤ offset ∧ offset ≤ 1000 then some (r.closeSince.getD r.time) else none
  let held := close.any fun t => 10 * ticksPerS ≤ r.time - t
  let s := { s with ref := { r with closeSince := close, disciplined := on && (r.disciplined || held) } }
  s.setObj O.ptpOffset (clampI (-0x80000000) 0x7FFFFFFF offset.floor)

/-- A Delay_Req of this clock goes out of port p (R331). DESIGN CHOICE, log entry 158. -/
def State.askDelay (s : State) (p : EthN) : State :=
  let n := s.ref.delayNext % 0x10000
  let s := { s with ref := { s.ref with delaySeq := some n, delayNext := (n + 1) % 0x10000 } }
  (s.modEth p fun x => { x with delayLeft := none }).egress p 7 66 (.delayReq p (s.cfgN O.ptpDomain) n)

/-- A Sync is complete: it arrived at `arrival` and left the master at `sent`. The first one sets the time; a later one measures the
offset, and sets the time anew unless a disciplined reference carries it. Then the path delay is asked for (R331, R332).
DESIGN CHOICE, log entry 158. -/
def State.syncComplete (s : State) (p : EthN) (arrival : Nat) (sent : Rat) : State :=
  let time := sent + s.ref.pathDelay
  let had := s.ref.ptpAvailable
  let s := { s with ref := { s.ref with ptpAvailable := true, syncAt := arrival, syncTime := sent, ptpWait := none } }
  let s := if had then s.offsetMeasured (s.ptpTimeAt arrival - time) else s
  let s := if s.ref.disciplined then s else { s with ref := { s.ref with ptpTime := time, ptpAt := arrival } }
  s.askDelay p

/-- PTP_MESSAGE_RECEIVED (R331, R332): the ordinary clock takes the Syncs of one-step and two-step masters, and the answers to its
own Delay_Reqs. DESIGN CHOICE, log entries 74 and 158. -/
def execPtpMessageReceived (x : PtpIn) (s : State) : Outcome State Fault Refusal :=
  if !s.runs Dom.net || !s.net.ports[x.port].up || s.cfgN O.ptpRole == 0 || x.domain != s.cfgN O.ptpDomain || !x.selected then .next s
  else
    let corrected := fun (ns : Nat) (c : Int) => (ns : Rat) + (c : Rat) / 65536
    match x.msg with
    | .sync false origin => .next (s.syncComplete x.port s.ref.time (corrected origin x.correction))
    | .sync true _ => .next { s with ref := { s.ref with ptpWait := some (x.seq, s.ref.time, x.correction) } }
    | .followUp origin =>
      match s.ref.ptpWait with
      | some (seq, arrival, c) =>
        .next (if seq == x.seq then s.syncComplete x.port arrival (corrected origin (c + x.correction)) else s)
      | none => .next s
    | .delayResp receive =>
      match s.net.ports.toList.findSome? fun e => e.delayLeft.bind fun d => if d.1 == x.seq then some d.2 else none with
      | some left =>
        if s.ref.delaySeq != some x.seq then .next s
        else
          let there := s.ptpTimeAt s.ref.syncAt - s.ref.syncTime
          let back := corrected receive (-x.correction) - s.ptpTimeAt left
          .next { s with ref := { s.ref with pathDelay := (there + back) / 2, delaySeq := none } }
      | none => .next s

/-- PTP_LOST (R332): no valid Sync for 3 s, or no master; the last steered frequency is kept (R21). -/
def execPtpLost (s : State) : Outcome State Fault Refusal := .next s.ptpLoss

end Sys2Proof.Machine
end

