-- ==== Sys2Proof/Machine/Dispatch.lean ====
section
/-! DEFINITION. One arm per command: each calls the meaning of its row. -/

namespace Sys2Proof.Machine

open Host

/-- The effect of a command on everything but the queue. -/
def exec (i : Instr) (s : State) : Host.Outcome State Fault Refusal :=
  match i with
  -- fabric and time reference (01)
  | .sampleInstant a x => Sys2Proof.Machine.execSampleInstant a x s
  | .axisLoopCommit a x => Sys2Proof.Machine.execAxisLoopCommit a x s
  | .updatePoint a flips => Sys2Proof.Machine.execUpdatePoint a flips s
  | .deadlineMissed a => Sys2Proof.Machine.execDeadlineMissed a s
  | .noAck l => Sys2Proof.Machine.execNoAck l s
  | .refLost tcxo => Sys2Proof.Machine.execRefLost tcxo s
  | .refLockRegained => Sys2Proof.Machine.execRefLockRegained s
  | .eccCorrected => Sys2Proof.Machine.execEccCorrected s
  | .marginWindowEnd c => Sys2Proof.Machine.execMarginWindowEnd c s
  | .crestReinstate src c v => Sys2Proof.Machine.execCrestReinstate src c v s
  | .crestReinstated c slices => Sys2Proof.Machine.execCrestReinstated c slices s
  | .gateForced d session seq => Sys2Proof.Machine.execGateForced d session seq s
  | .gateDrainComplete d => Sys2Proof.Machine.execGateDrainComplete d s
  | .cyclicFrameReceived p src frame cycle payload endCheckOk => Sys2Proof.Machine.execCyclicFrameReceived p src frame cycle payload endCheckOk s
  | .cyclicApplicationInstant k cycle flips => Sys2Proof.Machine.execCyclicApplicationInstant k cycle flips s
  | .safetyEnableLossAtLeg l path => Sys2Proof.Machine.execSafetyEnableLossAtLeg l path s
  -- leg cells (02)
  | .gateMonitorOffReport l side => Sys2Proof.Machine.execGateMonitorOffReport l side s
  | .gateTimeout l side => Sys2Proof.Machine.execGateTimeout l side s
  | .gateRiseUncommanded l side => Sys2Proof.Machine.execGateRiseUncommanded l side s
  | .groupVgpUv g mv => Sys2Proof.Machine.execGroupVgpUv g mv s
  | .groupVgpRestored g mv => Sys2Proof.Machine.execGroupVgpRestored g mv s
  | .groupVgpHigh g mv => Sys2Proof.Machine.execGroupVgpHigh g mv s
  | .groupVgnHigh g mv => Sys2Proof.Machine.execGroupVgnHigh g mv s
  | .vbsWarning l mv => Sys2Proof.Machine.execVbsWarning l mv s
  | .bootstrapUv l mv => Sys2Proof.Machine.execBootstrapUv l mv s
  | .rechargeComplete l mv => Sys2Proof.Machine.execRechargeComplete l mv s
  | .rechargeFailed l => Sys2Proof.Machine.execRechargeFailed l s
  | .prechargeEnd a vbs => Sys2Proof.Machine.execPrechargeEnd a vbs s
  | .desat l side => Sys2Proof.Machine.execDesat l side s
  | .hardShort l side => Sys2Proof.Machine.execHardShort l side s
  | .reactionEnd a => Sys2Proof.Machine.execReactionEnd a s
  | .legFaultClear l => Sys2Proof.Machine.execLegFaultClear l s
  | .autoclear l => Sys2Proof.Machine.execAutoclear l s
  | .legReinstate src l v => Sys2Proof.Machine.execLegReinstate src l v s
  -- current sensing (03)
  | .overcurrent l => Sys2Proof.Machine.execOvercurrent l s
  | .zeroMeasurementComplete a means => Sys2Proof.Machine.execZeroMeasurementComplete a means s
  | .sdNoData n => Sys2Proof.Machine.execSdNoData n s
  | .sdDcHoldExpiry n => Sys2Proof.Machine.execSdDcHoldExpiry n s
  | .sdRecovered x => Sys2Proof.Machine.execSdRecovered x s
  | .limitRelease a => Sys2Proof.Machine.execLimitRelease a s
  | .depthReadingsUpdate a => Sys2Proof.Machine.execDepthReadingsUpdate a s
  | .ciReinstate src l v => Sys2Proof.Machine.execCiReinstate src l v s
  -- feedback (04)
  | .edgeAccepted f levels stamp => Sys2Proof.Machine.execEdgeAccepted f levels stamp s
  | .glitchSeen f line => Sys2Proof.Machine.execGlitchSeen f line s
  | .standstill f => Sys2Proof.Machine.execStandstill f s
  | .ssiFrameStart f => Sys2Proof.Machine.execSsiFrameStart f s
  | .ssiFrameComplete f bits idleBefore idleAfter => Sys2Proof.Machine.execSsiFrameComplete f bits idleBefore idleAfter s
  | .amplitude f => Sys2Proof.Machine.execAmplitude f s
  | .excOverload e => Sys2Proof.Machine.execExcOverload e s
  | .excRetry e => Sys2Proof.Machine.execExcRetry e s
  | .lineOpen f pair => Sys2Proof.Machine.execLineOpen f pair s
  | .fbFaultClear f fault => Sys2Proof.Machine.execFbFaultClear f fault s
  | .fbChannelRestart src f obj v => Sys2Proof.Machine.execFbChannelRestart src f obj v s
  | .fbChannelValid f => Sys2Proof.Machine.execFbChannelValid f s
  | .fbReinstate src f v => Sys2Proof.Machine.execFbReinstate src f v s
  | .indexArm src f v => Sys2Proof.Machine.execIndexArm src f v s
  | .ptSourceChange src p v => Sys2Proof.Machine.execPtSourceChange src p v s
  -- field control (05)
  | .axisEnable src a => Sys2Proof.Machine.execAxisEnable src a s
  | .axisStart src a => Sys2Proof.Machine.execAxisStart src a s
  | .axisStop src a => Sys2Proof.Machine.execAxisStop src a s
  | .axisDisable src a => Sys2Proof.Machine.execAxisDisable src a s
  | .stopStandstill a => Sys2Proof.Machine.execStopStandstill a s
  | .encDisagree a => Sys2Proof.Machine.execEncDisagree a s
  | .encoderTakeback a => Sys2Proof.Machine.execEncoderTakeback a s
  | .observerLost a => Sys2Proof.Machine.execObserverLost a s
  | .keWindowEnd a => Sys2Proof.Machine.execKeWindowEnd a s
  | .keAck src a v => Sys2Proof.Machine.execKeAck src a v s
  | .catchMeasurementComplete a samples => Sys2Proof.Machine.execCatchMeasurementComplete a samples s
  | .catchSecondPulse a samples => Sys2Proof.Machine.execCatchSecondPulse a samples s
  | .catchFailed a => Sys2Proof.Machine.execCatchFailed a s
  | .crestFailure c => Sys2Proof.Machine.execCrestFailure c s
  | .axisMigrated a => Sys2Proof.Machine.execAxisMigrated a s
  -- steppers (06)
  | .chopperDecision a br xs => Sys2Proof.Machine.execChopperDecision a br xs s
  | .chopMinTimeExpiry a br => Sys2Proof.Machine.execChopMinTimeExpiry a br s
  | .chopFastTimeExpiry a br => Sys2Proof.Machine.execChopFastTimeExpiry a br s
  | .coilOpen a br => Sys2Proof.Machine.execCoilOpen a br s
  | .stepperSumImplausible a br => Sys2Proof.Machine.execStepperSumImplausible a br s
  | .holdEntry a => Sys2Proof.Machine.execHoldEntry a s
  | .stepAlignEnd a => Sys2Proof.Machine.execStepAlignEnd a s
  | .stepTableCommit src t v => Sys2Proof.Machine.execStepTableCommit src t v s
  | .stepTableRestore src t v => Sys2Proof.Machine.execStepTableRestore src t v s
  | .stepTableFlashWritten t => Sys2Proof.Machine.execStepTableFlashWritten t s
  -- profiles, compare units, homing (07)
  | .plannerTick segments => Sys2Proof.Machine.execPlannerTick segments s
  | .followingFault a => Sys2Proof.Machine.execFollowingFault a s
  | .compareCrossing u forward stamp x => Sys2Proof.Machine.execCompareCrossing u forward stamp x s
  | .comparePulseEnd u => Sys2Proof.Machine.execComparePulseEnd u s
  | .cmpPositionWrite src u v => Sys2Proof.Machine.execCmpPositionWrite src u v s
  | .cmpDirectionWrite src u v => Sys2Proof.Machine.execCmpDirectionWrite src u v s
  | .cmpSourceWrite src u v => Sys2Proof.Machine.execCmpSourceWrite src u v s
  | .cmpEnableWrite src u v => Sys2Proof.Machine.execCmpEnableWrite src u v s
  | .compareSourceValid u => Sys2Proof.Machine.execCompareSourceValid u s
  | .homeStart src a => Sys2Proof.Machine.execHomeStart src a s
  | .homeAbort src a => Sys2Proof.Machine.execHomeAbort src a s
  | .homeStall a => Sys2Proof.Machine.execHomeStall a s
  -- ridge groups and power arbiter (08)
  | .groupRefReceived g x => Sys2Proof.Machine.execGroupRefReceived g x s
  | .groupShareReceived g x => Sys2Proof.Machine.execGroupShareReceived g x s
  | .memberStatusReceived g x => Sys2Proof.Machine.execMemberStatusReceived g x s
  | .groupRefSend g => Sys2Proof.Machine.execGroupRefSend g s
  | .groupShareSend g => Sys2Proof.Machine.execGroupShareSend g s
  | .memberStatusSend a => Sys2Proof.Machine.execMemberStatusSend a s
  | .leaderTakeover g => Sys2Proof.Machine.execLeaderTakeover g s
  | .memberAgeOut g k => Sys2Proof.Machine.execMemberAgeOut g k s
  | .leadResume g => Sys2Proof.Machine.execLeadResume g s
  | .memberIsolated a => Sys2Proof.Machine.execMemberIsolated a s
  | .isolatedTimeout a => Sys2Proof.Machine.execIsolatedTimeout a s
  | .memberRejoined a => Sys2Proof.Machine.execMemberRejoined a s
  | .arbiterTick => Sys2Proof.Machine.execArbiterTick s
  | .budgetFallback => Sys2Proof.Machine.execBudgetFallback s
  | .freqStale => Sys2Proof.Machine.execFreqStale s
  -- CAN (09)
  | .canFrameReceived p f => Sys2Proof.Machine.execCanFrameReceived p f s
  | .canTxSuccess p m loopDelay => Sys2Proof.Machine.execCanTxSuccess p m loopDelay s
  | .canTxError p m why loopDelay => Sys2Proof.Machine.execCanTxError p m why loopDelay s
  | .busOffRecovered p => Sys2Proof.Machine.execBusOffRecovered p s
  | .canRelease src p v => Sys2Proof.Machine.execCanRelease src p v s
  | .driverTimeout p => Sys2Proof.Machine.execDriverTimeout p s
  | .canReinstate src p v => Sys2Proof.Machine.execCanReinstate src p v s
  | .canAbort src p mask => Sys2Proof.Machine.execCanAbort src p mask s
  | .canModeWrite src p v => Sys2Proof.Machine.execCanModeWrite src p v s
  | .canIntegrated p => Sys2Proof.Machine.execCanIntegrated p s
  | .canSessionUnbind => Sys2Proof.Machine.execCanSessionUnbind s
  -- network and dictionary (10)
  | .read q refs => Sys2Proof.Machine.execRead q refs s
  | .write q refs => Sys2Proof.Machine.execWrite q refs s
  | .domainRead q ref offset maxLen badBeats flashTries => Sys2Proof.Machine.execDomainRead q ref offset maxLen badBeats flashTries s
  | .domainWrite q ref offset data => Sys2Proof.Machine.execDomainWrite q ref offset data s
  | .open q => Sys2Proof.Machine.execOpen q s
  | .close q => Sys2Proof.Machine.execClose q s
  | .identify q => Sys2Proof.Machine.execIdentify q s
  | .identifyReply => Sys2Proof.Machine.execIdentifyReply s
  | .progressReply port session seq => Sys2Proof.Machine.execProgressReply port session seq s
  | .sessionIdleTimeout port session => Sys2Proof.Machine.execSessionIdleTimeout port session s
  | .sessionLevelWrite q v => Sys2Proof.Machine.execSessionLevelWrite q v s
  | .credentialExpiry port session => Sys2Proof.Machine.execCredentialExpiry port session s
  | .credentialLockExpiry => Sys2Proof.Machine.execCredentialLockExpiry s
  | .domainClaimExpiry ref => Sys2Proof.Machine.execDomainClaimExpiry ref s
  | .eventRepeat => Sys2Proof.Machine.execEventRepeat s
  | .eventEntryRead n => Sys2Proof.Machine.execEventEntryRead n s
  | .eventAckAll src v => Sys2Proof.Machine.execEventAckAll src v s
  | .ethFrameForward p f => Sys2Proof.Machine.execEthFrameForward p f s
  | .linkLost p => Sys2Proof.Machine.execLinkLost p s
  | .frameErrors p bad => Sys2Proof.Machine.execFrameErrors p bad s
  | .ethReinstate src p v => Sys2Proof.Machine.execEthReinstate src p v s
  | .ptpMessageReceived x => Sys2Proof.Machine.execPtpMessageReceived x s
  | .ptpLost => Sys2Proof.Machine.execPtpLost s
  -- safety (11)
  | .safetyCycle path x => Sys2Proof.Machine.execSafetyCycle path x s
  | .speedSourceFault a => Sys2Proof.Machine.execSpeedSourceFault a s
  | .discrepancy n path => Sys2Proof.Machine.execDiscrepancy n path s
  | .pathLost lost => Sys2Proof.Machine.execPathLost lost s
  | .pathMismatch => Sys2Proof.Machine.execPathMismatch s
  | .ss1TimeExpiry a path => Sys2Proof.Machine.execSs1TimeExpiry a path s
  | .ss1StandstillReached a => Sys2Proof.Machine.execSs1StandstillReached a s
  | .brakeCmdWrite src k v => Sys2Proof.Machine.execBrakeCmdWrite src k v s
  | .brakeReleaseComplete k => Sys2Proof.Machine.execBrakeReleaseComplete k s
  | .testPulseStart k => Sys2Proof.Machine.execTestPulseStart k s
  | .testPulseEnd k pass => Sys2Proof.Machine.execTestPulseEnd k pass s
  | .sbcReadback k => Sys2Proof.Machine.execSbcReadback k s
  | .sbcOverload k => Sys2Proof.Machine.execSbcOverload k s
  | .lockrstFallingEdge pulseUs => Sys2Proof.Machine.execLockrstFallingEdge pulseUs s
  | .lockrstStuck => Sys2Proof.Machine.execLockrstStuck s
  -- Thodar and safety configuration (12)
  | .thodarData e => Sys2Proof.Machine.execThodarData e s
  | .thodarReset e => Sys2Proof.Machine.execThodarReset e s
  | .thodarTimeout j => Sys2Proof.Machine.execThodarTimeout j s
  | .thodarStatusSend j => Sys2Proof.Machine.execThodarStatusSend j s
  | .safetyPasswordNew src pw => Sys2Proof.Machine.execSafetyPasswordNew src pw s
  | .configSeal src v => Sys2Proof.Machine.execConfigSeal src v s
  -- services and recorder (13)
  | .serviceTick flips => Sys2Proof.Machine.execServiceTick flips s
  | .thrEnable src t v => Sys2Proof.Machine.execThrEnable src t v s
  | .thrCrashStart src t => Sys2Proof.Machine.execThrCrashStart src t s
  | .thrCrashEnd src t => Sys2Proof.Machine.execThrCrashEnd src t s
  | .thrShedAutoRaise t => Sys2Proof.Machine.execThrShedAutoRaise t s
  | .thrShedAutoClear t => Sys2Proof.Machine.execThrShedAutoClear t s
  | .winchModeWrite src w v => Sys2Proof.Machine.execWinchModeWrite src w v s
  | .payoutSet src w v => Sys2Proof.Machine.execPayoutSet src w v s
  | .payoutStore w => Sys2Proof.Machine.execPayoutStore w s
  | .winchReleaseStart src w => Sys2Proof.Machine.execWinchReleaseStart src w s
  | .winchReleaseStop src w => Sys2Proof.Machine.execWinchReleaseStop src w s
  | .releaseBrakeApply w => Sys2Proof.Machine.execReleaseBrakeApply w s
  | .spoolEnable src w v => Sys2Proof.Machine.execSpoolEnable src w v s
  | .spoolLost w => Sys2Proof.Machine.execSpoolLost w s
  | .ahcReferenceLost w => Sys2Proof.Machine.execAhcReferenceLost w s
  | .ahcFadeEnd w => Sys2Proof.Machine.execAhcFadeEnd w s
  | .tensionStale w => Sys2Proof.Machine.execTensionStale w s
  | .serviceLoss a => Sys2Proof.Machine.execServiceLoss a s
  | .recSample flips => Sys2Proof.Machine.execRecSample flips s
  | .recHistorySecond => Sys2Proof.Machine.execRecHistorySecond s
  | .recFreeze src v => Sys2Proof.Machine.execRecFreeze src v s
  | .recFrozen => Sys2Proof.Machine.execRecFrozen s
  | .recRearm src v => Sys2Proof.Machine.execRecRearm src v s
  -- periodic self-test (14)
  | .sliceStart slot block => Sys2Proof.Machine.execSliceStart slot block s
  | .sliceComplete block patterns countOk signatureOk => Sys2Proof.Machine.execSliceComplete block patterns countOk signatureOk s
  | .sliceAbort block patterns => Sys2Proof.Machine.execSliceAbort block patterns s
  | .sliceWaitExpiry block => Sys2Proof.Machine.execSliceWaitExpiry block s
  | .cycleLate block => Sys2Proof.Machine.execCycleLate block s
  | .testRerun src v => Sys2Proof.Machine.execTestRerun src v s
  | .testEnable src v => Sys2Proof.Machine.execTestEnable src v s
  | .testCtrl src v => Sys2Proof.Machine.execTestCtrl src v s
  | .fullDeviceTestEnd => Sys2Proof.Machine.execFullDeviceTestEnd s
  | .bscanOpen src => Sys2Proof.Machine.execBscanOpen src s
  | .bscanClose src => Sys2Proof.Machine.execBscanClose src s
  -- power domains, life cycle, firmware (15) and ratings (16)
  | .domainReset src d => Sys2Proof.Machine.execDomainReset src d s
  | .domainPowerDown src d => Sys2Proof.Machine.execDomainPowerDown src d s
  | .domainStart src d => Sys2Proof.Machine.execDomainStart src d s
  | .domainReady d => Sys2Proof.Machine.execDomainReady d s
  | .domainSupplyLoss d => Sys2Proof.Machine.execDomainSupplyLoss d s
  | .powerModeRun src => Sys2Proof.Machine.execPowerModeRun src s
  | .powerModeQuiet src => Sys2Proof.Machine.execPowerModeQuiet src s
  | .powerModeDormant src => Sys2Proof.Machine.execPowerModeDormant src s
  | .wake mv => Sys2Proof.Machine.execWake mv s
  | .supplyOn mv => Sys2Proof.Machine.execSupplyOn mv s
  | .supplyFailure mv => Sys2Proof.Machine.execSupplyFailure mv s
  | .holdUpEnd vkeepMv => Sys2Proof.Machine.execHoldUpEnd vkeepMv s
  | .lcAdvance src v => Sys2Proof.Machine.execLcAdvance src v s
  | .lcNonceRedraw => Sys2Proof.Machine.execLcNonceRedraw s
  | .fwVerifyComplete k => Sys2Proof.Machine.execFwVerifyComplete k s
  | .fwActivate src k v => Sys2Proof.Machine.execFwActivate src k v s
  | .fwTentativeConfirmed k => Sys2Proof.Machine.execFwTentativeConfirmed k s
  | .fwRevert k => Sys2Proof.Machine.execFwRevert k s
  | .baseplateMeasure tenthsC => Sys2Proof.Machine.execBaseplateMeasure tenthsC s
  | .objectWrite src r v => Sys2Proof.Machine.execObjectWrite src r v s
  -- rows added at the table's end
  | .pulseEdge l => Sys2Proof.Machine.execPulseEdge l s
  | .deadtimeExpiry l => Sys2Proof.Machine.execDeadtimeExpiry l s
  | .vbsWarnClear l mv => Sys2Proof.Machine.execVbsWarnClear l mv s
  | .overcurrentCleared a => Sys2Proof.Machine.execOvercurrentCleared a s
  | .canRxError p weight => Sys2Proof.Machine.execCanRxError p weight s
  | .ethLinkUp p gigabit => Sys2Proof.Machine.execEthLinkUp p gigabit s
  | .storedWriteReachesFlash r => Sys2Proof.Machine.execStoredWriteReachesFlash r s

end Sys2Proof.Machine
end

