-- ==== Sys2Proof/Machine/Tick.lean ====
section
/-! DEFINITION. One tick of the 400 MHz reference: what counts by itself (R19, R229, R472). The block has no row for
it: it is what `step` does on an empty queue. -/

namespace Sys2Proof.Machine

/-- The reference runs: the module is on and not DORMANT (R19, R472). DESIGN CHOICE, log entry 2; DEDUCED, log entry 79. -/
def State.refRuns (s : State) : Bool := s.runs Dom.keep && (s.power.mode == .run || s.power.mode == .quiet)

/-- Every profile generator advances by a tick while FEED runs (R229). DESIGN CHOICE, log entry 2. -/
def State.tickProfiles (s : State) : State :=
  if s.runs Dom.feed then
    { s with axes := s.axes.map fun (x : Axis) => { x with prof := x.prof.tick } }
  else s

/-- The Ethernet ports serve their egress queues while NET runs (R329). DESIGN CHOICE, log entry 2. -/
def State.tickEgress (s : State) : State :=
  if s.domains[Dom.net].gate == .closed then s else (s.serveEth 0).serveEth 1

/-- KEEP's own clock advances by 2.5 ns, in DORMANT too: at each 400,000,000th time RTC_TIME counts a second (R471, R472).
DESIGN CHOICE, log entry 2; DEDUCED, log entry 79. -/
def State.tickClock (s : State) : State :=
  if !s.runs Dom.keep then s
  else if s.power.rtcTicks + 1 < ticksPerS then { s with power := { s.power with rtcTicks := s.power.rtcTicks + 1 } }
  else { s with power := { s.power with rtcTicks := 0 } }.setObj O.rtcTime ((s.cfg O.rtcTime + 1) % 2 ^ 32)

/-- One tick of the reference, at whose end the crossings found on it have fired, and at whose beginning the compare units evaluate the
profiles (R254); where it stands still, of KEEP's clock alone. DESIGN CHOICE, log entry 2. -/
def State.tick (s : State) : State :=
  if s.refRuns then
    let s := s.cmpSettle
    let s := { s with ref := { s.ref with time := s.ref.time + 1 } }
    s.tickProfiles.cmpProfiles.tickEgress.tickClock
  else s.tickClock

end Sys2Proof.Machine
end

