-- ==== Sys2Proof/Safety.lean ====
section
/-! DEFINITION. What a sound state and a good outcome are, and the words in which the statements speak of them. -/

namespace Sys2Proof.Machine

/-- The three stores that read as the cards' defaults where they list nothing are in canonical form. -/
def State.storesWf (s : State) : Bool :=
  storeWf s.objs && storeWf s.flash && storeSorted s.staged && storeSorted s.stagedAt

/-- No leg has both sides commanded on, and a retired leg has neither (R54, R87). -/
def State.legsSound (s : State) : Bool :=
  s.legs.toList.all fun (L : Leg) => !(L.highCmd && L.lowCmd) && (L.state != .retired || (!L.highCmd && !L.lowCmd))

/-- The outcome is a next state. -/
def goesOn (o : Host.Outcome State Fault Refusal) : Bool :=
  match o with
  | .next _ => true
  | .fault _ | .refused _ => false

/-- No other write of address `a` was verified on the tick of one from `src` and executes after it (R351). -/
abbrev State.untied (s : State) (src : Src) (a : Nat) : Prop :=
  (src.arrival.all fun n => !s.tieLost src.port n a && !s.tieWaits src.port n a) = true

/-- The check of the value `v` arrives as it was made, the checks that every write passes find nothing against it for address `a`
from `src`, and no other write of its tick takes its place. -/
abbrev State.accepts (s : State) (src : Src) (a : Nat) (v : Int) : Prop :=
  src.flip = 0 ∧ s.writeRefusal src a v = none ∧ s.untied src a

/-- The newest output of `t` is the answer to a write of address `a`. -/
abbrev State.answered (t : State) (a : Nat) (code : Reply) (reason : Nat := 0) : Prop :=
  t.out.head? = some (.written (refOf a) code reason)

/-- The newest entry of the event log of `t` has this code and instance. -/
abbrev State.reported (t : State) (code inst : Nat) : Prop :=
  (t.log.entries.head?.map fun (e : Event) => (e.code, e.inst)) = some (code, inst)

/-- Where a retried leg goes (R60, R65, R84, R85): to RECHARGING while its high side is inhibited below 13.0 V, to OFF while
its group waits for VGP, else back to its phase. -/
def State.retriedState (s : State) (l : LegN) : LegState :=
  if (s.leg l).hsInhibit && s.cfgN (O.vbsNow l) < 13000 then .recharging
  else if (s.leg l).vgpOut then .off else .inService

/-- Session k serves the request `q` for `asked` now: its own domain does not drain, the session is bound to the
requester, the request is no repetition, and fewer than four are outstanding (R47, R322, R342, R343). -/
abbrev State.serves (s : State) (q : Request) (asked : Asked) (k : Fin 8) : Prop :=
  s.ownRefusal q = none ∧ (s.sessionOf q).toOption = some k ∧
    (∀ y ∈ s.net.sessions[k].kept, y.answers q asked = false) ∧
    (∀ u ∈ s.net.sessions[k].outstanding, ¬ (u.seq = q.seq ∧ u.form = q.form ∧ u.asked = asked)) ∧
    s.net.sessions[k].outstanding.length < 4

/-- The newest kept reply of session k is that to `q` for `asked`, with `n` codes. -/
abbrev State.keptFor (t : State) (k : Fin 8) (q : Request) (asked : Asked) (n : Nat) : Prop :=
  (t.net.sessions[k].kept.head?.map fun (y : Kept) => (y.seq, y.form, y.asked, y.answer.codes.length))
    = some (q.seq, q.form, asked, n)

/-- The newest outstanding request of session k is `q` for `asked`, with `n` codes to come. -/
abbrev State.outstandingFor (t : State) (k : Fin 8) (q : Request) (asked : Asked) (n : Nat) : Prop :=
  (t.net.sessions[k].outstanding.getLast?.map fun (u : Unfinished) => (u.seq, u.asked, u.answer.codes.length))
    = some (q.seq, asked, n)

/-! ### Frames -/

/-- The parts of the state, as the frames speak of them: its fields but for the queue; `settings` are the values in
force of the STORED objects (R13). -/
inductive Part where
  | ref | objs | settings | staged | stagedAt | flash | domains | crests | legs | groups | inputs | sds | channels | beforeTick | passes | excOff | axes
  | tables | units | compareOuts | migration | slices | slots | can | arbiter | safety | engine | svc | recorder | net | power | log | out | draws | writeFlips
  deriving DecidableEq, Repr

/-- Two states agree on a part. -/
def State.same (s t : State) : Part → Prop
  | .ref => t.ref = s.ref
  | .objs => t.objs = s.objs
  | .settings => ∀ a, persistOf a = .stored → t.cfg a = s.cfg a
  | .staged => t.staged = s.staged
  | .stagedAt => t.stagedAt = s.stagedAt
  | .flash => t.flash = s.flash
  | .domains => t.domains = s.domains
  | .crests => t.crests = s.crests
  | .legs => t.legs = s.legs
  | .groups => t.groups = s.groups
  | .inputs => t.inputs = s.inputs
  | .sds => t.sds = s.sds
  | .channels => t.channels = s.channels
  | .beforeTick => t.beforeTick = s.beforeTick
  | .passes => t.passes = s.passes
  | .excOff => t.excOff = s.excOff
  | .axes => t.axes = s.axes
  | .tables => t.tables = s.tables
  | .units => t.units = s.units
  | .compareOuts => t.compareOuts = s.compareOuts
  | .migration => t.migration = s.migration
  | .slices => t.slices = s.slices
  | .slots => t.slots = s.slots
  | .can => t.can = s.can
  | .arbiter => t.arbiter = s.arbiter
  | .safety => t.safety = s.safety
  | .engine => t.engine = s.engine
  | .svc => t.svc = s.svc
  | .recorder => t.recorder = s.recorder
  | .net => t.net = s.net
  | .power => t.power = s.power
  | .log => t.log = s.log
  | .out => t.out = s.out
  | .draws => t.draws = s.draws
  | .writeFlips => t.writeFlips = s.writeFlips

/-- Nothing but the listed parts differs. -/
def State.only (ps : List Part) (s t : State) : Prop := ∀ p, p ∉ ps → s.same t p

/-- What an event of the log touches (R15, R355, R448): the ring and its counter, the recorder's trigger, ATTN and the
announcement, which leaves by the egress of the Ethernet ports. -/
abbrev logged : List Part := [.objs, .recorder, .net, .log, .out]

/-- Every part. -/
abbrev everyPart : List Part :=
  [.ref, .objs, .settings, .staged, .stagedAt, .flash, .domains, .crests, .legs, .groups, .inputs, .sds,
   .channels, .beforeTick, .passes, .excOff, .axes, .tables, .units, .compareOuts, .migration, .slices, .slots,
   .can, .arbiter, .safety, .engine, .svc, .recorder, .net, .power, .log, .out, .draws, .writeFlips]

/-- The parts that a command may change when it answers a next state: its frame. -/
def touches : Instr → List Part
  | .limitRelease .. | .holdEntry .. | .overcurrentCleared .. => [.axes]
  | .canIntegrated .. => [.can]
  | .standstill .. | .ssiFrameStart .. | .fbFaultClear .. | .fbChannelValid .. => [.channels]
  | .comparePulseEnd .. => [.compareOuts]
  | .sliceWaitExpiry .. => [.engine]
  | .excRetry .. => [.excOff]
  | .safetyEnableLossAtLeg .. | .legFaultClear .. | .autoclear .. | .pulseEdge .. => [.legs]
  | .canSessionUnbind | .sessionIdleTimeout .. | .credentialExpiry .. | .credentialLockExpiry
  | .domainClaimExpiry .. | .ethLinkUp .. => [.net]
  | .baseplateMeasure .. => [.objs]
  | .fwVerifyComplete .. | .fwTentativeConfirmed .. => [.power]
  | .recHistorySecond | .recFrozen => [.recorder]
  | .brakeReleaseComplete .. | .testPulseStart .. | .lockrstStuck => [.safety]
  | .sdDcHoldExpiry .. | .sdRecovered .. => [.sds]
  | .memberAgeOut .. => [.slots]
  | .thrShedAutoRaise .. | .thrShedAutoClear .. | .payoutStore .. | .spoolLost .. | .ahcReferenceLost ..
  | .ahcFadeEnd .. | .tensionStale .. => [.svc]
  | .stepTableFlashWritten .. => [.tables]
  | .fwRevert .. => [.domains, .power]
  | .gateMonitorOffReport .. | .chopMinTimeExpiry .. | .chopFastTimeExpiry .. | .deadtimeExpiry .. => [.legs, .axes]
  | .eventRepeat => [.net, .out]
  | .lcNonceRedraw => [.objs, .draws]
  | .rechargeComplete .. | .vbsWarnClear .. => [.objs, .legs]
  | .cyclicFrameReceived .. => [.objs, .net]
  | .refLockRegained => [.ref, .axes]
  | .sliceStart .. => [.legs, .slices, .engine]
  | .sliceAbort .. => [.objs, .slices, .engine]
  | .ethFrameForward .. | .linkLost .. | .frameErrors .. | .recSample .. => logged
  | .budgetFallback | .freqStale => logged ++ [.arbiter]
  | .depthReadingsUpdate .. | .encoderTakeback .. | .followingFault .. | .homeStall .. | .isolatedTimeout ..
    => logged ++ [.axes]
  | .busOffRecovered .. | .canRxError .. => logged ++ [.can]
  | .marginWindowEnd .. => logged ++ [.crests]
  | .cycleLate .. => logged ++ [.engine]
  | .excOverload .. => logged ++ [.excOff]
  | .groupVgpHigh .. | .groupVgnHigh .. => logged ++ [.groups]
  | .catchMeasurementComplete .. | .catchSecondPulse .. => [.objs, .legs, .axes, .slices, .engine, .draws]
  | .vbsWarning .. => logged ++ [.legs]
  | .thodarTimeout .. => logged ++ [.safety]
  | .sdNoData .. => logged ++ [.sds]
  | .eccCorrected | .ptpMessageReceived .. | .ptpLost => logged ++ [.ref]
  | .lockrstFallingEdge .. => logged ++ [.axes, .safety]
  | .keWindowEnd .. | .stepAlignEnd .. | .memberRejoined .. => logged ++ [.axes, .slots]
  | .thodarData .. => logged ++ [.can, .safety]
  | .noAck .. | .gateTimeout .. | .gateRiseUncommanded .. | .bootstrapUv .. | .rechargeFailed ..
  | .prechargeEnd .. | .desat .. | .hardShort .. | .reactionEnd .. | .encDisagree .. | .observerLost ..
  | .catchFailed .. | .coilOpen .. | .stepperSumImplausible .. => logged ++ [.legs, .axes]
  | .groupVgpRestored .. => [.objs, .legs, .groups, .axes, .slices, .engine, .draws]
  | .progressReply .. => [.objs, .slices, .can, .engine, .net, .out, .draws]
  | .canTxSuccess .. => logged ++ [.slots, .can]
  | .thodarReset .. => logged ++ [.axes, .can, .safety]
  | .groupRefReceived .. | .groupShareReceived .. | .memberStatusReceived .. | .leaderTakeover ..
  | .leadResume .. | .memberIsolated .. | .canTxError .. | .driverTimeout .. => logged ++ [.axes, .slots, .can]
  | .compareCrossing .. => logged ++ [.axes, .units, .compareOuts]
  | .ssiFrameComplete .. | .amplitude .. | .lineOpen .. => logged ++ [.channels, .axes, .units]
  | .stopStandstill .. => logged ++ [.legs, .axes, .migration]
  | .supplyFailure .. => logged ++ [.legs, .axes, .power]
  | .discrepancy .. | .pathLost .. | .pathMismatch | .ss1TimeExpiry .. | .ss1StandstillReached ..
  | .testPulseEnd .. | .sbcReadback .. | .sbcOverload .. => logged ++ [.legs, .axes, .safety]
  | .groupVgpUv .. => logged ++ [.legs, .groups, .axes]
  | .overcurrent .. => logged ++ [.legs, .inputs, .axes]
  | .thodarStatusSend .. => [.objs, .slices, .can, .safety, .engine, .net, .out, .draws]
  | .ethReinstate .. | .recFreeze .. | .recRearm .. | .testRerun .. => logged ++ [.slices, .engine, .draws]
  | .eventEntryRead .. => [.ref, .crests, .legs, .inputs, .channels, .can, .net, .log]
  | .refLost .. => logged ++ [.ref, .legs, .axes]
  | .keAck .. | .homeStart .. | .homeAbort .. => logged ++ [.axes, .slices, .engine, .draws]
  | .glitchSeen .. => logged ++ [.channels, .passes, .axes, .units]
  | .indexArm .. => logged ++ [.channels, .slices, .engine, .draws]
  | .testCtrl .. => logged ++ [.domains, .slices, .engine, .draws]
  | .ciReinstate .. => logged ++ [.inputs, .slices, .engine, .draws]
  | .speedSourceFault .. => logged ++ [.legs, .axes, .slots, .safety]
  | .legReinstate .. => logged ++ [.legs, .slices, .engine, .draws]
  | .testEnable .. => logged ++ [.settings, .slices, .engine, .draws]
  | .canFrameReceived .. | .canRelease .. | .canReinstate .. | .canAbort .. | .domainRead .. | .open ..
  | .close .. | .identify .. | .identifyReply | .sessionLevelWrite ..
    => logged ++ [.slices, .can, .engine, .draws]
  | .winchModeWrite .. | .payoutSet .. | .spoolEnable .. => logged ++ [.slices, .engine, .svc, .draws]
  | .brakeCmdWrite .. | .safetyPasswordNew .. | .configSeal .. => logged ++ [.slices, .safety, .engine, .draws]
  | .stepTableRestore .. => logged ++ [.tables, .slices, .engine, .draws]
  | .stepTableCommit .. => logged ++ [.axes, .tables, .slices, .engine, .draws]
  | .edgeAccepted .. => logged ++ [.channels, .beforeTick, .passes, .axes, .units]
  | .deadlineMissed .. | .crestFailure .. => logged ++ [.domains, .crests, .legs, .axes, .migration]
  | .crestReinstate .. => logged ++ [.domains, .crests, .slices, .engine, .draws]
  | .gateForced .. => logged ++ [.domains, .slices, .can, .engine, .draws]
  | .safetyCycle .. => logged ++ [.legs, .axes, .slots, .safety, .writeFlips]
  | .sampleInstant .. => logged ++ [.sds, .channels, .beforeTick, .axes, .units]
  | .ptSourceChange .. => logged ++ [.settings, .passes, .slices, .engine, .draws]
  | .serviceLoss .. => logged ++ [.settings, .staged, .stagedAt, .axes, .slots]
  | .zeroMeasurementComplete .. => logged ++ [.staged, .stagedAt, .legs, .inputs, .axes]
  | .groupRefSend .. | .groupShareSend .. | .memberStatusSend ..
    => logged ++ [.axes, .slices, .slots, .can, .engine, .draws]
  | .compareSourceValid .. => logged ++ [.axes, .units, .compareOuts, .slices, .engine, .draws]
  | .chopperDecision .. => logged ++ [.domains, .crests, .legs, .inputs, .axes, .migration]
  | .axisMigrated .. => logged ++ [.legs, .axes, .migration, .slices, .engine, .draws]
  | .arbiterTick => logged ++ [.settings, .staged, .stagedAt, .axes, .arbiter, .engine]
  | .domainWrite .. => logged ++ [.tables, .slices, .can, .engine, .power, .draws]
  | .fbReinstate .. => logged ++ [.channels, .beforeTick, .axes, .units, .slices, .engine, .draws]
  | .canModeWrite .. => logged ++ [.settings, .axes, .slices, .slots, .can, .engine, .draws]
  | .cmpPositionWrite .. | .cmpDirectionWrite .. | .cmpSourceWrite .. | .cmpEnableWrite ..
    => logged ++ [.settings, .axes, .units, .compareOuts, .slices, .engine, .draws]
  | .crestReinstated .. => logged ++ [.domains, .crests, .axes, .units, .compareOuts, .slices, .engine, .draws]
  | .fbChannelRestart .. => logged ++ [.settings, .channels, .beforeTick, .axes, .units, .slices, .engine, .draws]
  | .wake .. | .supplyOn ..
    => [.objs, .settings, .staged, .stagedAt, .flash, .domains, .crests, .tables, .safety, .svc, .recorder, .power, .draws]
  | .eventAckAll .. => logged ++ [.ref, .crests, .legs, .inputs, .channels, .slices, .can, .engine, .draws]
  | .axisEnable .. | .axisStart .. | .axisStop .. | .axisDisable ..
    => logged ++ [.staged, .stagedAt, .legs, .axes, .migration, .slices, .slots, .arbiter, .engine, .draws]
  | .thrEnable .. | .thrCrashStart .. | .thrCrashEnd .. | .winchReleaseStart .. | .winchReleaseStop ..
  | .releaseBrakeApply ..
    => logged ++ [.settings, .staged, .stagedAt, .axes, .units, .compareOuts, .slices, .safety, .engine, .svc, .draws]
  | .read .. => logged ++ [.ref, .crests, .legs, .inputs, .channels, .axes, .units, .slices, .can, .engine, .draws]
  | .serviceTick ..
    => logged ++ [.settings, .staged, .stagedAt, .domains, .axes, .units, .compareOuts, .slices, .safety, .engine, .svc, .draws, .writeFlips]
  | .domainReset .. | .domainPowerDown .. | .domainStart ..
    => logged ++ [.settings, .staged, .stagedAt, .domains, .crests, .axes, .units, .compareOuts, .slices, .safety, .engine, .svc, .draws]
  | .plannerTick ..
    => logged ++ [.settings, .staged, .stagedAt, .domains, .crests, .legs, .axes, .units, .compareOuts, .migration, .slices, .engine, .draws]
  | .updatePoint ..
    => logged ++ [.settings, .staged, .stagedAt, .domains, .crests, .legs, .inputs, .axes, .migration, .slices, .slots, .engine, .draws]
  | .sliceComplete ..
    => logged ++ [.domains, .crests, .legs, .inputs, .sds, .channels, .axes, .units, .compareOuts, .migration, .slices, .slots, .can, .engine, .draws]
  | .axisLoopCommit ..
    => logged ++ [.staged, .stagedAt, .domains, .crests, .legs, .inputs, .channels, .axes, .units, .migration, .slices, .slots, .can, .engine, .draws]
  | .domainReady ..
    => logged ++ [.settings, .staged, .stagedAt, .domains, .crests, .legs, .channels, .beforeTick, .passes, .axes, .tables, .units, .compareOuts, .can, .safety, .svc, .power]
  | .gateDrainComplete .. | .cyclicApplicationInstant .. | .write .. | .fullDeviceTestEnd | .bscanOpen ..
  | .bscanClose .. | .domainSupplyLoss .. | .powerModeRun .. | .powerModeQuiet .. | .powerModeDormant ..
  | .holdUpEnd .. | .lcAdvance .. | .fwActivate .. | .objectWrite .. | .storedWriteReachesFlash .. => everyPart

/-- The families of commands, as the frames group them. -/
inductive Family where
  /-- cycles, fabric, leg cells, current sensing, feedback -/
  | legs
  /-- field control, stepper, motion, arbiter, load sharing -/
  | axes
  /-- CAN ports, dictionary, network, Thodar -/
  | links
  /-- safe paths, services, recorder, self-test, power -/
  | services
  deriving DecidableEq, Repr

/-- The family of a command. -/
def familyOf : Instr → Family
  | .sampleInstant .. | .axisLoopCommit .. | .updatePoint .. | .deadlineMissed .. | .noAck .. | .refLost ..
  | .refLockRegained | .eccCorrected | .marginWindowEnd .. | .crestReinstate .. | .crestReinstated ..
  | .safetyEnableLossAtLeg .. | .gateMonitorOffReport .. | .gateTimeout .. | .gateRiseUncommanded ..
  | .groupVgpUv .. | .groupVgpRestored .. | .groupVgpHigh .. | .groupVgnHigh .. | .vbsWarning ..
  | .bootstrapUv .. | .rechargeComplete .. | .rechargeFailed .. | .desat .. | .hardShort .. | .legFaultClear ..
  | .autoclear .. | .overcurrent .. | .zeroMeasurementComplete .. | .sdNoData .. | .sdDcHoldExpiry ..
  | .sdRecovered .. | .limitRelease .. | .depthReadingsUpdate .. | .ciReinstate .. | .edgeAccepted ..
  | .glitchSeen .. | .standstill .. | .ssiFrameStart .. | .ssiFrameComplete .. | .amplitude .. | .excOverload ..
  | .excRetry .. | .lineOpen .. | .fbFaultClear .. | .fbChannelRestart .. | .fbChannelValid .. | .fbReinstate ..
  | .indexArm .. | .ptSourceChange .. | .crestFailure .. | .axisMigrated .. | .pulseEdge .. | .deadtimeExpiry ..
  | .vbsWarnClear .. | .overcurrentCleared .. => .legs
  | .prechargeEnd .. | .reactionEnd .. | .legReinstate .. | .axisEnable .. | .axisStart .. | .axisStop ..
  | .axisDisable .. | .stopStandstill .. | .encDisagree .. | .encoderTakeback .. | .observerLost ..
  | .keWindowEnd .. | .keAck .. | .catchMeasurementComplete .. | .catchSecondPulse .. | .catchFailed ..
  | .chopperDecision .. | .chopMinTimeExpiry .. | .chopFastTimeExpiry .. | .coilOpen ..
  | .stepperSumImplausible .. | .holdEntry .. | .stepAlignEnd .. | .stepTableCommit .. | .stepTableRestore ..
  | .stepTableFlashWritten .. | .plannerTick .. | .followingFault .. | .compareCrossing .. | .comparePulseEnd ..
  | .cmpPositionWrite .. | .cmpDirectionWrite .. | .cmpSourceWrite .. | .cmpEnableWrite ..
  | .compareSourceValid .. | .homeStart .. | .homeAbort .. | .homeStall .. | .groupRefReceived ..
  | .groupShareReceived .. | .memberStatusReceived .. | .groupRefSend .. | .groupShareSend ..
  | .memberStatusSend .. | .leaderTakeover .. | .memberAgeOut .. | .leadResume .. | .memberIsolated ..
  | .isolatedTimeout .. | .memberRejoined .. | .arbiterTick | .budgetFallback | .freqStale => .axes
  | .gateForced .. | .cyclicFrameReceived .. | .cyclicApplicationInstant .. | .canFrameReceived ..
  | .canTxSuccess .. | .canTxError .. | .busOffRecovered .. | .canRelease .. | .driverTimeout ..
  | .canReinstate .. | .canAbort .. | .canModeWrite .. | .canIntegrated .. | .canSessionUnbind | .read ..
  | .write .. | .domainRead .. | .domainWrite .. | .open .. | .close .. | .identify .. | .identifyReply
  | .progressReply .. | .sessionIdleTimeout .. | .sessionLevelWrite .. | .credentialExpiry ..
  | .credentialLockExpiry | .domainClaimExpiry .. | .eventRepeat | .eventEntryRead .. | .eventAckAll ..
  | .ethFrameForward .. | .linkLost .. | .frameErrors .. | .ethReinstate .. | .ptpMessageReceived ..
  | .ptpLost | .thodarData .. | .thodarReset .. | .thodarTimeout .. | .thodarStatusSend ..
  | .safetyPasswordNew .. | .configSeal .. | .objectWrite .. | .canRxError .. | .ethLinkUp ..
  | .storedWriteReachesFlash .. => .links
  | .gateDrainComplete .. | .safetyCycle .. | .speedSourceFault .. | .discrepancy .. | .pathLost ..
  | .pathMismatch | .ss1TimeExpiry .. | .ss1StandstillReached .. | .brakeCmdWrite ..
  | .brakeReleaseComplete .. | .testPulseStart .. | .testPulseEnd .. | .sbcReadback .. | .sbcOverload ..
  | .lockrstFallingEdge .. | .lockrstStuck | .serviceTick .. | .thrEnable .. | .thrCrashStart ..
  | .thrCrashEnd .. | .thrShedAutoRaise .. | .thrShedAutoClear .. | .winchModeWrite .. | .payoutSet ..
  | .payoutStore .. | .winchReleaseStart .. | .winchReleaseStop .. | .releaseBrakeApply .. | .spoolEnable ..
  | .spoolLost .. | .ahcReferenceLost .. | .ahcFadeEnd .. | .tensionStale .. | .serviceLoss .. | .recSample ..
  | .recHistorySecond | .recFreeze .. | .recFrozen | .recRearm .. | .sliceStart .. | .sliceComplete ..
  | .sliceAbort .. | .sliceWaitExpiry .. | .cycleLate .. | .testRerun .. | .testEnable .. | .testCtrl ..
  | .fullDeviceTestEnd | .bscanOpen .. | .bscanClose .. | .domainReset .. | .domainPowerDown ..
  | .domainStart .. | .domainReady .. | .domainSupplyLoss .. | .powerModeRun .. | .powerModeQuiet ..
  | .powerModeDormant .. | .wake .. | .supplyOn .. | .supplyFailure .. | .holdUpEnd .. | .lcAdvance ..
  | .lcNonceRedraw | .fwVerifyComplete .. | .fwActivate .. | .fwTentativeConfirmed .. | .fwRevert ..
  | .baseplateMeasure .. => .services

end Sys2Proof.Machine
end

