-- ==== Sys2Proof/Certificates/Slice0/Obligations.lean ====
section
/-! DEFINITION. The statements for the provers, each cited from the rules of spec/. -/

section

open Sys2Proof Sys2Proof.Machine

/-- O1 (R36, R41). A step runs the command at the front of the queue on the rest of the queue. For every command c
and state s, step of s with c at the front of its queue is exec of c on s with the queue's rest. The queue is
the model's own way of handing the table's rows to the block (assumption log entry 1). -/
def Obligations.StepRunsFrontCommand : Prop :=
  ∀ (c : Instr) (cs : List Instr) (s : State), step { s with pending := c :: cs } = exec c { s with pending := cs }

/-- O2 (R19, R229, R471, R472). On an empty queue the reference counts one tick and every generator advances, where
the module is on and not DORMANT; KEEP's clock counts in DORMANT too. On an empty queue step always answers a
next state. With KEEP in RUN and the module in RUN or QUIET, REF_TIME is one more; the crossings that compare
units found on the tick that ends have fired; while FEED runs each profile generator has advanced by one tick of
R229, and keeps but the time of a firing that it was told of. Otherwise REF_TIME holds, and nothing changes but
the clock of KEEP, which stands too where KEEP does not run. While KEEP runs, RTC_TIME counts a second at each
400,000,000th step. That an empty queue stands for a tick is the model's choice (assumption log entry 2). -/
def Obligations.IdleStepIsAReferenceTick : Prop :=
  ∀ s : State, s.pending = [] →
    ∃ t, step s = .next t ∧ t.pending = [] ∧
      (s.refRuns = true → t.ref.time = s.ref.time + 1) ∧
      (s.refRuns = false → t = { s with objs := t.objs, power := { s.power with rtcTicks := t.power.rtcTicks } }) ∧
      (s.runs Dom.keep = false → t = s) ∧
      (s.runs Dom.keep = true → s.power.rtcTicks + 1 < ticksPerS →
        t.power.rtcTicks = s.power.rtcTicks + 1 ∧ (s.storesWf = true → t.cfg O.rtcTime = s.cfg O.rtcTime)) ∧
      (s.runs Dom.keep = true → ticksPerS ≤ s.power.rtcTicks + 1 → s.storesWf = true →
        t.power.rtcTicks = 0 ∧ t.cfg O.rtcTime = (s.cfg O.rtcTime + 1) % 2 ^ 32) ∧
      (s.refRuns = true → ∀ u : UnitN, t.units[u].crossed.isSome = true → t.cmpValid u = true) ∧
      (s.refRuns = true → s.runs Dom.feed = true → ∀ a : AxisN,
        { (t.axis a).prof with triggered := (s.axis a).prof.triggered } = (s.axis a).prof.tick ∧
        ((∀ u : UnitN, s.units[u].crossed = none) → (t.axis a).prof = (s.axis a).prof.tick))

/-- O3 (R487). Only SUPPLY_ON above the absolute maximum of 36 V stops, and it stops with that fault. Every command
but SUPPLY_ON above 36,000 mV answers a next state from every state; SUPPLY_ON above 36,000 mV answers the fault
absoluteMaximum, since the manual does not describe the module beyond its ratings. -/
def Obligations.OnlySupplyAboveTheRatingStops : Prop :=
  ∀ (c : Instr) (s : State),
    ((∀ mv, c = .supplyOn mv → mv ≤ 36000) → ∃ t, exec c s = .next t) ∧
    (∀ mv, c = .supplyOn mv → 36000 < mv → exec c s = .fault .absoluteMaximum)

/-- O4 (R32, R36). No command changes the queue of waiting commands, or leaves a turned-over check behind it. When
exec answers a next state, the queue of that state is the queue it was given; and the checks turned over in the
writes of a service tick or a safety cycle end with it: none is left for the next command where none was left
before. The queue is the model's own (assumption log entry 1). -/
def Obligations.CommandsLeaveTheQueueAlone : Prop :=
  ∀ (c : Instr) (s t : State), exec c s = .next t →
    t.pending = s.pending ∧ (s.writeFlips = [] → t.writeFlips = [])

/-- O5 (R12, R32, R340, R344, R352, R420). A write whose check fails is counted, reported and answered CHECK_FAILED;
one that the other checks refuse changes nothing. For every row that writes an integer object: where bits of the
value's check are turned over, the command's whole effect is the count and report of a failed check of kind 0x05
from the source's producer, and the answer CHECK_FAILED; where the check holds and the checks of every write
(life cycle, address, gatekeeper, level, type, range, WHEN DISABLED, claims) refuse the value with a code and a
reason, the command answers exactly that code and reason and the state is otherwise unchanged. -/
def Obligations.RefusedWriteAnswersAndChangesNothing : Prop :=
  ∀ (c : Instr) (s : State) (src : Src) (a : Nat) (v : Int), rowWrite c = some (src, a, v) →
    (src.flip ≠ 0 →
      exec c s = .next ((s.checkReport 5 (producerOf src.port)).emit (.written (refOf a) .checkFailed 0))) ∧
    (∀ (code : Reply) (reason : Nat), src.flip = 0 → s.writeRefusal src a v = some (code, reason) →
      exec c s = .next (s.emit (.written (refOf a) code reason)))

/-- O6 (R13, R14, R354). Every step keeps the dictionary's stores in canonical form. The values in force and in
flash are listed at strictly rising addresses with no entry equal to its card's default, and the waiting values
at strictly rising addresses; every step from a state where this holds gives a state where it holds, whatever
command is at the front. The sparse lists are the model's form of the dictionary (assumption log entry 3). -/
def Obligations.StoresStayCanonical : Prop :=
  ∀ s t : State, s.storesWf = true → step s = .next t → t.storesWf = true

/-- O7 (R54, R84, R87). No step commands both sides of a leg on, or any side of a retired leg. In every state where
no leg has both sides commanded on and no retired leg has a side commanded on, a step answers only states where
this still holds, whatever command is at the front of the queue. -/
def Obligations.LegsStaySound : Prop :=
  ∀ s t : State, s.legsSound = true → step s = .next t → t.legsSound = true

/-- O8 (R474, R477). The module without supply is sound: stores canonical, no gate on, every domain OFF, nothing
waiting. State.reset has its stores in canonical form, no leg side commanded on, every power domain OFF, every
axis DISABLED, and an empty queue. -/
def Obligations.ResetIsSound : Prop :=
  State.reset.storesWf = true ∧ State.reset.legsSound = true ∧ State.reset.pending = [] ∧
    (∀ d : DomainN, State.reset.domains[d].state = .off) ∧
    (∀ l : LegN, State.reset.legs[l].highCmd = false ∧ State.reset.legs[l].lowCmd = false) ∧
    (∀ a : AxisN, (State.reset.axis a).field.state = .disabled)

/-- O9 (R27, R36, R39, R51). Sample instant, axis-loop commit, update point, missed deadline: what each does to the
running cycle. On an axis whose cycles run: SAMPLE_INSTANT begins the next cycle in its buffer, uncommitted and
stamped; AXIS_LOOP_COMMIT of the oldest cycle not yet executed, with a set-point token whose checks hold, marks
that cycle executed and committed at this tick and writes its number into the shadow of every leg that the crest
writes and that has acknowledged; UPDATE_POINT of the cycle whose turn it is, committed at least 20 ticks ago
and not late, makes the whole edge set of that cycle active at each of those legs and ends the run of misses;
DEADLINE_MISSED of an uncommitted one marks the cycle late and adds one to the run of misses. -/
def Obligations.CycleCommandsComplete : Prop :=
  ∀ (s : State) (a : AxisN), s.cycling a = true → s.storesWf = true →
    let f := (s.axis a).field
    (∀ x, ∃ t, exec (.sampleInstant a x) s = .next t ∧ (t.axis a).field.cycle = f.cycle + 1 ∧
      let c := (t.axis a).field.cycles[(f.cycle + 1) % 2]
      c.number = f.cycle + 1 ∧ c.sampledAt = s.ref.time ∧ c.committed = none ∧ c.late = false ∧ c.past = false) ∧
    (∀ x, f.executed < f.cycle →
      let k := max (f.executed + 1) (f.cycle - 1)
      flipFirst x.setpointFlip f.cycles[k % 2].setPoint.checks = f.cycles[k % 2].setPoint.sum →
      ∃ t, exec (.axisLoopCommit a x) s = .next t ∧ (t.axis a).field.executed = k ∧
        (t.axis a).field.cycles[k % 2].committed = some s.ref.time ∧
        ∀ l ∈ s.legsOf a, (s.leg l).silent = false → (t.leg l).written = true →
          (t.leg l).shadow[k % 2].cycle = k) ∧
    (let k := s.dueCycle a
     f.cycles[k % 2].number = k → f.cycles[k % 2].late = false →
      (∀ t0, f.cycles[k % 2].committed = some t0 → t0 + 20 ≤ s.ref.time →
        ∃ t, exec (.updatePoint a []) s = .next t ∧ (t.axis a).field.missRun = 0 ∧
          ∀ l ∈ s.legsOf a, (s.leg l).written = true → (s.leg l).shadow[k % 2].cycle = k →
            (t.leg l).active = (s.leg l).shadow[k % 2]) ∧
      (f.cycles[k % 2].committed = none → k ≠ 0 → f.cycles[k % 2].past = false →
        ∃ t, exec (.deadlineMissed a) s = .next t ∧ (t.axis a).field.cycles[k % 2].late = true ∧
          (t.axis a).field.missRun = f.missRun + 1))

/-- O10 (R20, R30, R513). Loss and return of the reference lock, and a corrected DRAM error. REF_LOST clears LOCKED,
sets LOSS_LATCH, and sets TCXO_FAULT where the TCXO monitor tripped; REF_LOCK_REGAINED sets LOCKED, clears
TCXO_FAULT and removes the loss from the causes of every held reaction; ECC_CORRECTED counts one error and
enters 0xC007. -/
def Obligations.ReferenceCommandsComplete : Prop :=
  ∀ s : State,
    (∀ tcxo, ∃ t, exec (.refLost tcxo) s = .next t ∧ t.ref.locked = false ∧ t.ref.lossLatch = true ∧
      t.ref.tcxoFault = (s.ref.tcxoFault || tcxo)) ∧
    (∃ t, exec .refLockRegained s = .next t ∧ t.ref.locked = true ∧ t.ref.tcxoFault = false ∧
      ∀ a : AxisN, HoldCause.refLost ∉ (t.axis a).reaction.causes) ∧
    (∃ t, exec .eccCorrected s = .next t ∧ t.ref.eccCount = s.ref.eccCount + 1 ∧
      t.reported 0xC007 noInstance)

/-- O11 (R24, R34, R200, R201, R202). The crest's margin window, failure, reinstatement, and the placement of a
waiting axis. MARGIN_WINDOW_END of an active crest writes MARGIN_NOW of the window's longest execution and
begins a new window; CREST_FAILURE retires a crest and its domain is OFF; an accepted CREST_REINSTATE of a crest
whose STATE reads RETIRED (none of its axes migrates) and whose home axes are DISABLED is answered OK and clears
its counted faults, and starts its domain where no reinstatement runs yet; CREST_REINSTATED makes it ACTIVE in
RUN when every slice of the full cycles of its CREST_LOGIC, its CREST_SRAM and of CREST_LINK has passed, and
leaves its domain OFF when one of them fails; AXIS_MIGRATED at the head of the queue places the axis on the
crest that R201 chooses. -/
def Obligations.CrestCommandsComplete : Prop :=
  ∀ s : State,
    (∀ c : CrestN, s.storesWf = true → s.crests[c].state = .active → s.runs (Dom.crest c) = true →
      ∃ t, exec (.marginWindowEnd c) s = .next t ∧ t.crests[c].longest = 0 ∧
        t.cfg (O.marginNow c) = marginOf s.crests[c].longest) ∧
    (∀ c : CrestN, s.crests[c].state ≠ .retired →
      ∃ t, exec (.crestFailure c) s = .next t ∧ t.crests[c].state = .retired ∧
        t.domains[Dom.crest c].state = .off ∧ t.domains[Dom.crest c].gate = .closed) ∧
    (∀ (src : Src) (c : CrestN) (v : Int), s.accepts src (O.crestReinstate c) v → s.crests[c].state = .retired →
      s.migrating c = false →
      (∀ a : AxisN, s.axisType a ≠ 0 → s.homeCrest a = c → s.isDisabled a = true) →
      ∃ t, exec (.crestReinstate src c v) s = .next t ∧ t.answered (O.crestReinstate c) .ok ∧
        t.crests[c].reinstating = true ∧ t.crests[c].faults = [] ∧
        (s.crests[c].reinstating = false → t.domains[Dom.crest c].state = .starting)) ∧
    (∀ (c : CrestN) (slices : List SliceOutcome), s.crests[c].reinstating = true →
      (slices.map (fun x : SliceOutcome => x.block) = s.reinstateBlocks c →
        (∀ x ∈ slices, x.countOk = true ∧ x.signatureOk = true) →
        ∃ t, exec (.crestReinstated c slices) s = .next t ∧ t.crests[c].state = .active ∧
          t.domains[Dom.crest c].state = .run ∧ t.domains[Dom.crest c].gate = .open) ∧
      (slices.map (fun x : SliceOutcome => x.block) = (s.reinstateBlocks c).take slices.length →
        (∃ x ∈ slices, x.countOk = false ∨ x.signatureOk = false) →
        ∃ t, exec (.crestReinstated c slices) s = .next t ∧ t.domains[Dom.crest c].state = .off ∧
          t.domains[Dom.crest c].gate = .closed)) ∧
    (∀ (a : AxisN) (rest : List AxisN) (c : CrestN), s.migration = a :: rest → s.bestCrest a = some c →
      ∃ t, exec (.axisMigrated a) s = .next t ∧ (t.axis a).field.crest = c ∧
        (t.axis a).field.unplaced = false ∧ a ∉ t.migration)

/-- O12 (R50, R51, R53, R54, R58). A lost safety enable, a gate monitor's report, the end of a dead time and a PULSE
edge at one leg. SAFETY_ENABLE_LOSS_AT_LEG removes the path's enable and commands both sides off.
GATE_MONITOR_OFF_REPORT reads the side off, and a side that reports off is no longer commanded on (assumption
log entry 126); a turn-on of the other side whose dead time has passed and which the enables allow is made with
it. DEADTIME_EXPIRY makes a turn-on whose other gate is already off. PULSE_EDGE, with the reference locked,
takes the next edge of the leg's interval and sets its level; on a leg in service that neither a reaction nor a
precharge of the running axis holds, the side that the level turns off is commanded off, and an interval shorter
than MIN_ON leaves both sides off. -/
def Obligations.LegGateCommandsComplete : Prop :=
  ∀ (s : State) (l : LegN),
    (∃ t, exec (.safetyEnableLossAtLeg l .p) s = .next t ∧ (t.leg l).enP = false ∧
      (t.leg l).highCmd = false ∧ (t.leg l).lowCmd = false ∧ (t.leg l).turnOn = none) ∧
    (∃ t, exec (.safetyEnableLossAtLeg l .l) s = .next t ∧ (t.leg l).enL = false ∧
      (t.leg l).highCmd = false ∧ (t.leg l).lowCmd = false ∧ (t.leg l).turnOn = none) ∧
    (∀ sd : Side, (s.leg l).turnOn = none →
      ∃ t, exec (.gateMonitorOffReport l sd) s = .next t ∧ (t.leg l).gateOn sd = false ∧ (t.leg l).cmd sd = false) ∧
    (∀ sd : Side, (s.leg l).turnOn = some (.side sd.other) → (s.leg l).deadTimeUp = true →
      (s.leg l).allows sd.other = true →
      ∃ t, exec (.gateMonitorOffReport l sd) s = .next t ∧ (t.leg l).gateOn sd = false ∧ (t.leg l).cmd sd = false ∧
        (t.leg l).cmd sd.other = true ∧ (t.leg l).gateOn sd.other = true) ∧
    (∀ sd : Side, (s.leg l).turnOn = some (.side sd) → (s.leg l).gateOn sd.other = false →
      (s.leg l).allows sd = true →
      ∃ t, exec (.deadtimeExpiry l) s = .next t ∧ (t.leg l).cmd sd = true ∧ (t.leg l).cmd sd.other = false ∧
        (t.leg l).turnOn = none) ∧
    (∀ (a : AxisN) (e : Edge) (es : List Edge), s.ref.locked = true → s.axisOf l = some a → (s.leg l).edges = e :: es →
      ∃ t, exec (.pulseEdge l) s = .next t ∧ (t.leg l).pulse = e.level ∧ (t.leg l).edges = es ∧
        (s.reacting l = false → (s.axis a).field.regain = false → (s.leg l).state = .inService →
          (t.leg l).cmd (if e.level then .low else .high) = false ∧
          (s.dropped a l (s.leg l).active e.level = true → (t.leg l).highCmd = false ∧ (t.leg l).lowCmd = false)))

/-- O13 (R37, R52, R57, R67, R68, R70, R84, R86). The gate, desaturation and short faults of a leg latch it with
both sides off, and a leg without acknowledge is left out. On a leg that is not retired: GATE_TIMEOUT of a side
commanded off that still reads on, GATE_RISE_UNCOMMANDED of a side commanded off that read off, DESAT of a side
commanded on outside the refresh blanking, and HARD_SHORT of a side commanded on each latch their fault with its
side, command both sides off, and leave the leg latched, or retired by its count, or NOT_ASSIGNED where it
belongs to no axis. NO_ACK of a leg in service leaves it out of the commit. -/
def Obligations.LegFaultCommandsComplete : Prop :=
  ∀ (s : State) (l : LegN) (sd : Side),
    ((s.leg l).state ≠ .retired →
      ((s.leg l).cmd sd = false → (s.leg l).gateOn sd = true →
        ∃ t, exec (.gateTimeout l sd) s = .next t ∧ (t.leg l).latch = some (.gateTimeout, sd) ∧
          (t.leg l).highCmd = false ∧ (t.leg l).lowCmd = false ∧
          ((t.leg l).state = .retired ∨ (t.leg l).state = if (s.leg l).state = .notAssigned then .notAssigned else .latched)) ∧
      ((s.leg l).cmd sd = false → (s.leg l).gateOn sd = false →
        ∃ t, exec (.gateRiseUncommanded l sd) s = .next t ∧ (t.leg l).latch = some (.gateRise, sd) ∧
          (t.leg l).highCmd = false ∧ (t.leg l).lowCmd = false ∧
          ((t.leg l).state = .retired ∨ (t.leg l).state = if (s.leg l).state = .notAssigned then .notAssigned else .latched)) ∧
      ((s.leg l).cmd sd = true →
        ¬ ((s.leg l).inRefresh = true ∧ sd = .low ∧ 12 ≤ s.cfgN (O.blanking l)) →
        ∃ t, exec (.desat l sd) s = .next t ∧ (t.leg l).latch = some (.desat, sd) ∧
          (t.leg l).highCmd = false ∧ (t.leg l).lowCmd = false ∧
          ((t.leg l).state = .retired ∨ (t.leg l).state = if (s.leg l).state = .notAssigned then .notAssigned else .latched)) ∧
      ((s.leg l).cmd sd = true →
        ∃ t, exec (.hardShort l sd) s = .next t ∧ (t.leg l).latch = some (.hardShort, sd) ∧
          (t.leg l).highCmd = false ∧ (t.leg l).lowCmd = false ∧
          ((t.leg l).state = .retired ∨ (t.leg l).state = if (s.leg l).state = .notAssigned then .notAssigned else .latched))) ∧
    ((s.leg l).state = .inService →
      ∃ t, exec (.noAck l) s = .next t ∧ (t.leg l).leftOut = true ∧ (t.leg l).silent = true ∧
        (t.leg l).latch = some (.noAck, .low))

/-- O14 (R60, R61, R64, R65, R66, R191). Gate supplies and bootstrap supplies: undervoltage, restoration, warnings,
recharge and precharge. GROUP_VGP_UV below 14.2 V removes the group's power and commands all its legs off;
GROUP_VGP_RESTORED above 14.5 V gives it back, and its waiting legs rejoin later, or at once in a precharge of
an axis that runs; GROUP_VGP_HIGH and GROUP_VGN_HIGH set their flags by the reading; VBS_WARNING below 12.65 V
sets VBS_WARN and enters 0x1108, VBS_WARN_CLEAR above 12.35 V clears it; BOOTSTRAP_UV below 11.15 V latches its
fault with the high side inhibited, and leaves a latched leg its latch; RECHARGE_COMPLETE at 13.0 V brings the
leg back to service, or to OFF while its group waits for VGP; RECHARGE_FAILED, 20 ms after the undervoltage,
latches its fault; PRECHARGE_END with every leg at 13.0 V turns the low sides off and lets a sensor start, or
the running axis, go on. -/
def Obligations.LegSupplyCommandsComplete : Prop :=
  ∀ s : State,
    (∀ (g : GroupN) (mv : Nat), s.groups[g].vgpUv = false → mv < 14200 →
      ∃ t, exec (.groupVgpUv g mv) s = .next t ∧ t.groups[g].vgpUv = true ∧ t.groups[g].powered = false ∧
        ∀ l : LegN, groupOf l = g → (t.leg l).highCmd = false ∧ (t.leg l).lowCmd = false) ∧
    (∀ (g : GroupN) (mv : Nat), 14500 < mv → s.storesWf = true →
      ∃ t, exec (.groupVgpRestored g mv) s = .next t ∧ t.groups[g].vgpUv = false ∧ t.groups[g].powered = true ∧
        ∀ l : LegN, groupOf l = g → (s.leg l).vgpOut = true →
          ((t.leg l).rejoin = true ∨ (t.leg l).vgpOut = false) ∧
          ((∀ a : AxisN, l ∈ s.legsOf a → s.driving a = false) → (t.leg l).rejoin = true ∧ (t.leg l).vgpOut = true)) ∧
    (∀ (g : GroupN) (mv : Nat),
      ∃ t, exec (.groupVgpHigh g mv) s = .next t ∧ t.groups[g].vgpHigh = decide (20500 < mv)) ∧
    (∀ (g : GroupN) (mv : Int),
      ∃ t, exec (.groupVgnHigh g mv) s = .next t ∧
        t.groups[g].vgnHigh = decide (s.cfg (O.vgnExpected g) + 1500 < mv)) ∧
    (∀ (l : LegN) (mv : Nat), (s.leg l).vbsWarn = false → mv < 12650 →
      ∃ t, exec (.vbsWarning l mv) s = .next t ∧ (t.leg l).vbsWarn = true ∧ t.reported 0x1108 l) ∧
    (∀ (l : LegN) (mv : Nat), 12350 < mv →
      ∃ t, exec (.vbsWarnClear l mv) s = .next t ∧ (t.leg l).vbsWarn = false) ∧
    (∀ (l : LegN) (mv : Nat), mv < 11150 →
      ((s.leg l).state = .inService ∨ (s.leg l).state = .off →
        ∃ t, exec (.bootstrapUv l mv) s = .next t ∧ (t.leg l).latch = some (.bootstrapUv, .high) ∧
          (t.leg l).hsInhibit = true ∧ ((t.leg l).state = .recharging ∨ (t.leg l).state = .retired)) ∧
      ((s.leg l).state = .latched → (s.leg l).hsInhibit = false →
        ∃ t, exec (.bootstrapUv l mv) s = .next t ∧ (t.leg l).latch = (s.leg l).latch ∧
          (t.leg l).hsInhibit = true ∧ ((t.leg l).state = .latched ∨ (t.leg l).state = .retired))) ∧
    (∀ (l : LegN) (mv : Nat), (s.leg l).state = .recharging → 13000 ≤ mv → s.storesWf = true →
      ∃ t, exec (.rechargeComplete l mv) s = .next t ∧
        (t.leg l).state = (if (s.leg l).vgpOut then .off else .inService) ∧ (t.leg l).latch = none ∧
        (t.leg l).hsInhibit = false) ∧
    (∀ l : LegN, (s.leg l).state = .recharging → (s.leg l).faultAt + 20 * ticksPerMs ≤ s.ref.time →
      ∃ t, exec (.rechargeFailed l) s = .next t ∧ (t.leg l).latch = some (.rechargeFailed, .high)) ∧
    (∀ (a : AxisN) (vbs : List Nat), (∀ mv ∈ vbs, 13000 ≤ mv) →
      ((s.axis a).field.regain = false → (s.axis a).field.catching.running = true →
        (s.axis a).field.catching.phase = .precharge → (s.axis a).field.catching.method = some .sensor →
        ∃ t, exec (.prechargeEnd a vbs) s = .next t ∧ (t.axis a).field.catching.ready = true ∧
          ∀ l ∈ t.legsOf a, (t.leg l).lowCmd = false) ∧
      ((s.axis a).field.regain = true →
        ∃ t, exec (.prechargeEnd a vbs) s = .next t ∧ (t.axis a).field.regain = false ∧
          ∀ l ∈ t.legsOf a, (t.leg l).lowCmd = false))

/-- O15 (R83, R84, R85, R89). The end of a reaction, the clearing of a latched leg, and the reinstatement of a
retired one. REACTION_END of a held reaction whose ASC_HOLD has passed, with every phase in service, no cause
left and the axis placed, ends the hold. LEG_FAULT_CLEAR of a leg latched by a short-class or gate-class fault
on an axis that runs again outside the periods of R85, and AUTOCLEAR after AUTOCLEAR_WAIT within such a period
and its count, retry the leg: it goes to RECHARGING while its high side is inhibited and VBS is below 13.0 V,
else to OFF while its group waits for VGP, else back to service with its latch clear; AUTOCLEAR counts one. An
accepted LEG_REINSTATE of a retired leg whose axis is DISABLED is answered OK; the leg is no longer retired, has
no counted faults, and is due for a precharge. -/
def Obligations.LegRecoveryCommandsComplete : Prop :=
  ∀ s : State,
    (∀ a : AxisN, (s.axis a).reaction.held = true →
      (s.axis a).reaction.began + s.cfgN (O.ascHold a) * ticksPerMs ≤ s.ref.time → s.phaseEmpty a = false →
      (s.axis a).reaction.causes = [] → (s.axis a).field.unplaced = false →
      ∃ t, exec (.reactionEnd a) s = .next t ∧ (t.axis a).reaction.held = false) ∧
    (∀ (l : LegN) (a : AxisN) (k : LegFault) (sd : Side), s.axisOf l = some a →
      (s.leg l).latch = some (k, sd) → (s.leg l).state = .latched → k.supply = false →
      (s.axis a).reaction.held = false → s.clearingPeriod a = false → s.driving a = true →
      ∃ t, exec (.legFaultClear l) s = .next t ∧ (t.leg l).pulse = true ∧
        (t.leg l).state = s.retriedState l ∧
        ((t.leg l).state = .inService → (t.leg l).latch = none ∧ (t.leg l).hsInhibit = false ∧ (t.leg l).en = true)) ∧
    (∀ (l : LegN) (a : AxisN) (k : LegFault) (sd : Side), s.axisOf l = some a →
      (s.leg l).latch = some (k, sd) → (s.leg l).state = .latched → k ≠ .noAck →
      s.clearingPeriod a = true → (s.leg l).autoclears < s.cfgN O.autoclearMax →
      (s.leg l).faultAt + s.cfgN O.autoclearWait * ticksPerMs ≤ s.ref.time →
      ∃ t, exec (.autoclear l) s = .next t ∧ (t.leg l).state = s.retriedState l ∧
        (t.leg l).autoclears = (s.leg l).autoclears + 1 ∧
        ((t.leg l).state = .inService → (t.leg l).latch = none ∧ (t.leg l).hsInhibit = false)) ∧
    (∀ (src : Src) (l : LegN) (v : Int), s.accepts src (O.legReinstate l) v → (s.leg l).state = .retired →
      (∀ a, s.axisOf l = some a → s.isDisabled a = true) →
      ∃ t, exec (.legReinstate src l v) s = .next t ∧ t.answered (O.legReinstate l) .ok ∧
        (t.leg l).state ≠ .retired ∧ (t.leg l).faults = [] ∧ (t.leg l).precharge = true)

/-- O16 (R92, R93, R94, R95, R102, R108, R114, R513). Overcurrent, the zero measurement, sigma-delta inputs, the
saddle's release and readings, and the end of a substitution. OVERCURRENT sets OC_LATCH and, on an own input of
an axis with gates on and no reaction on them, begins a held reaction; OVERCURRENT_CLEARED removes that cause;
ZERO_MEASUREMENT_COMPLETE, with the conversions of every leg of the axis, stores and judges the mean of each
input and ends the measurement in READY, or in SAFE_OFF while a safety enable is missing; SD_NO_DATA makes an
input stale and enters 0x2208; SD_DC_HOLD_EXPIRY ends the hold of a DC-link input; SD_RECOVERED ends that, and a
value decimated from the bits of its filter whose check holds is taken scaled; LIMIT_RELEASE ends LIMITED mode
at a low depth; DEPTH_READINGS_UPDATE stores the depth, the speeds with and without the depth limit, and the
torque cost, by the model's law of R108 (assumption log entry 120); an accepted CI_REINSTATE on a DISABLED axis
ends the substitution. -/
def Obligations.CurrentSensingCommandsComplete : Prop :=
  ∀ s : State,
    (∀ l : LegN, ∃ t, exec (.overcurrent l) s = .next t ∧ t.inputs[l].ocLatch = true ∧
      ∀ a, s.axisOf l = some a → s.inputs[l].substituted = false → (s.axis a).reaction.gate = .normal →
        s.gatesLive a = true → (t.axis a).reaction.held = true) ∧
    (∀ a : AxisN, ∃ t, exec (.overcurrentCleared a) s = .next t ∧
      HoldCause.overcurrent ∉ (t.axis a).reaction.causes) ∧
    (∀ (a : AxisN) (codes : List (List Int)), (s.axis a).field.zeroing = true → codes.length = (s.legsOf a).length →
      ∃ t, exec (.zeroMeasurementComplete a codes) s = .next t ∧ (t.axis a).field.zeroing = false ∧
        (t.axis a).field.state = (if (s.axis a).safe.senP && (s.axis a).safe.senL then .ready else .safeOff) ∧
        ∀ p ∈ (s.legsOf a).zip codes, t.inputs[p.1].zero = qmean (p.2.map codeVolts) ∧
          t.inputs[p.1].zeroFailed =
            decide (s.cfgN (O.zeroTol a) < 1000 * qabs (qmean (p.2.map codeVolts) - s.cfgF (O.ciOffset p.1)))) ∧
    (∀ i : SdN, s.sds[i].stale = false →
      ∃ t, exec (.sdNoData i) s = .next t ∧ t.sds[i].stale = true ∧ t.sds[i].holdOver = false ∧
        t.reported 0x2208 i) ∧
    (∀ i : SdN, s.sds[i].stale = true → s.cfgN (O.sdRole i) = 1 →
      ∃ t, exec (.sdDcHoldExpiry i) s = .next t ∧ t.sds[i].holdOver = true) ∧
    (∀ x : SdValue, ∃ t, exec (.sdRecovered x) s = .next t ∧ t.sds[x.input].stale = false ∧
      ∀ q, sinc3 (s.sdRatio x.input) x.bits = some q → x.flip = 0 →
        t.sds[x.input].value = s.cfgF (O.sdGain x.input) * q + s.cfgF (O.sdOffset x.input)) ∧
    (∀ a : AxisN, (s.axis a).saddle.limited = true → (s.axis a).saddle.depth ≤ s.fixedDepth a →
      ∃ t, exec (.limitRelease a) s = .next t ∧ (t.axis a).saddle.limited = false) ∧
    (∀ a : AxisN, s.storesWf = true → s.axisType a ≠ 0 → s.isStepper a = false → (s.axis a).field.unplaced = false →
      ∃ t, exec (.depthReadingsUpdate a) s = .next t ∧
        t.cfg (O.depthDemand a) = wholeOf (min (s.axis a).saddle.depth 1000) ∧
        t.cfg (O.speedUnlimited a) = max 0 (min 0xFFFFFFFF (wholeOf (s.voltageSpeed a false))) ∧
        t.cfg (O.speedAtLimit a) = max 0 (min 0xFFFFFFFF (wholeOf (s.voltageSpeed a true))) ∧
        (t.axis a).saddle.torqueCost = max 0 (s.voltageTorque a false - s.voltageTorque a true)) ∧
    (∀ (src : Src) (l : LegN) (v : Int), s.accepts src (O.ciReinstate l) v → s.inputs[l].substituted = true →
      (∀ a, s.axisOf l = some a → s.isDisabled a = true) →
      ∃ t, exec (.ciReinstate src l v) s = .next t ∧ t.answered (O.ciReinstate l) .ok ∧
        t.inputs[l].substituted = false)

/-- O17 (R119, R123, R126, R132, R135, R136, R145). Edges, glitches, standstill and serial frames on the lines of a
feedback channel. On a type 1 channel with FEED in RUN, one accepted edge of A or of B moves the position by one
count in the sense that the other line and FB_INVERT give (that A leads B forward is the model's choice,
assumption log entry 31). GLITCH_SEEN sets GLITCH_LATCH; STANDSTILL after STANDSTILL_TIME gives speed 0;
SSI_FRAME_START latches the frame's tick on types 4 and 5; SSI_FRAME_COMPLETE of a bad word ends the frame and
counts it, and the first good word sets the position. -/
def Obligations.FeedbackLineCommandsComplete : Prop :=
  ∀ (s : State) (f : ChanN),
    (∀ (lv : Bool) (stamp : Nat), s.runs Dom.feed = true → s.fbTypeOf f = 1 → lv ≠ s.channels[f].a →
      ∃ t, exec (.edgeAccepted f [(.a, lv)] stamp) s = .next t ∧ t.channels[f].a = lv ∧
        t.channels[f].position =
          wrap32 (s.channels[f].position + if (lv != s.channels[f].b) != s.fbInverted f then 1 else -1)) ∧
    (∀ (lv : Bool) (stamp : Nat), s.runs Dom.feed = true → s.fbTypeOf f = 1 → lv ≠ s.channels[f].b →
      ∃ t, exec (.edgeAccepted f [(.b, lv)] stamp) s = .next t ∧ t.channels[f].b = lv ∧
        t.channels[f].position =
          wrap32 (s.channels[f].position + if (lv == s.channels[f].a) != s.fbInverted f then 1 else -1)) ∧
    (∀ line, s.fbTypeOf f ≠ 0 → s.runs Dom.feed = true →
      ∃ t, exec (.glitchSeen f line) s = .next t ∧ t.channels[f].glitchLatch = true) ∧
    (s.fbTypeOf f ≠ 0 → s.cfgN (O.standstillTime f) * ticksPerMs ≤ s.ref.time - s.channels[f].lastCount →
      ∃ t, exec (.standstill f) s = .next t ∧ t.channels[f].standstill = true ∧ t.channels[f].speed = 0) ∧
    (s.fbTypeOf f = 4 ∨ s.fbTypeOf f = 5 →
      ∃ t, exec (.ssiFrameStart f) s = .next t ∧ t.channels[f].frame = some s.ref.time) ∧
    (∀ (t0 : Nat) (bits : List Bool) (b0 b1 : Bool), s.channels[f].frame = some t0 →
      s.ssiWord f bits b0 b1 = none →
      ∃ t, exec (.ssiFrameComplete f bits b0 b1) s = .next t ∧ t.channels[f].frame = none ∧
        t.channels[f].badRun = s.channels[f].badRun + 1) ∧
    (∀ (t0 w : Nat) (bits : List Bool) (b0 b1 : Bool), s.channels[f].frame = some t0 → s.channels[f].word = none →
      s.ssiWord f bits b0 b1 = some w →
      ∃ t, exec (.ssiFrameComplete f bits b0 b1) s = .next t ∧ t.channels[f].frame = none ∧
        t.channels[f].word = some w ∧
        t.channels[f].position = wrap32 (dirSign (s.fbInverted f) * w))

/-- O18 (R118, R122, R139, R140, R141, R148, R149, R150, R151, R153). Faults of a feedback channel and of an
excitation output, their clearing, and the channel's restart. On a channel that is not retired AMPLITUDE (types
6 and 7) and LINE_OPEN (of a pair its type uses) latch their fault; EXC_OVERLOAD switches the output off and
enters 0x320E, EXC_RETRY switches it on; FB_FAULT_CLEAR of a latched fault on a faulted channel, its condition
met, removes it; an accepted write of FB_TYPE, FB_INVERT or COUNTS_PER_REV restarts the channel at position 0
with nothing latched but an invalid state that stands on the lines of a Hall channel; FB_CHANNEL_VALID makes a
started channel VALID; an accepted FB_REINSTATE brings back a retired channel whose readers are DISABLED, its
counts cleared (an invalid state on Hall lines is counted anew); an accepted INDEX_ARM arms a mode 2 channel; an
accepted PT_SOURCE gives the output the new source's lines while FEED runs, or none. -/
def Obligations.FeedbackFaultCommandsComplete : Prop :=
  ∀ (s : State) (f : ChanN),
    (s.fbTypeOf f = 6 ∨ s.fbTypeOf f = 7 → s.channels[f].state ≠ .retired →
      ∃ t, exec (.amplitude f) s = .next t ∧ FbFault.amplitude ∈ t.channels[f].latched ∧
        t.channels[f].referenced = false) ∧
    (∀ pair, (usedPairs (s.fbTypeOf f)).contains pair = true → s.channels[f].state ≠ .retired →
      ∃ t, exec (.lineOpen f pair) s = .next t ∧ FbFault.lineOpen ∈ t.channels[f].latched ∧
        pair ∈ t.channels[f].openPairs) ∧
    (∀ e : ExcN, (∃ t, exec (.excOverload e) s = .next t ∧ t.excOff[e] = true ∧ t.reported 0x320E e) ∧
      (∃ t, exec (.excRetry e) s = .next t ∧ t.excOff[e] = false)) ∧
    (∀ fault ∈ s.channels[f].latched, s.channels[f].state = .faulted →
      (fault = .glitchBurst → ∀ g ∈ s.channels[f].glitches, 10 * ticksPerMs ≤ s.ref.time - g) →
      (fault = .ssiWord → 3 ≤ s.channels[f].goodRun) →
      ∃ t, exec (.fbFaultClear f fault) s = .next t ∧ fault ∉ t.channels[f].latched) ∧
    (∀ p ∈ [(FbRestart.fbType, O.fbType f), (.fbInvert, O.fbInvert f), (.countsPerRev, O.countsPerRev f)],
      ∀ (src : Src) (v : Int), s.accepts src p.2 v →
      ∃ t, exec (.fbChannelRestart src f p.1 v) s = .next t ∧ t.answered p.2 .ok ∧
        t.channels[f].position = 0 ∧
        (t.fbTypeOf f ≠ 2 ∨ hallPlace s.channels[f].a s.channels[f].b s.channels[f].z ≠ none →
          t.channels[f].latched = []) ∧
        ∀ k ∈ t.channels[f].latched, k = .hallInvalid) ∧
    (s.channels[f].state = .starting → s.channels[f].latched = [] → s.fbTypeOf f ≠ 0 →
      (s.fbTypeOf f ∈ [1, 2, 3, 6, 7] ∨ s.channels[f].word.isSome = true) →
      ∃ t, exec (.fbChannelValid f) s = .next t ∧ t.channels[f].state = .valid) ∧
    (∀ (src : Src) (v : Int), s.accepts src (O.fbReinstate f) v → s.channels[f].state = .retired →
      (∀ a ∈ s.readers f, s.isDisabled a = true) →
      ∃ t, exec (.fbReinstate src f v) s = .next t ∧ t.answered (O.fbReinstate f) .ok ∧
        (s.fbTypeOf f ≠ 2 ∨ hallPlace s.channels[f].a s.channels[f].b s.channels[f].z ≠ none →
          t.channels[f].state ≠ .retired ∧ t.channels[f].faults = []) ∧
        t.channels[f].faults.length ≤ 1) ∧
    (∀ (src : Src) (v : Int), s.accepts src (O.indexArm f) v → s.cfgN (O.indexMode f) = 2 →
      ∃ t, exec (.indexArm src f v) s = .next t ∧ t.answered (O.indexArm f) .ok ∧
        t.channels[f].armed = true ∧ t.channels[f].armedAt = s.ref.time) ∧
    (∀ (src : Src) (p : PtN) (v : Int), s.accepts src (O.ptSource p) v →
      ∃ t, exec (.ptSourceChange src p v) s = .next t ∧ t.answered (O.ptSource p) .ok ∧
        t.passes[p] = if h : v.toNat < 48 then
            (if s.runs Dom.feed = true then { driven := true, a := s.channels[v.toNat].a, b := s.channels[v.toNat].b,
                                              z := s.channels[v.toNat].z }
             else {})
          else {})

/-- O19 (R196, R198, R199). ENABLE, START, STOP, DISABLE and the standstill that ends a stop. Where the checks of
every write and the command's own conditions hold, each AXIS_COMMAND is answered OK and taken as LAST_COMMAND:
ENABLE of a DISABLED, complete, healthy axis in power mode RUN begins its zero measurement or goes to READY or
SAFE_OFF; START from READY, or from HOLD_ASC or FAULT after the reaction with no cause left, begins the flying
start, and from STOPPING it returns to RUNNING; STOP from RUNNING, outside a group's follower role, enters
STOPPING, during a flying start it is remembered for its end, and in HOLD_ASC and FAULT it ends a due
resumption; DISABLE from READY, SAFE_OFF, LOCKED_OUT, and from HOLD_ASC or FAULT outside ASC enters DISABLED,
and from RUNNING and STOPPING it is remembered for standstill. STOP_STANDSTILL, below STOP_SPEED for 10 ms,
stores the speed and ends the stop in FAULT after KE_ABNORMAL, in DISABLED where that was asked, else in READY. -/
def Obligations.AxisCommandsComplete : Prop :=
  ∀ (s : State) (src : Src) (a : AxisN), s.storesWf = true →
    let f := (s.axis a).field
    let rest : AxisState := if (s.axis a).safe.senP && (s.axis a).safe.senL then .ready else .safeOff
    (s.accepts src (O.axisCommand a) 1 → s.axisType a ≠ 0 →
      (s.axisType a = 2 → s.cfgF (O.ld a) < s.cfgF (O.lq a)) → (s.axisType a = 4 → s.cfgN (O.controlMode a) ≠ 0) →
      s.memberOk a = true → f.state = .disabled → f.zeroing = false → s.lockedOut a = false →
      (∀ c, s.channelOf a = some c → s.cfgN (O.fbType c) ≠ 0 → s.channels[c].state = .retired →
        s.cfgN (O.rideThrough a) ≠ 0) →
      s.power.mode = .run → s.power.bscan = false → s.engine.fullTest = false → s.testBars a = false →
      (s.enablePlace a).isSome = true →
      ∃ t, exec (.axisEnable src a) s = .next t ∧ t.answered (O.axisCommand a) .ok ∧
        (t.axis a).field.lastCommand = 1 ∧
        (if s.cfgN (O.ciAutozero a) = 1 then (t.axis a).field.zeroing = true else (t.axis a).field.state = rest)) ∧
    (s.accepts src (O.axisCommand a) 2 → (s.rejoinLegs a).startBarred a = false → f.catching.running = false →
      (f.state = .ready ∨ f.state = .stopping ∨
        (f.state = .holdAsc ∨ f.state = .fault) ∧ (s.axis a).reaction.held = false ∧ (s.axis a).reaction.causes = []) →
      ∃ t, exec (.axisStart src a) s = .next t ∧ t.answered (O.axisCommand a) .ok ∧
        (t.axis a).field.lastCommand = 2 ∧
        (if f.state = .stopping then (t.axis a).field.state = .running else (t.axis a).field.catching.running = true)) ∧
    (s.accepts src (O.axisCommand a) 3 →
      (f.state = .running → f.catching.running = false → f.catching.phase = .none → s.stopsByGroup a = false →
        ∃ t, exec (.axisStop src a) s = .next t ∧ t.answered (O.axisCommand a) .ok ∧
          (t.axis a).field.lastCommand = 3 ∧ (t.axis a).field.state = .stopping) ∧
      (f.catching.running = true ∨ f.state = .running ∧ f.catching.phase ≠ .none →
        ∃ t, exec (.axisStop src a) s = .next t ∧ t.answered (O.axisCommand a) .ok ∧
          (t.axis a).field.lastCommand = 3 ∧ (t.axis a).field.catching.stopAfter = true) ∧
      (f.catching.running = false → f.state = .holdAsc ∨ f.state = .fault →
        ∃ t, exec (.axisStop src a) s = .next t ∧ t.answered (O.axisCommand a) .ok ∧
          (t.axis a).field.lastCommand = 3 ∧ (t.axis a).reaction.resumePending = false)) ∧
    (s.accepts src (O.axisCommand a) 4 →
      (f.state = .ready ∨ f.state = .safeOff ∨ f.state = .lockedOut ∨
        (f.state = .holdAsc ∨ f.state = .fault) ∧ (s.axis a).reaction.gate.isAsc = false →
        ∃ t, exec (.axisDisable src a) s = .next t ∧ t.answered (O.axisCommand a) .ok ∧
          (t.axis a).field.lastCommand = 4 ∧ (t.axis a).field.state = .disabled) ∧
      (f.state = .running ∨ f.state = .stopping →
        ∃ t, exec (.axisDisable src a) s = .next t ∧ t.answered (O.axisCommand a) .ok ∧
          (t.axis a).field.lastCommand = 4 ∧ (t.axis a).field.disableAtStop = true)) ∧
    (f.state = .stopping → s.absSpeed a < (s.cfgN (O.stopSpeed a) : Rat) →
      (∃ t0, f.slowSince = some t0 ∧ t0 + 10 * ticksPerMs ≤ s.ref.time) →
      ∃ t, exec (.stopStandstill a) s = .next t ∧ (t.axis a).field.storedSpeed = some f.speed ∧
        (t.axis a).field.state = if f.keStop then .fault else if f.disableAtStop then .disabled else .ready)

/-- O20 (R180, R182, R183, R187, R188, R190, R193). Encoder and observer events, the induced-voltage window, and the
events of a flying start. ENC_DISAGREE, channel and observer having differed for ENC_CHECK_TIME, sets its flag;
with RIDE_THROUGH 1 the angle moves to the observer, and without it an axis under field control is held.
ENCODER_TAKEBACK after ENC_CHECK_TIME of agreement in angle gives the angle back and blends over 16 cycles, and
after a loss with agreement in speed only it realigns the working offset first; OBSERVER_LOST after eight cycles
in a row declares the loss; KE_WINDOW_END of a counted window on a PM axis stores the estimate of its mean; an
accepted KE_ACK clears KE_LATCH; CATCH_MEASUREMENT_COMPLETE keeps what the method measured (assumption log entry
109) and goes on to the precharge or to the rise of EN; CATCH_SECOND_PULSE, once the currents have decayed and
π/(4|ω|) has passed since the first pulse, keeps what that pulse gave and begins the second, and before that
time changes nothing; CATCH_FAILED ends the start with the axis in HOLD_ASC or FAULT. -/
def Obligations.FieldEventsComplete : Prop :=
  ∀ (s : State) (a : AxisN),
    let f := (s.axis a).field
    let c := f.catching
    (f.angleSource = .channel → s.axisChanValid a = true → f.obsHealthy = true → s.isStepper a = false →
      s.checkedFor a f.apartSince = true →
      ∃ t, exec (.encDisagree a) s = .next t ∧ (t.axis a).field.encDisagree = true ∧
        (s.cfgN (O.rideThrough a) = 1 →
          (t.axis a).field.angleSource = .rideThrough ∧ (t.axis a).field.rideCause = some .disagreement) ∧
        (s.cfgN (O.rideThrough a) ≠ 1 → s.driving a = true → (t.axis a).reaction.held = true)) ∧
    (f.angleSource = .rideThrough → s.axisChanValid a = true →
      (s.checkedFor a f.angleSince = true →
        ∃ t, exec (.encoderTakeback a) s = .next t ∧ (t.axis a).field.angleSource = .channel ∧
          (t.axis a).field.blend = 16 ∧ (t.axis a).field.commOffset = f.commOffset) ∧
      (f.rideCause = some .loss → f.angleSince = none → s.checkedFor a f.speedSince = true → f.realigned = false →
        ∃ t, exec (.encoderTakeback a) s = .next t ∧ (t.axis a).field.angleSource = .channel ∧
          (t.axis a).field.blend = 16 ∧ (t.axis a).field.realigned = true ∧
          (t.axis a).field.commOffset = (f.commOffset + roundNear (f.apart * 65536)).fmod 65536)) ∧
    (f.obsLost = false → 8 ≤ f.innovRun → s.isStepper a = false → s.obsFast a = true →
      ∃ t, exec (.observerLost a) s = .next t ∧ (t.axis a).field.obsLost = true ∧
        (t.axis a).field.obsHealthy = false) ∧
    (s.storesWf = true → s.isPM a = true → f.keWhole = true → 0 < f.keCycles →
      ∃ t, exec (.keWindowEnd a) s = .next t ∧ t.cfg (O.keEst a) = s.keEstimate a (f.keSum / f.keCycles)) ∧
    (∀ (src : Src) (v : Int), s.accepts src (O.keAck a) v →
      ∃ t, exec (.keAck src a v) s = .next t ∧ t.answered (O.keAck a) .ok ∧ (t.axis a).field.keLatch = false) ∧
    (c.running = true → c.ready = false →
      (∀ samples θ v n, c.method = some .voltage → c.phase = .measuring → s.measureVoltage a = some (θ, v, n) →
        ∃ t, exec (.catchMeasurementComplete a samples) s = .next t ∧
          (t.axis a).field.catching.angle = frac1 θ ∧ (t.axis a).field.catching.speed = v ∧
          (t.axis a).field.catching.ready = !(s.prechargeDue a)) ∧
      (∀ samples v, c.method = some .search → c.phase = .measuring → c.found = some v →
        ∃ t, exec (.catchMeasurementComplete a samples) s = .next t ∧ (t.axis a).field.catching.speed = v ∧
          (t.axis a).field.catching.ready = true) ∧
      (∀ samples, c.method = some .pulse → c.phase = .precharge → samples.length = 4 →
        s.measurePulse a samples = none →
        ∃ t, exec (.catchMeasurementComplete a samples) s = .next t ∧ (t.axis a).field.catching.speed = 0 ∧
          (t.axis a).field.catching.ready = true)) ∧
    (∀ samples θ w, c.running = true → c.method = some .pulse → c.phase = .precharge → c.secondPulse = false →
      samples.length = 4 → vecSq (clarke (s.axis a).saddle.phase) < s.smallSq a →
      s.measurePulse a samples = some (θ, w) →
      ∃ t, exec (.catchSecondPulse a samples) s = .next t ∧
        if (ticksPerS : Rat) ≤ 8 * w * (s.ref.time - (c.angleAt + c.pulse * ticksPerUs) : Nat) then
          (t.axis a).field.catching.secondPulse = true ∧ (t.axis a).field.catching.first = some (c.angleAt, θ, w)
        else t = s) ∧
    (c.running = true ∨ c.phase = .magnetising →
      ∃ t, exec (.catchFailed a) s = .next t ∧ (t.axis a).field.catching.running = false ∧
        ((t.axis a).field.state = .holdAsc ∨ (t.axis a).field.state = .fault))

/-- O21 (R210, R211, R212, R215, R216, R217). The chopper's decisions and timers, and the stepper axis's coil
faults, hold and alignment. CHOPPER_DECISION on a stepper whose chopper acts takes the readings of the bridge;
where the tick is valid and they give a coil current, the bridge takes it and enters the state that the decision
names with its minimum time, or keeps it waiting while that time runs; with one sensed leg of a good,
unsaturated conversion the current is that leg's reading. CHOP_MIN_TIME_EXPIRY, once CHOP_MIN_TIME has passed
since the edge, enters the waiting state; CHOP_FAST_TIME_EXPIRY, once CHOP_FAST_TIME has passed and where no
small target holds the bridge in fast decay, enters SLOW, or keeps it waiting; COIL_OPEN after CHOP_DRIVE_MAX in
DRIVE below U, and STEPPER_SUM_IMPLAUSIBLE after eight readings beyond the check, take the axis to a held FAULT;
HOLD_ENTRY of a RUNNING axis that has rested for HOLD_DELAY begins the hold; STEP_ALIGN_END, after
STEP_ALIGN_TIME, ends the alignment. -/
def Obligations.ChopperCommandsComplete : Prop :=
  ∀ (s : State) (a : AxisN) (br : Bridge),
    (∀ xs u, s.chopping a = true → s.takeCoil a br xs = (u, none) → exec (.chopperDecision a br xs) s = .next u) ∧
    (∀ xs u i, s.chopping a = true → s.takeCoil a br xs = (u, some i) →
      ∃ t, exec (.chopperDecision a br xs) s = .next t ∧ (t.bridge a br).current = i ∧
        ∀ st timed down, ((u.countDrive a br).modBridge a br fun b => b.countConversion i u.ref.time).chopDecision a br
            = some (st, timed, down) →
          if (u.bridge a br).minTime then (t.bridge a br).waiting = some (st, timed, down)
          else (t.bridge a br).state = st ∧ (t.bridge a br).minTime = true) ∧
    (∀ (l : LegN) (rest : List LegN) (c : Conversion) (cs : List Conversion), s.chopping a = true → s.convValid a = true →
      s.cfgN (O.stepSense a) = 0 → s.bridgeLegs a br = l :: rest → rest ≠ [] → s.inputs[l].substituted = false →
      convOk c = true → saturated c.code = false →
      ∃ t, exec (.chopperDecision a br (c :: cs)) s = .next t ∧ (t.bridge a br).current = s.ciReading a l c.code) ∧
    (∀ st timed down, s.chopping a = true → (s.bridge a br).minTime = true →
      (s.bridge a br).waiting = some (st, timed, down) →
      s.bridgeStood a br (s.cfgN (O.chopMinTime a)) = true →
      ∃ t, exec (.chopMinTimeExpiry a br) s = .next t ∧ (t.bridge a br).state = st ∧ (t.bridge a br).waiting = none) ∧
    (s.chopping a = true → (s.bridge a br).state = .fast → (s.bridge a br).fastTimed = true →
      s.heldFast a br = false → s.bridgeStood a br (s.cfgN (O.chopFastTime a)) = true →
      ∃ t, exec (.chopFastTimeExpiry a br) s = .next t ∧
        if (s.bridge a br).minTime then (t.bridge a br).waiting = some (.slow, false, false) else (t.bridge a br).state = .slow) ∧
    (s.chopping a = true → (s.bridge a br).state = .drive →
      (s.bridge a br).since + s.cfgN (O.chopDriveMax a) * ticksPerUs ≤ s.ref.time → s.cfgF (O.chopHyst a) ≤ (s.bridge a br).mag →
      (s.bridge a br).sensed < (s.bridge a br).mag + (s.bridge a br).offset + s.cfgF (O.chopHyst a) / 2 →
      (s.axis a).reaction.held = false →
      ∃ t, exec (.coilOpen a br) s = .next t ∧ (t.axis a).step.coilOpen = true ∧ (t.axis a).field.state = .fault ∧
        (t.axis a).reaction.held = true) ∧
    (s.chopping a = true → 8 ≤ (s.bridge a br).sumRun → (s.axis a).reaction.held = false →
      ∃ t, exec (.stepperSumImplausible a br) s = .next t ∧ (t.axis a).field.state = .fault ∧
        (t.axis a).reaction.held = true) ∧
    (s.isStepper a = true → (s.axis a).field.state = .running → (s.axis a).step.aligning = false →
      (s.axis a).step.holding = false → (s.axis a).prof.v = 0 →
      (∃ t0, (s.axis a).step.restSince = some t0 ∧ t0 + s.cfgN (O.holdDelay a) * ticksPerMs ≤ s.ref.time) →
      ∃ t, exec (.holdEntry a) s = .next t ∧ (t.axis a).step.holding = true) ∧
    (s.isStepper a = true → (s.axis a).step.aligning = true → s.driving a = true →
      (s.axis a).step.alignAt + s.cfgN (O.stepAlignTime a) * ticksPerMs ≤ s.ref.time →
      ∃ t, exec (.stepAlignEnd a) s = .next t ∧ (t.axis a).step.aligning = false)

/-- O22 (R218, R219, R220). Committing, restoring and storing a shared microstep table. An accepted
STEP_TABLE_COMMIT with no axis pending and every staged entry within ±2047 is answered OK: the staging contents
become active, the active ones previous, and the version is one more modulo 256. An accepted STEP_TABLE_RESTORE
puts the factory sine into staging. STEP_TABLE_FLASH_WRITTEN leaves the active contents in flash. -/
def Obligations.StepTableCommandsComplete : Prop :=
  ∀ (s : State) (n : TableN),
    (∀ (src : Src) (v : Int), s.accepts src (O.stepTableCommit n) v → s.pendingAxes n = [] →
      (∀ k < 1024, -2047 ≤ tableEntry s.tables[n].staging k ∧ tableEntry s.tables[n].staging k ≤ 2047) →
      ∃ t, exec (.stepTableCommit src n v) s = .next t ∧ t.answered (O.stepTableCommit n) .ok ∧
        t.tables[n].active = s.tables[n].staging ∧ t.tables[n].previous = s.tables[n].active ∧
        t.tables[n].version = (s.tables[n].version + 1) % 256) ∧
    (∀ (src : Src) (v : Int), s.accepts src (O.stepTableRestore n) v →
      ∃ t, exec (.stepTableRestore src n v) s = .next t ∧ t.answered (O.stepTableRestore n) .ok ∧
        t.tables[n].staging = factoryBytes ∧ t.tables[n].active = s.tables[n].active) ∧
    (∃ t, exec (.stepTableFlashWritten n) s = .next t ∧ t.tables[n].flash = s.tables[n].active ∧
      t.tables[n].active = s.tables[n].active)

/-- O23 (R233, R251, R261, R265, R266). The planner tick, the following fault, and homing's start, abort and stall.
After PLANNER_TICK at a planner tick with FEED in RUN, no value of a planner object written at least 5 µs before
the tick waits any longer. FOLLOWING_FAULT with FOLLOW_ACTION 1, after 100 ms of the error, brings a RUNNING
axis to STOPPING, leaves a STOPPING one there, and reports it. An accepted HOME_START on a RUNNING axis that
follows positions begins homing with HOMED clear; an accepted HOME_ABORT fails a running homing and halts the
move; HOME_STALL, its condition having lasted for HOME_STALL_TIME, in the stall phase of a PM or induction axis
stops the profile and leaves the phase. -/
def Obligations.MotionCommandsComplete : Prop :=
  ∀ s : State,
    (∀ segments, s.runs Dom.feed = true → s.ref.time % 20000 = 0 →
      ∃ t, exec (.plannerTick segments) s = .next t ∧
        ∀ p ∈ t.staged, isPlannerObj p.1 = true → ∀ t0, storeGet s.stagedAt p.1 = some t0 →
          (s.ref.time : Int) < t0 + 2000) ∧
    (∀ (a : AxisN) (t0 : Nat), s.cfgN (O.followAction a) = 1 → (s.axis a).prof.followWarn = true →
      (s.axis a).prof.followSince = some t0 → t0 + 100 * ticksPerMs ≤ s.ref.time →
      (s.axis a).field.state = .running ∨ (s.axis a).field.state = .stopping →
      ∃ t, exec (.followingFault a) s = .next t ∧ (t.axis a).field.state = .stopping ∧
        ((s.axis a).field.state = .stopping → t.reported 0x5209 a)) ∧
    (∀ (src : Src) (a : AxisN), s.accepts src (O.homeCommand a) 1 → (s.axis a).field.state = .running →
      s.follows a = true → s.cfgN (O.homeMethod a) ≠ 0 →
      ¬ (s.isStepper a = true ∧ s.channelOf a = none ∧ (s.cfgN (O.homeMethod a) = 1 ∨ s.cfgN (O.homeMethod a) = 3) ∧
          s.cfgN (O.homeSpeed a) < s.cfgN (O.stallMinSpeed a)) →
      ∃ t, exec (.homeStart src a) s = .next t ∧ t.answered (O.homeCommand a) .ok ∧
        (t.axis a).home.state = .running ∧ (t.axis a).home.homed = false) ∧
    (∀ (src : Src) (a : AxisN), s.accepts src (O.homeCommand a) 2 → (s.axis a).home.state = .running →
      ∃ t, exec (.homeAbort src a) s = .next t ∧ t.answered (O.homeCommand a) .ok ∧
        (t.axis a).home.state = .failed ∧ (t.axis a).prof.halting = true) ∧
    (∀ a : AxisN, s.isStepper a = false → (s.axis a).home.state = .running → (s.axis a).field.curLimit = true →
      10 * qabs (s.axis a).field.speed < ((s.axis a).home.cfg.speed : Rat) → (s.axis a).home.phase = .stall →
      (∃ t0, (s.axis a).home.slowSince = some t0 ∧
        t0 + (s.axis a).home.cfg.stallTime * ticksPerMs ≤ s.ref.time) →
      ∃ t, exec (.homeStall a) s = .next t ∧ (t.axis a).prof.v = 0 ∧ (t.axis a).home.phase ≠ .stall)

/-- O24 (R32, R253, R254, R255, R256, R258, R259). A compare unit's firing, the end of its pulse, the writes that
arm it, and its source becoming valid. COMPARE_CROSSING of the crossing that the unit has found on this tick,
its check good, fires it, once in a tick, with the crossing's stamp, and says whether an index correction made
it; with a turned-over check it is discarded and nothing else changes. COMPARE_PULSE_END, CMP_PULSE after the
unit's last firing, lowers the output whose pulse is the unit's. An accepted write of position, direction,
source or enable is answered OK, after the firing of a crossing that waits on the same tick, and leaves the unit
unarmed while CMP_ENABLE is 0 and armed while the source is not valid, with SOURCE_INVALID as the source is;
COMPARE_SOURCE_VALID ends SOURCE_INVALID. That a token which fails its check is discarded is assumption log
entry 147; what writes while CMP_ENABLE is 0 do is log entry 36. -/
def Obligations.CompareCommandsComplete : Prop :=
  ∀ (s : State) (u : UnitN), s.storesWf = true →
    (∀ (forward : Bool) (stamp : Nat) (x : Crossing), s.units[u].crossed = some (forward, stamp, x.byCorrection) →
      (x.flip = 0 → s.units[u].firedAt ≠ some s.ref.time →
        ∃ t, exec (.compareCrossing u forward stamp x) s = .next t ∧ t.units[u].crossed = none ∧ t.units[u].fired = true ∧
          t.units[u].fireTime = stamp ∧ t.units[u].jumpFire = x.byCorrection ∧ t.units[u].firedAt = some s.ref.time ∧
          t.cfg (O.cmpFireCount u) = (s.cfg (O.cmpFireCount u) + 1) % 2 ^ 32) ∧
      (x.flip ≠ 0 → exec (.compareCrossing u forward stamp x) s =
        .next (s.modUnit u fun y => { y with crossed := none }))) ∧
    ((∀ t0, s.units[u].firedAt = some t0 → t0 + s.cfgN (O.cmpPulse u) ≤ s.ref.time) →
      ∃ t, exec (.comparePulseEnd u) s = .next t ∧ ∀ k : Fin 8,
      t.compareOuts[k] = if s.compareOuts[k].pulse = some u then
          { s.compareOuts[k] with level := false, pulse := none, acted := [] }
        else s.compareOuts[k]) ∧
    (∀ (src : Src) (v : Int), ∀ p ∈ [(Instr.cmpPositionWrite src u v, O.cmpPosition u),
        (Instr.cmpDirectionWrite src u v, O.cmpDirection u), (Instr.cmpSourceWrite src u v, O.cmpSource u),
        (Instr.cmpEnableWrite src u v, O.cmpEnable u)],
      s.accepts src p.2 v →
      ∃ t, exec p.1 s = .next t ∧ t.answered p.2 .ok ∧
        t.units[u].sourceInvalid = (s.setObj p.2 v).cmpBad u ∧
        ((s.setObj p.2 v).cfgN (O.cmpEnable u) = 0 → t.units[u].armed = false) ∧
        ((s.setObj p.2 v).cfgN (O.cmpEnable u) ≠ 0 → (s.setObj p.2 v).cmpValid u = false → t.units[u].armed = true) ∧
        (∀ forward stamp jump, s.units[u].crossed = some (forward, stamp, jump) → s.units[u].firedAt ≠ some s.ref.time →
          t.units[u].fired = true ∧ t.units[u].fireTime = stamp ∧ t.units[u].jumpFire = jump)) ∧
    (s.units[u].sourceInvalid = true → s.cmpValid u = true → s.cfgN (O.cmpEnable u) ≠ 0 →
      ∃ t, exec (.compareSourceValid u) s = .next t ∧ t.units[u].sourceInvalid = false)

/-- O25 (R272, R275, R276, R280). The frames of a ridge group: what a device takes from those it receives and
advances in those it sends. A GROUP_REF with the slot's check and a newer sequence is heard: its member's time
and service are kept, and where no axis of this device leads, that of the leader, or of a lower-numbered member,
or, while none is known, of the lowest member in service of the other devices gives the leader with its torque
and speed (assumption log entry 44). A GROUP_SHARE of the leader with a newer version gives shares, version,
mode and set point. A MEMBER_STATUS with a newer sequence gives its sequence, time and capability.
GROUP_REF_SEND of a leader in service advances the sequence modulo 65,536, GROUP_SHARE_SEND the version modulo
128 with the shares computed waiting, MEMBER_STATUS_SEND the member's sequence modulo 256. -/
def Obligations.GroupFrameCommandsComplete : Prop :=
  ∀ (s : State) (g : SlotN),
    (∀ x : GroupRef, s.cfgN (O.groupNumber g) ≠ 0 → s.localMembers g ≠ [] → x.check = s.groupCheck g →
      newer 16 x.seq s.slots[g].peers[x.member].refSeq = true →
      ∃ t, exec (.groupRefReceived g x) s = .next t ∧ t.slots[g].peers[x.member].heardAt = some s.ref.time ∧
        t.slots[g].peers[x.member].service = (!x.leaving) ∧
        (s.localLeader g = none → x.leaving = false → (∀ a ∈ s.localMembers g, s.ownIndex g a ≠ some x.member) →
          (∀ l, s.slots[g].leader = some l → x.member ≤ l) →
          (s.slots[g].leader = none → ∀ k : MemberN, k < x.member → (∀ a ∈ s.localMembers g, s.ownIndex g a ≠ some k) →
            s.entryService g k = false) →
          t.slots[g].leader = some x.member ∧ t.slots[g].tG = x.tG ∧ t.slots[g].vG = x.vG)) ∧
    (∀ x : GroupShare, s.cfgN (O.groupNumber g) ≠ 0 → s.localMembers g ≠ [] → x.check = s.groupCheck g →
      s.slots[g].leader = some x.member → newer 7 x.shareVersion s.slots[g].peers[x.member].shareVersion = true →
      ∃ t, exec (.groupShareReceived g x) s = .next t ∧ t.slots[g].shareVersion = x.shareVersion ∧
        t.slots[g].applied = x.shareVersion ∧
        t.slots[g].velocityMode = x.velocityMode ∧ t.slots[g].setPoint = x.setPoint ∧
        ∀ k : MemberN, t.slots[g].shares[k] = x.shares.getD k.val 0) ∧
    (∀ x : MemberStatus, s.cfgN (O.groupNumber g) ≠ 0 → s.localMembers g ≠ [] → x.check = s.groupCheck g →
      newer 8 x.seq s.slots[g].peers[x.member].statusSeq = true →
      ∃ t, exec (.memberStatusReceived g x) s = .next t ∧ t.slots[g].peers[x.member].statusSeq = some x.seq ∧
        t.slots[g].peers[x.member].statusAt = some s.ref.time ∧ t.slots[g].peers[x.member].cap = x.cap) ∧
    (∀ a i, s.localLeader g = some a → s.memberService a = true → s.ownIndex g a = some i → s.slotRank g < 8 →
      ∃ t, exec (.groupRefSend g) s = .next t ∧ t.slots[g].seq = (s.slots[g].seq + 1) % 65536) ∧
    (∀ a i, s.localLeader g = some a → s.ownIndex g a = some i →
      ∃ t, exec (.groupShareSend g) s = .next t ∧ t.slots[g].shareVersion = (s.slots[g].shareVersion + 1) % 128 ∧
        t.slots[g].waitingShares.head? = some ((s.slots[g].shareVersion + 1) % 128, (s.computeShares g i).1)) ∧
    (∀ a i, s.slotOf a = some g → s.ownIndex g a = some i →
      ∃ t, exec (.memberStatusSend a) s = .next t ∧ (t.axis a).member.seq = ((s.axis a).member.seq + 1) % 256)

/-- O26 (R274, R275, R276, R277, R282, R283). Takeover, ageing out, resumed lead, isolation and rejoining of a
group's members. LEADER_TAKEOVER without a leader after two group periods of silence, while statuses are heard,
makes the local axis of the lowest member in service the leader and enters 0x6001; MEMBER_AGE_OUT of a member
not heard for 2.5 ms forgets its service and time; LEAD_RESUME with a lower-numbered local follower of 100 ms
makes a local member the leader; MEMBER_ISOLATED on a silent or unusable port isolates the axis;
ISOLATED_TIMEOUT after ISOLATED_MAX brings a RUNNING isolated axis to STOPPING; MEMBER_REJOINED after 20 ms
makes a rejoining axis a follower and enters 0x6004. -/
def Obligations.GroupMemberEventsComplete : Prop :=
  ∀ (s : State) (g : SlotN),
    (∀ a k, s.localMembers g ≠ [] → s.localLeader g = none → s.slots[g].leader = none → s.leaderSilent g = true → s.hearsStatus g = true →
      s.lowestMember g = some k → (s.localMembers g).find? (fun b => s.ownIndex g b == some k) = some a →
      ∃ t, exec (.leaderTakeover g) s = .next t ∧ (t.axis a).member.role = .leader ∧ t.reported 0x6001 a) ∧
    (∀ k : MemberN, s.fresh s.slots[g].peers[k].heardAt = false →
      ∃ t, exec (.memberAgeOut g k) s = .next t ∧ t.slots[g].peers[k].heardAt = none ∧
      t.slots[g].peers[k].service = false) ∧
    (∀ (a : AxisN) (i k : MemberN), a ∈ s.localMembers g → (s.axis a).member.role = .follower →
      s.ownIndex g a = some i → s.slots[g].leader = some k → i.val < k.val →
      100 * ticksPerMs ≤ s.ref.time - (s.axis a).member.since →
      ∃ t, exec (.leadResume g) s = .next t ∧ ∃ b ∈ s.localMembers g, (t.axis b).member.role = .leader) ∧
    (∀ a : AxisN, s.slotOf a = some g → s.portShares g = false ∨ s.hearsPeer g = false →
      ∃ t, exec (.memberIsolated a) s = .next t ∧ (t.axis a).member.role = .isolated) ∧
    (∀ a : AxisN, (s.axis a).member.role = .isolated → s.cfgN (O.isolatedMax a) ≠ 0 →
      s.cfgN (O.isolatedMax a) * ticksPerS ≤ s.ref.time - (s.axis a).member.since →
      (s.axis a).field.state = .running →
      ∃ t, exec (.isolatedTimeout a) s = .next t ∧ (t.axis a).field.state = .stopping) ∧
    (∀ a : AxisN, (s.axis a).member.role = .rejoining → 20 * ticksPerMs ≤ s.ref.time - (s.axis a).member.since →
      ∃ t, exec (.memberRejoined a) s = .next t ∧ (t.axis a).member.role = .follower ∧ t.reported 0x6004 a)

/-- O27 (R286, R287, R288, R293, R296). The arbiter's tick, and the loss of its budget and frequency sources.
ARBITER_TICK at an arbiter tick with FEED in RUN samples the budget, sets STOP_OVER exactly where the STOP
demand exceeds it, and allows the next slice; BUDGET_FALLBACK and FREQ_STALE set their flags once and enter
0xB101 and 0xB103. -/
def Obligations.ArbiterCommandsComplete : Prop :=
  ∀ s : State, s.runs Dom.feed = true →
    (s.ref.time % 400000 = 0 → ∃ t, exec .arbiterTick s = .next t ∧ t.engine.started = false ∧
      t.arbiter.stopOver = decide (t.arbiter.budget < t.arbiter.stopDemand)) ∧
    (s.cfgN O.budgetSource ≠ 0 → s.cfgN O.budgetTimeout ≠ 0 → s.arbiter.fallback = false →
      ∃ t, exec .budgetFallback s = .next t ∧ t.arbiter.fallback = true ∧ t.reported 0xB101 noInstance) ∧
    (s.cfgN O.freqSource ≠ 0 → s.arbiter.freqStale = false →
      ∃ t, exec .freqStale s = .next t ∧ t.arbiter.freqStale = true ∧ t.reported 0xB103 noInstance)

/-- O28 (R309, R310, R311, R312, R313, R314, R321). What a received frame, a success and an error on the bus do to a
CAN port. A frame that arrives at a port that listens, that the port accepts and for which the queue has room
goes to the end of the receive queue. CAN_TX_SUCCESS of the offered mailbox sends its frame, an FD frame with
the bit-rate switch and the error state as they are, and leaves the newer frame that waited, if any.
CAN_TX_ERROR within the error limits leaves the newer frame or the same one pending, or empties the mailbox
where an abort waited, and adds 8 for an error; one that takes the transmit count above 255 leaves the port
BUS_OFF or RETIRED. CAN_RX_ERROR adds its weight up to 255. BUS_OFF_RECOVERED, with the transmit count 0, and
CAN_INTEGRATED give LISTEN in mode 3 and ERROR_ACTIVE otherwise; DRIVER_TIMEOUT takes the port off the bus. -/
def Obligations.CanFrameCommandsComplete : Prop :=
  ∀ (s : State) (p : CanN),
    (∀ f : CanFrame, s.storesWf = true → s.runs Dom.bus = true → s.can[p].listens = true → f.extended = true →
      f.remote = false → s.canMatches p f = true → s.can[p].rx.length < 64 →
      (f.fd = true → s.cfgN (O.canMode p) ≠ 1) → (f.ident / 0x4000000 < 4 → f.fd = true) →
      ∃ t, exec (.canFrameReceived p f) s = .next t ∧ t.can[p].rx = s.can[p].rx ++ [f]) ∧
    (∀ (m : MailboxN) (d : Nat) (f : CanFrame), s.boxFrame p m = some f →
      ∃ t, exec (.canTxSuccess p m d) s = .next t ∧ t.can[p].boxes[m].frame = s.can[p].boxes[m].next ∧
        ∃ more, t.out = more ++ .canFrame p (s.onBus p f) :: s.out) ∧
    (∀ (m : MailboxN) (d : Option Nat) (f : CanFrame), s.boxFrame p m = some f →
      (s.can[p].tec + 8 ≤ 255 → ∃ t, exec (.canTxError p m .error d) s = .next t ∧
        t.can[p].tec = s.can[p].tec + 8 ∧
        t.can[p].boxes[m] = if s.can[p].boxes[m].abort then {}
          else { frame := if s.can[p].boxes[m].next.isSome then s.can[p].boxes[m].next else some f }) ∧
      (255 < s.can[p].tec + 8 → ∃ t, exec (.canTxError p m .error d) s = .next t ∧
        (t.can[p].state = .busOff ∨ t.can[p].state = .retired)) ∧
      (s.can[p].tec ≤ 255 → ∃ t, exec (.canTxError p m .arbitrationLost d) s = .next t ∧
        t.can[p].tec = s.can[p].tec)) ∧
    (∀ w : Nat, s.runs Dom.bus = true → s.can[p].listens = true →
      ∃ t, exec (.canRxError p w) s = .next t ∧ t.can[p].recCount = min 255 (s.can[p].recCount + w)) ∧
    (s.can[p].state = .busOff → s.can[p].busOffWait = false →
      ∃ t, exec (.busOffRecovered p) s = .next t ∧ t.can[p].tec = 0 ∧ t.reported 0x7003 p ∧
        t.can[p].state = if s.cfgN (O.canMode p) = 3 then .listen else .errorActive) ∧
    (s.runs Dom.bus = true → s.can[p].state = .integrating →
      ∃ t, exec (.canIntegrated p) s = .next t ∧
        t.can[p].state = if s.cfgN (O.canMode p) = 3 then .listen else .errorActive) ∧
    (s.runs Dom.bus = true → s.can[p].sends = true →
      ∃ t, exec (.driverTimeout p) s = .next t ∧ (t.can[p].state = .busOff ∨ t.can[p].state = .retired))

/-- O29 (R300, R310, R314, R322, R324). Writes that release, reinstate, abort and set the mode of a CAN port, and
the end of the CAN session. An accepted CAN_RELEASE of 1 lets a port that waits after bus-off begin its count.
An accepted CAN_REINSTATE of 1 on a retired port whose local members are DISABLED is answered OK and the port is
no longer retired and has no counted faults. An accepted CAN_ABORT empties every named mailbox that is not under
way, newer frame included, and leaves one under way its frame with the abort waiting. An accepted CAN_MODE is
answered OK and is in force, and mode 0 turns a port that is not retired OFF. CAN_SESSION_UNBIND unbinds the CAN
session. -/
def Obligations.CanControlCommandsComplete : Prop :=
  ∀ (s : State) (src : Src) (p : CanN),
    (s.accepts src (O.canRelease p) 1 → s.can[p].busOffWait = true →
      ∃ t, exec (.canRelease src p 1) s = .next t ∧ t.answered (O.canRelease p) .ok ∧
        t.can[p].busOffWait = false ∧ t.can[p].countFrom = s.ref.time) ∧
    (s.accepts src (O.canReinstate p) 1 → s.can[p].state = .retired →
      (∀ (a : AxisN) (g : SlotN), s.slotOf a = some g → s.groupPort g = p → s.isDisabled a = true) →
      ∃ t, exec (.canReinstate src p 1) s = .next t ∧ t.answered (O.canReinstate p) .ok ∧
        t.can[p].state ≠ .retired ∧ t.can[p].faults = []) ∧
    (∀ (mask : Int), s.accepts src (O.canAbort p) mask →
      ∃ t, exec (.canAbort src p mask) s = .next t ∧ t.answered (O.canAbort p) .ok ∧
        ∀ m : MailboxN, mask.toNat.testBit m.val = true →
          (s.can[p].offered ≠ some m → t.can[p].boxes[m].frame = none ∧ t.can[p].boxes[m].next = none) ∧
          (s.can[p].offered = some m → t.can[p].boxes[m].frame = s.can[p].boxes[m].frame ∧
            t.can[p].boxes[m].next = none ∧ t.can[p].boxes[m].abort = true)) ∧
    (∀ v : Int, s.accepts src (O.canMode p) v → s.storesWf = true →
      ∃ t, exec (.canModeWrite src p v) s = .next t ∧ t.answered (O.canMode p) .ok ∧ t.cfg (O.canMode p) = v ∧
        (v = 0 → s.can[p].state ≠ .retired → t.can[p].state = .off)) ∧
    (s.idleOver canSession = true → ∃ t, exec .canSessionUnbind s = .next t ∧ t.net.sessions[canSession].bound = false)

/-- O30 (R322, R343, R347, R351). A request that its session serves is executed once and its reply kept with its
sequence number and contents. A READ, WRITE, DOMAIN_READ, DOMAIN_WRITE or SESSION_LEVEL write that reaches the
parser, whose own domain does not drain, whose session is bound to its requester, and that is no repetition of a
kept or outstanding request, with fewer than four outstanding, is executed: its session's newest kept reply
carries the request's SEQ and contents and one code for each reference, or, for a WRITE and a DOMAIN_WRITE whose
final reply waits for flash, its newest outstanding request does. -/
def Obligations.RequestCommandsComplete : Prop :=
  ∀ (s s' : State) (q : Request) (k : Fin 8),
    (∀ refs : List Ref, s.arrive q (.read refs) [0] = (s', true) → s'.serves q (.read refs) k →
      ∃ t, exec (.read q refs) s = .next t ∧ t.keptFor k q (.read refs) refs.length) ∧
    (∀ refs : List WriteRef, s.bootPort q = false → s.arrive q (.write (refs.map fun w => { w with flip := 0 })) [0] = (s', true) →
      s'.serves q (.write (refs.map fun w => { w with flip := 0 })) k →
      ∃ t, exec (.write q refs) s = .next t ∧
        (t.keptFor k q (.write (refs.map fun w => { w with flip := 0 })) refs.length ∨
          t.outstandingFor k q (.write (refs.map fun w => { w with flip := 0 })) refs.length)) ∧
    (∀ (r : Ref) (offset maxLen : Nat) (badBeats : List Nat) (flashTries : Nat),
      s.arrive q (.domainRead r offset maxLen) [0] = (s', true) →
      s'.serves q (.domainRead r offset maxLen) k →
      ∃ t, exec (.domainRead q r offset maxLen badBeats flashTries) s = .next t ∧ t.keptFor k q (.domainRead r offset maxLen) 1) ∧
    (∀ (r : Ref) (offset : Nat) (data : List Byte), s.bootPort q = false →
      s.arrive q (.domainWrite r offset data) [0] = (s', true) →
      s'.serves q (.domainWrite r offset data) k →
      ∃ t, exec (.domainWrite q r offset data) s = .next t ∧
        (t.keptFor k q (.domainWrite r offset data) 1 ∨ t.outstandingFor k q (.domainWrite r offset data) 1)) ∧
    (∀ v : Int, s.arrive q (.level v) [0] = (s', true) → s'.serves q (.level v) k →
      ∃ t, exec (.sessionLevelWrite q v) s = .next t ∧ t.keptFor k q (.level v) 1)

/-- O31 (R334, R342, R345, R346, R347, R515). Opening, closing and identifying, and the times that end sessions,
credentials and claims. OPEN on an Ethernet port that reaches the parser and repeats no kept OPEN of its source
binds the lowest free session to its source at level READ, and is answered BUSY (0x11) without one; on the
service port it binds the service session; CLOSE by the session's requester, served as a request, ends it;
IDENTIFY is answered at once when addressed to the device and waits its turn otherwise; IDENTIFY_REPLY answers
the first that waits; an identity whose check is turned over is answered CHECK_FAILED; PROGRESS_REPLY of an
outstanding request not from CAN sends a progress reply; SESSION_IDLE_TIMEOUT, CREDENTIAL_EXPIRY,
CREDENTIAL_LOCK_EXPIRY and DOMAIN_CLAIM_EXPIRY, each after its time, end the session, the credential, the
refusal and the claim. -/
def Obligations.SessionCommandsComplete : Prop :=
  let told := fun (s : State) (p : Port) (src seq : Nat) (flip : BitVec 8) =>
    let w : ReplyTo := { port := p, client := src, form := 0 }
    if flip = 0 then s.sendReply w 0xFF seq (.other 0x12) { codes := [(.ok, 0)], values := [s.identity] }
    else (s.checkReport 6 (0x10 + Dom.net.val)).sendReply w 0xFF seq (.other 0x12) { codes := [(.checkFailed, 0)] }
  let fresh := fun (s : State) (q : Request) => ∀ k ∈ openable q.port, s.net.sessions[k].bound = true →
    s.net.sessions[k].src = q.src → ∀ y ∈ s.net.sessions[k].kept, y.answers q (.other 0x10) = false
  ∀ (s s' : State) (q : Request),
    (q.port = .ethA ∨ q.port = .ethB → s.arrive q (.other 0x10) [0] = (s', true) → s'.ownRefusal q = none →
      fresh s' q →
      (∀ k : Fin 8, k.val < 6 → s'.net.sessions[k].bound = false → s'.net.sessions[k].outstanding = [] →
        (∀ j : Fin 8, j < k → s'.net.sessions[j].bound = true ∨ s'.net.sessions[j].outstanding ≠ []) →
        ∃ t, exec (.open q) s = .next t ∧ t.net.sessions[k].bound = true ∧ t.net.sessions[k].src = q.src ∧
          t.net.sessions[k].level = .read) ∧
      ((∀ j : Fin 8, j.val < 6 → s'.net.sessions[j].bound = true ∨ s'.net.sessions[j].outstanding ≠ []) →
        ∃ t, exec (.open q) s = .next t ∧ t = s'.sendReply (replyToOf q) 0xFF q.seq (.other 0x10) { codes := [(.busy, 0x11)] })) ∧
    (q.port = .service → s.arrive q (.other 0x10) [0] = (s', true) → s'.ownRefusal q = none → fresh s' q →
      s'.net.sessions[serviceSession].bound = false → s'.net.sessions[serviceSession].outstanding = [] →
      ∃ t, exec (.open q) s = .next t ∧ t.net.sessions[serviceSession].bound = true ∧
        t.net.sessions[serviceSession].src = q.src ∧ t.net.sessions[serviceSession].level = .read) ∧
    (∀ k, canOf q.port = none → s.arrive q (.other 0x11) [0] = (s', true) → s'.serves q (.other 0x11) k →
      ∃ t, exec (.close q) s = .next t ∧ t.net.sessions[k].bound = false) ∧
    (canOf q.port = none → s.arrive q (.other 0x12) [0, 2, 3] = (s', true) →
      (q.form = 0 → exec (.identify q) s = .next (told s' q.port q.src q.seq (flipAt q.replyFlips 0))) ∧
      (q.form ≠ 0 → ∃ t, exec (.identify q) s = .next t ∧
        t.net.identify = s'.net.identify ++ [(q.port, q.src, q.seq, flipAt q.replyFlips 0)])) ∧
    (∀ p src seq flip ps, s.net.identify = (p, src, seq, flip) :: ps →
      exec .identifyReply s = .next (told { s with net := { s.net with identify := ps } } p src seq flip)) ∧
    (∀ (port : Port) (n seq : Nat) (k : Fin 8) (u : Unfinished), sessionAt port n = some k →
      s.net.sessions[k].outstanding.find? (fun y => y.seq == seq) = some u → canOf u.port = none →
      ∃ t payload, exec (.progressReply port n seq) s = .next t ∧
        t.out = (s.sendPacket u.port (Config.macOf u.client) (s.answerPacket 2
          { port := u.port, client := u.client, form := u.form } k.val u.seq u.asked (.deferred, 0) payload)).out) ∧
    (∀ (port : Port) (n : Nat) (k : Fin 8), sessionAt port n = some k →
      (s.idleOver k = true → ∃ t, exec (.sessionIdleTimeout port n) s = .next t ∧ t.net.sessions[k].bound = false) ∧
      ((∀ c t0, s.net.sessions[k].credential = some (c, t0) → 10 * ticksPerS ≤ s.ref.time - t0) →
        ∃ t, exec (.credentialExpiry port n) s = .next t ∧ t.net.sessions[k].credential = none)) ∧
    ((∀ t0 ∈ s.net.rejections, 60 * ticksPerS ≤ s.ref.time - t0) →
      ∃ t, exec .credentialLockExpiry s = .next t ∧ t.net.credLocked = false ∧ t.net.rejections = []) ∧
    (∀ r : Ref, (∀ c ∈ s.net.claims, c.ref = r → 10 * ticksPerS ≤ s.ref.time - c.lastAt) →
      ∃ t, exec (.domainClaimExpiry r) s = .next t ∧ ∀ c ∈ t.net.claims, c.ref ≠ r)

/-- O32 (R355, R356). Repeating, reading and acknowledging the announced events. EVENT_REPEAT with NET in RUN sends
every announcement that has not been read again, the oldest first, also of an entry that the ring has lost;
EVENT_ENTRY_READ with MEM in RUN leaves no unread entry at that place of the ring, and no announcement of an
unread entry there is repeated any more; an accepted EVENT_ACK_ALL is answered OK and leaves no unread entry, no
announced one unread, none to repeat, and ATTN off. -/
def Obligations.EventCommandsComplete : Prop :=
  ∀ s : State,
    (s.runs Dom.net = true →
      exec .eventRepeat s = .next (s.each s.log.unheard.reverse fun s (e : Event) => s.sendBoth eventMac (s.eventPacket e))) ∧
    (∀ i : EntryN, s.runs Dom.mem = true →
      (s.log.entries.map fun (e : Event) => e.entry).Nodup →
      ∃ t, exec (.eventEntryRead i) s = .next t ∧ (∀ e ∈ t.log.entries, e.entry = i.val → e.unread = false) ∧
        ∀ e ∈ s.log.entries, e.entry = i.val → e.unread = true → e ∉ t.log.unheard) ∧
    (∀ (src : Src) (v : Int), s.accepts src O.eventAckAll v →
      ∃ t, exec (.eventAckAll src v) s = .next t ∧ t.answered O.eventAckAll .ok ∧ t.log.announcedUnread = 0 ∧
        t.log.unheard = [] ∧ t.log.attn = false ∧ ∀ e ∈ t.log.entries, e.unread = false)

/-- O33 (R21, R327, R328, R331, R332, R357). The switch, the links of the two Ethernet ports, and the IEEE 1588
time. A frame for another station that arrives at a port that is up leaves by the other port when that is up: at
once where its egress is idle (and no residence time is to be added), and from the end of the queue of its
priority, an untagged one as priority 0, while a frame of the highest priority is being sent. LINK_LOST takes an
up port down (or, by its count, to RETIRED); FRAME_ERRORS of 100 or more on an up port adds a counted fault; an
accepted ETH_REINSTATE of a retired port leaves it DOWN with no counted faults; ETH_LINK_UP within ETH_SPEED
brings a DOWN port up at its rate; the first one-step Sync of the selected master in PTP_DOMAIN with PTP_ROLE
set gives the time, its origin with the correction and the path delay, and its tick (assumption log entry 158),
and PTP_LOST takes availability and discipline away. -/
def Obligations.EthernetCommandsComplete : Prop :=
  ∀ (s : State) (p : EthN),
    (∀ (f : EthFrame) (o : EthN), o ≠ p → s.runs Dom.net = true → s.net.ports[p].up = true →
      s.net.ports[o].up = true → f.dstMac ≠ Config.ethMac % 2 ^ 48 → f.orhamSrc ≠ some s.address →
      ((∀ k : Fin 4, s.net.ports[o].queues[k] = [] ∧ s.net.ports[o].sending[k] ≤ s.ref.time) →
        f.ptp = none ∨ s.cfgN O.ptpTc = 0 →
        ∃ t, exec (.ethFrameForward p f) s = .next t ∧ t.out = .ethFrame o f :: s.out) ∧
      (s.ref.time < s.net.ports[o].sending[(3 : Fin 4)] →
        ∃ t, exec (.ethFrameForward p f) s = .next t ∧ t.out = s.out ∧
          t.net.ports[o].queues[queueOf (f.pcp.getD 0)] = s.net.ports[o].queues[queueOf (f.pcp.getD 0)] ++
            [{ out := .ethFrame o f, length := f.length, since := s.ref.time }])) ∧
    (s.net.ports[p].up = true → ∃ t, exec (.linkLost p) s = .next t ∧
      (t.net.ports[p].state = .down ∨ t.net.ports[p].state = .retired)) ∧
    (∀ bad : Nat, 100 ≤ bad → s.net.ports[p].up = true →
      ∃ t, exec (.frameErrors p bad) s = .next t ∧
        t.net.ports[p].faults = { cls := 1, time := s.ref.time } :: s.net.ports[p].faults) ∧
    (∀ (src : Src) (v : Int), s.accepts src (O.ethReinstate p) v → s.net.ports[p].state = .retired →
      ∃ t, exec (.ethReinstate src p v) s = .next t ∧ t.answered (O.ethReinstate p) .ok ∧
        t.net.ports[p].state = .down ∧ t.net.ports[p].faults = []) ∧
    (∀ gigabit : Bool, s.runs Dom.net = true → s.net.ports[p].state = .down →
      (s.cfgN (O.ethSpeed p) = 0 ∨ (s.cfgN (O.ethSpeed p) = 1 ↔ gigabit = true)) →
      ∃ t, exec (.ethLinkUp p gigabit) s = .next t ∧
        t.net.ports[p].state = if gigabit then .up1000 else .up100) ∧
    (∀ (x : PtpIn) (origin : Nat), s.runs Dom.net = true → s.net.ports[x.port].up = true → s.cfgN O.ptpRole ≠ 0 →
      x.domain = s.cfgN O.ptpDomain → x.selected = true → x.msg = .sync false origin → s.ref.ptpAvailable = false →
      s.ref.disciplined = false →
      ∃ t, exec (.ptpMessageReceived x) s = .next t ∧ t.ref.ptpAvailable = true ∧ t.ref.ptpAt = s.ref.time ∧
        t.ref.ptpTime = (origin : Rat) + (x.correction : Rat) / 65536 + s.ref.pathDelay) ∧
    (∃ t, exec .ptpLost s = .next t ∧ t.ref.ptpAvailable = false ∧ t.ref.disciplined = false)

/-- O34 (R38, R350). A cyclic frame's packet is buffered for its cycle, applied or sent at its instant, and missed
when it is not there. On an enabled receive frame with empty buffers, a packet of its peer and frame number, of
the mapped length, whose frame reaches the parser of an up port, whose bytes are accepted (end check, version,
length) and which is addressed to the module, and whose cycle is later than the last application instant, is
buffered with its cycle, port and payload; one whose bytes are not accepted is counted on its port and changes
nothing else. Once the instant of the cycle has come an enabled transmit frame sends its mapped objects' values
in list order; a receive frame without a buffered packet of that cycle counts one cycle missed; a receive frame
that maps one object, with a packet of that cycle whose value's check holds and passes the checks of every write
and ties with no other write of the tick, has done what a write of that value does. -/
def Obligations.CyclicCommandsComplete : Prop :=
  let packet := fun (src frame cycle : Nat) (payload : List Byte) (h : Header) =>
    ({ version := h.version, kind := h.kind.getD 3, dst := h.dst, src, session := h.session, command := frame
       seq := cycle % 0x10000, payload, lacking := h.lacking } : Packet)
  ∀ (s : State) (k : CycN),
    (∀ (p : EthN) (cycle : Nat) (payload : List Byte) (h : Header), s.cyclicOn k 0 = true → s.framed p h 5 5 true = true →
      (packet (s.cfgN (O.cycPeer k)) (s.cfgN (O.cycPeerFrame k)) cycle payload h).accepted h.endCheck = true →
      h.kind = none → s.addressed h.dst = true →
      payload.length = s.cyclicLength k → s.net.cyclic[k].buffers = [] →
      (∀ n, s.net.cyclic[k].instant = some n → notLater (cycle % 65536) n = false) →
      ∃ t, exec (.cyclicFrameReceived p (s.cfgN (O.cycPeer k)) (s.cfgN (O.cycPeerFrame k)) cycle payload h) s = .next t ∧
        t.net.cyclic[k].buffers = [(cycle % 65536, p, payload)]) ∧
    (∀ (p : EthN) (src frame cycle : Nat) (payload : List Byte) (h : Header), s.runs Dom.net = true →
      s.framed p h 5 5 true = true →
      crc32c (packet src frame cycle payload h).body ≠ h.endCheck ∨ h.version ≠ 1 ∨ 1440 < payload.length ∨ h.lacking ≠ 0 →
      exec (.cyclicFrameReceived p src frame cycle payload h) s = .next (s.count (O.endCheckFailCount p))) ∧
    (∀ (cycle : Nat) (flips : List (BitVec 8)), s.cyclicOn k 1 = true → s.cycleCame k cycle = true →
      let read := s.each (s.frameObjects k) State.wasRead
      exec (.cyclicApplicationInstant k cycle flips) s = .next (read.sendBoth (cyclicMac (s.cfgN O.segment) (s.cfgN O.node) k)
        { kind := 3, dst := Config.openHeader 3 2, src := s.address, command := k, seq := cycle % 0x10000
          payload := (s.frameObjects k).flatMap fun a =>
            leBytes (((cardOf a).bind (·.ty.bytes)).getD 0) (s.readValue a) })) ∧
    (∀ (cycle : Nat) (flips : List (BitVec 8)), s.cyclicOn k 0 = true → s.cycleCame k cycle = true →
      (∀ b ∈ s.net.cyclic[k].buffers, b.1 ≠ cycle % 65536) →
      ∃ t, exec (.cyclicApplicationInstant k cycle flips) s = .next t ∧
        t.net.cyclic[k].missed = s.net.cyclic[k].missed + 1) ∧
    (∀ (cycle a n : Nat) (v : Int) (p : EthN) (payload : List Byte) (rest : List (Nat × EthN × List Byte)),
      s.cyclicOn k 0 = true → s.cycleCame k cycle = true → s.frameObjects k = [a] → s.net.cyclic[k].buffers = (cycle % 65536, p, payload) :: rest →
      ((cardOf a).bind fun c => c.ty.bytes) = some n → ((cardOf a).bind fun c => bytesVal c.ty (payload.take n)) = some v →
      let s' := s.modCyc k fun x => { x with
        instant := some (cycle % 65536), buffers := x.buffers.filter fun b => !notLater b.1 (cycle % 65536)
        applied := some (cycle % 65536), missed := 0, timedOut := false }
      let src : Src := { port := if p.val = 0 then .ethA else .ethB, level := .operate, arrival := some s.ref.time }
      s'.writeRefusal src a v = none → s'.untied src a →
      exec (.cyclicApplicationInstant k cycle [0]) s = .next
        (if (s'.writeAct src a v).2.1 = .ok then ((s'.writeAct src a v).1.accessed a).noteTie src.port s.ref.time a
         else (s'.writeAct src a v).1.accessed a))

/-- O35 (R41, R42, R465, R466, R467, R468, R470). A gatekeeper's drain and its forced end, and the start, close and
loss of a power domain. GATE_FORCED answers for an awaited request of a draining domain, enters 0xC006 and
awaits it no more. GATE_DRAIN_COMPLETE with nothing awaited, outside a closure of the module, closes the gate;
the domain is OFF, or starts again where it was reset and its firmware is valid. An accepted DOMAIN_RESET or
DOMAIN_POWER_DOWN of a domain in RUN that may close is answered OK and drains (HOST may first fade its drums);
an accepted DOMAIN_START of an OFF or FAILED one starts it; DOMAIN_READY brings a starting one to RUN with its
gate open. DOMAIN_SUPPLY_LOSS closes a domain at once: FAILED, RETIRED for a crest, and the module off for KEEP. -/
def Obligations.GatekeeperAndDomainCommandsComplete : Prop :=
  ∀ (s : State) (d : DomainN),
    (∀ (session seq : Nat) (o : Outstanding), s.domains[d].gate = .draining →
      s.domains[d].drain.find? (fun x => x.session == session && x.seq == seq) = some o →
      ∃ t, exec (.gateForced d session seq) s = .next t ∧ t.reported 0xC006 d ∧ o ∉ t.domains[d].drain) ∧
    (s.domains[d].gate = .draining → s.domains[d].drain = [] → s.power.closing = none →
      ∃ t, exec (.gateDrainComplete d) s = .next t ∧ t.domains[d].gate = .closed ∧
        t.domains[d].state = if s.domains[d].restart then (if s.fwOk d then .starting else .failed) else .off) ∧
    (∀ src, s.accepts src O.domainCtrl (0x100 + d.val : Nat) → d ≠ Dom.keep → s.domains[d].state = .run →
      s.closable d = true → s.retiredDomain d = false → s.svc.closing = none →
      ∃ t, exec (.domainReset src d) s = .next t ∧ t.answered O.domainCtrl .ok ∧
        (t.domains[d].state = .stopping ∨ (d = Dom.host ∧ t.svc.closing.isSome = true))) ∧
    (∀ src, s.accepts src O.domainCtrl (0x200 + d.val : Nat) → d ≠ Dom.keep → s.domains[d].state = .run →
      s.closable d = true → s.svc.closing = none →
      ∃ t, exec (.domainPowerDown src d) s = .next t ∧ t.answered O.domainCtrl .ok ∧
        (t.domains[d].state = .stopping ∨ (d = Dom.host ∧ t.svc.closing.isSome = true))) ∧
    (∀ src, s.accepts src O.domainCtrl (0x300 + d.val : Nat) →
      s.domains[d].state = .off ∨ s.domains[d].state = .failed → s.retiredDomain d = false →
      ∃ t, exec (.domainStart src d) s = .next t ∧ t.answered O.domainCtrl .ok ∧
        t.domains[d].state = if s.fwOk d then .starting else .failed) ∧
    (s.domains[d].state = .starting → (d = Dom.mem ∨ s.domains[Dom.mem].state ≠ .starting) →
      s.retiredDomain d = false → s.fwOk d = true →
      ∃ t, exec (.domainReady d) s = .next t ∧ t.domains[d].state = .run ∧ t.domains[d].gate = .open) ∧
    (s.domains[d].state ≠ .off → s.power.closing = none →
      ∃ t, exec (.domainSupplyLoss d) s = .next t ∧
        (d = Dom.keep → t.power.mode = .off) ∧
        (d ≠ Dom.keep → (∀ c, d ≠ Dom.crest c) → t.domains[d].state = .failed ∧ t.domains[d].gate = .closed) ∧
        (∀ c, d = Dom.crest c → s.crests[c].state ≠ .retired →
          t.domains[d].state = .off ∧ t.crests[c].state = .retired))

/-- O36 (R359, R361, R362, R363, R367, R368, R375, R379). The safety cycles and the faults that the safety paths
detect. SAFETY_CYCLE of a path in RUN counts one cycle of that path. SPEED_SOURCE_FAULT notes the fault and ends
agreement. DISCREPANCY of a used input, PATH_LOST of a path in RUN or FAILED, and PATH_MISMATCH leave their
lock-outs latched. SS1_TIME_EXPIRY ends a running SS1 of its path with its time over; SS1_STANDSTILL_REACHED
ends a mode 1 SS1 that has stood still for 10 ms. -/
def Obligations.SafetyCycleCommandsComplete : Prop :=
  ∀ s : State,
    (∀ x, s.runs Dom.safeP = true →
      ∃ t, exec (.safetyCycle .p x) s = .next t ∧ t.safety.cyclesP = s.safety.cyclesP + 1) ∧
    (∀ x, s.runs Dom.safeL = true →
      ∃ t, exec (.safetyCycle .l x) s = .next t ∧ t.safety.cyclesL = s.safety.cyclesL + 1) ∧
    (∀ a : AxisN, ∃ t, exec (.speedSourceFault a) s = .next t ∧ (t.axis a).safe.sourceFault = true ∧
      (t.axis a).safe.agreed = false) ∧
    (∀ (i : SiN) (w : Path), s.safeCfgN (O.siFunction i) ≠ 0 →
      ∃ t, exec (.discrepancy i w) s = .next t ∧ ∃ y ∈ t.safety.lockouts, y.code = 0x9501 ∧ y.inst = i.val) ∧
    (s.domains[Dom.safeP].state = .run ∨ s.domains[Dom.safeP].state = .failed →
      ∃ t, exec (.pathLost .p) s = .next t ∧ ∃ y ∈ t.safety.lockouts, y.code = 0x950A ∧ y.inst = 0) ∧
    (s.domains[Dom.safeL].state = .run ∨ s.domains[Dom.safeL].state = .failed →
      ∃ t, exec (.pathLost .l) s = .next t ∧ ∃ y ∈ t.safety.lockouts, y.code = 0x950A ∧ y.inst = 1) ∧
    (∃ t, exec .pathMismatch s = .next t ∧ ∃ y ∈ t.safety.lockouts, y.code = 0x9509 ∧ y.inst = 0) ∧
    (∀ a : AxisN, (s.axis a).safe.p.ss1Run = true →
      ∃ t, exec (.ss1TimeExpiry a .p) s = .next t ∧ (t.axis a).safe.p.ss1Run = false ∧
        (t.axis a).safe.p.timeOver = true) ∧
    (∀ a : AxisN, (s.axis a).safe.l.ss1Run = true →
      ∃ t, exec (.ss1TimeExpiry a .l) s = .next t ∧ (t.axis a).safe.l.ss1Run = false ∧
        (t.axis a).safe.l.timeOver = true) ∧
    (∀ a : AxisN, (s.axis a).safe.p.ss1Run = true → s.safeCfgN (O.ss1Mode a) = 1 →
      s.stoodStill a = true →
      ∃ t, exec (.ss1StandstillReached a) s = .next t ∧ (t.axis a).safe.p.ss1Run = false ∧
        (t.axis a).safe.standstill = true)

/-- O37 (R388, R389, R390, R391, R396). Commanding, releasing and testing a brake output, and its faults. An
accepted BRAKE_CMD 0 is answered OK and opens the output; an accepted 1 with no reason against it closes both
switches of an OFF output; BRAKE_RELEASE_COMPLETE gives ON. TEST_PULSE_START of an ON output whose TEST_PERIOD
is over begins a dark test where no other output started one in this cycle; TEST_PULSE_END counts it and closes
both switches when it passes, and opens the output with lock-out 0x9502 when it fails. SBC_READBACK, a pin
having disagreed with its command in 20 samples of a path, and SBC_OVERLOAD open the output with lock-outs
0x9503 and 0x9504. -/
def Obligations.BrakeCommandsComplete : Prop :=
  ∀ (s : State) (k : SbcN),
    (∀ src, s.accepts src (O.brakeCmd k) 0 →
      ∃ t, exec (.brakeCmdWrite src k 0) s = .next t ∧ t.answered (O.brakeCmd k) .ok ∧
        t.safety.brakes[k].state = .off ∧ t.safety.brakes[k].hs = false ∧ t.safety.brakes[k].ls = false) ∧
    (∀ src, s.accepts src (O.brakeCmd k) 1 → s.brakeReason .p k = false → s.brakeReason .l k = false →
      s.safety.brakes[k].state = .off →
      ∃ t, exec (.brakeCmdWrite src k 1) s = .next t ∧ t.answered (O.brakeCmd k) .ok ∧
        t.safety.brakes[k].state = .releasing ∧ t.safety.brakes[k].hs = true ∧ t.safety.brakes[k].ls = true) ∧
    (s.safety.brakes[k].state = .releasing →
      ∃ t, exec (.brakeReleaseComplete k) s = .next t ∧ t.safety.brakes[k].state = .on) ∧
    (s.safety.brakes[k].state = .on → s.safety.brakes[k].testing = none → s.testDue k = true →
      (∀ j : SbcN, j ≠ k → s.safety.brakes[j].startedAt ≠ some s.safety.cyclesP) →
      ∃ t, exec (.testPulseStart k) s = .next t ∧ t.safety.brakes[k].testing.isSome = true ∧
        t.safety.brakes[k].pendingTest = false) ∧
    (∀ sd, s.safety.brakes[k].testing = some sd →
      (∃ t, exec (.testPulseEnd k true) s = .next t ∧ t.safety.brakes[k].testing = none ∧
        t.safety.brakes[k].lastSide = some sd ∧ t.safety.brakes[k].tests = (s.safety.brakes[k].tests + 1) % 256 ∧
        t.safety.brakes[k].hs = true ∧ t.safety.brakes[k].ls = true) ∧
      (∃ t, exec (.testPulseEnd k false) s = .next t ∧ t.safety.brakes[k].state = .off ∧
        ∃ y ∈ t.safety.lockouts, y.code = 0x9502 ∧ y.inst = k.val)) ∧
    (20 ≤ s.safety.brakes[k].wrongP ∨ 20 ≤ s.safety.brakes[k].wrongL →
      ∃ t, exec (.sbcReadback k) s = .next t ∧ t.safety.brakes[k].state = .off ∧
        ∃ y ∈ t.safety.lockouts, y.code = 0x9503 ∧ y.inst = k.val) ∧
    (∃ t, exec (.sbcOverload k) s = .next t ∧ t.safety.brakes[k].state = .off ∧
      ∃ y ∈ t.safety.lockouts, y.code = 0x9504 ∧ y.inst = k.val)

/-- O38 (R398, R399). A LOCKRST pulse of proper length resets exactly the lock-outs whose cause has cleared; a stuck
one is noted. LOCKRST_FALLING_EDGE after a pulse of 200 ms to 2 s, with both paths in RUN and the input stuck in
neither, leaves exactly the lock-outs whose cause has not cleared. LOCKRST_STUCK notes a stuck input in both
paths. -/
def Obligations.LockoutResetCommandsComplete : Prop :=
  ∀ s : State,
    (∀ us : Nat, s.runs Dom.safeP = true → s.runs Dom.safeL = true → s.safety.lockrstP.stuck = false →
      s.safety.lockrstL.stuck = false → 200000 ≤ us → us ≤ 2000000 →
      ∃ t, exec (.lockrstFallingEdge us) s = .next t ∧
        t.safety.lockouts = s.safety.lockouts.filter fun x => !s.causeCleared x) ∧
    (∃ t, exec .lockrstStuck s = .next t ∧ t.safety.lockrstP = { high := true, stuck := true } ∧
      t.safety.lockrstL = { high := true, stuck := true })

/-- O39 (R402, R405, R406, R407, R408, R409, R410). Thodar envelopes, the watchdog of a connection and its status. A
carried DATA envelope whose packet is accepted and for this device and which passes every test is accepted with
its SEQ, and in RUN gives the demand bits; a carried RESET envelope that passes them is accepted with its SEQ.
THODAR_TIMEOUT of a connection in RUN whose watchdog time is over leaves it EXPIRED with every input demanding.
THODAR_STATUS_SEND of a started connection advances its SEQ modulo 65,536 and keeps the payload sent. -/
def Obligations.ThodarCommandsComplete : Prop :=
  ∀ s : State,
    (∀ (e : Envelope) (j : ConnN), e.connection = j.val → e.kind ≠ 1 → s.carried e = true → (s.envelopeEntry e).2 = true →
      (s.takeEnvelope e).envelopeTest j e = none →
      ∃ t, exec (.thodarData e) s = .next t ∧ t.safety.conns[j].lastSeq = some e.seq ∧
        (s.safety.conns[j].state = .run → t.safety.conns[j].demand = demandBits e.payload)) ∧
    (∀ (e : Envelope) (j : ConnN), e.connection = j.val → e.kind = 1 → s.carried e = true → (s.envelopeEntry e).2 = true →
      (s.takeEnvelope e).envelopeTest j e = none →
      ∃ t, exec (.thodarReset e) s = .next t ∧ t.safety.conns[j].lastSeq = some e.seq) ∧
    (∀ j : ConnN, s.safety.conns[j].state = .run → s.dataInTime j = false →
      ∃ t, exec (.thodarTimeout j) s = .next t ∧ t.safety.conns[j].state = .expired ∧
        t.safety.conns[j].demand = BitVec.allOnes 24) ∧
    (∀ j : ConnN, s.safety.conns[j].state ≠ .off → s.runs Dom.safeP = true →
      ∃ t, exec (.thodarStatusSend j) s = .next t ∧
        t.safety.conns[j].txSeq = (s.safety.conns[j].txSeq + 1) % 65536 ∧
        t.safety.conns[j].sent = s.statusPayload)

/-- O40 (R412, R415, R416). A new safety password, and a seal of the staged configuration. An allowed
SAFETY_PASSWORD_NEW of 8 to 16 printable characters is answered OK and is the password. An accepted CONFIG_SEAL
of the staged check value, with no axis driven, no seal under way, a password set and the rules of sealing met,
is on its way to flash and is not answered before. -/
def Obligations.SafetyConfigurationCommandsComplete : Prop :=
  ∀ s : State,
    (∀ (src : Src) (pw : List Byte), src.flip = 0 → s.untied src O.safetyPasswordNew →
      s.accessRefusal src O.safetyPasswordNew = none → passwordOk pw = true →
      ∃ t, exec (.safetyPasswordNew src pw) s = .next t ∧ t.answered O.safetyPasswordNew .ok ∧
        t.safety.password = some pw) ∧
    (∀ (src : Src) (v : Int), s.accepts src O.configSeal v →
      (∀ a : AxisN, (s.axis a).field.state ∈ [AxisState.disabled, .ready, .safeOff, .lockedOut]) →
      s.safety.sealing = none → s.safety.password.isSome = true → v = s.stagedCheck → s.sealable = true →
      ∃ t, exec (.configSeal src v) s = .next t ∧ t.safety.sealing.isSome = true ∧ t.out = s.out)

/-- O41 (R422, R427, R428, R429, R430). The service tick, and enabling, crashing and shedding a thruster.
SERVICE_TICK at a service tick with HOST in RUN makes an armed thruster whose axis is RUNNING active. An
accepted THR_ENABLE 0 turns the service OFF, an accepted 1 with its claims free and the right control mode arms
it. An accepted THR_CRASH 1 of an active thruster that turns is due at the next tick against its direction; an
accepted 0 ends a crash. THR_SHED_AUTO_RAISE below the shed frequency and THR_SHED_AUTO_CLEAR 0.2 Hz above set
and clear the automatic level. -/
def Obligations.ThrusterCommandsComplete : Prop :=
  ∀ (s : State) (n : SvcN),
    (∀ a, s.runs Dom.host = true → s.svc.closing = none → s.svc.thr[n].state = .armed →
      (∀ m : SvcN, m ≠ n → s.svc.thr[m].state = .off) → s.thrAxisOf n = some a → s.isRunning a = true →
      s.ref.time % 400000 = 100000 → ∀ flips, ∃ t, exec (.serviceTick flips) s = .next t ∧ t.svc.thr[n].state = .active) ∧
    (∀ src, s.accepts src (O.thrEnable n) 0 →
      ∃ t, exec (.thrEnable src n 0) s = .next t ∧ t.answered (O.thrEnable n) .ok ∧ t.svc.thr[n].state = .off) ∧
    (∀ src a, s.accepts src (O.thrEnable n) 1 → s.thrClaim n = false → s.thrAxisOf n = some a →
      s.svcOwner a = 0xFF → s.mappedIn (thrObjects a) = false →
      (if s.cfgN (O.thrMode n) = 0 then s.speedControlled a else s.torqueControlled a) = true →
      ∃ t, exec (.thrEnable src n 1) s = .next t ∧ t.answered (O.thrEnable n) .ok ∧ t.svc.thr[n].state = .armed) ∧
    (∀ src a, s.accepts src (O.thrCrash n) 1 → s.svc.thr[n].state = .active → s.thrAxisOf n = some a →
      (s.axis a).field.speed ≠ 0 →
      ∃ t, exec (.thrCrashStart src n) s = .next t ∧ t.answered (O.thrCrash n) .ok ∧
        t.svc.thr[n].crashDue = true ∧
        t.svc.thr[n].crashTo = -(qsign (s.axis a).field.speed) * s.cfgN (O.thrCrashLevel n)) ∧
    (∀ src, s.accepts src (O.thrCrash n) 0 →
      ∃ t, exec (.thrCrashEnd src n) s = .next t ∧ t.answered (O.thrCrash n) .ok ∧
        t.svc.thr[n].crashDue = false ∧ t.svc.thr[n].state ≠ .crash ∧ t.svc.thr[n].state ≠ .crashHold) ∧
    (s.runs Dom.host = true → s.cfgN O.freqSource = 1 → s.cfgF (O.thrShedFreq n) ≠ 0 →
      s.cfgF O.shipFreq < s.cfgF (O.thrShedFreq n) →
      ∃ t, exec (.thrShedAutoRaise n) s = .next t ∧ t.svc.thr[n].auto = true) ∧
    (s.runs Dom.host = true → s.cfgF (O.thrShedFreq n) + 1 / 5 ≤ s.cfgF O.shipFreq →
      ∃ t, exec (.thrShedAutoClear n) s = .next t ∧ t.svc.thr[n].auto = false)

/-- O42 (R425, R431, R432, R434, R436, R438, R439, R440, R441, R443). A winch's mode, payout, release, spooling,
heave reference and tension, and the loss of a service. An accepted WINCH_MODE 0 outside a release turns the
winch OFF; modes 1 and 2 with the drum's claims free (2 with a valid payout and a fresh heave reference) arm it.
An accepted PAYOUT_SET within the drum's rope makes the payout valid at the drum's position; PAYOUT_STORE keeps
the turns. WINCH_RELEASE 1 under SLS begins and 0 ends a release, whose brake RELEASE_BRAKE_APPLY applies at
standstill. SPOOL_ENABLE 0 and 1 end and begin the level-wind's claim, and SPOOL_LOST notes its lag.
AHC_REFERENCE_LOST, 300 ms after the last triple, lets the heave factor fall, AHC_FADE_END ends it at 0 on the
last tick of AHC_FADE. TENSION_STALE is noted. SERVICE_LOSS with SVC_LOSS_ACTION 1 stops a RUNNING axis. -/
def Obligations.WinchCommandsComplete : Prop :=
  ∀ (s : State) (w : SvcN),
    (∀ src, s.accepts src (O.winchMode w) 0 → s.svc.winch[w].state ≠ .releasing →
      ∃ t, exec (.winchModeWrite src w 0) s = .next t ∧ t.answered (O.winchMode w) .ok ∧
        t.svc.winch[w].state = .off ∧ t.svc.winch[w].factor = 1) ∧
    (∀ src (v : Int), s.accepts src (O.winchMode w) v → v = 1 ∨ v = 2 → s.svc.winch[w].state = .off →
      (v = 2 → s.svc.winch[w].payoutValid = true ∧
        ∃ t0, s.svc.winch[w].takenAt = some t0 ∧ s.ref.time - t0 ≤ 300 * ticksPerMs) →
      s.drumClaimRefusal w = none →
      ∃ t, exec (.winchModeWrite src w v) s = .next t ∧ t.answered (O.winchMode w) .ok ∧
        t.svc.winch[w].state = .armed) ∧
    (∀ src (v : Int), s.accepts src (O.payoutSet w) v → 0 ≤ s.cfgF (O.ropeLength w) - f32Rat v →
      s.cfgF (O.ropeLength w) - f32Rat v ≤
        s.ropeOn w (s.cfgF (O.drumTurnsPerLayer w) * s.cfgN (O.drumLayers w)) →
      ∃ t, exec (.payoutSet src w v) s = .next t ∧ t.answered (O.payoutSet w) .ok ∧
        t.svc.winch[w].payoutValid = true ∧ t.svc.winch[w].xC = s.drumPos w) ∧
    (s.runs Dom.host = true → s.runs Dom.mem = true → s.svc.winch[w].payoutValid = true →
      ∃ t, exec (.payoutStore w) s = .next t ∧ t.svc.winch[w].storedN = some (s.turns w)) ∧
    (∀ src a, s.accepts src (O.winchRelease w) 1 → s.drumOf w = some a → s.svc.winch[w].state ≠ .releasing →
      s.isRunning a = true → (s.axis a).safe.slsSince.isSome = true → s.drumClaimRefusal w = none →
      ∃ t, exec (.winchReleaseStart src w) s = .next t ∧ t.answered (O.winchRelease w) .ok ∧
        t.svc.winch[w].state = .releasing) ∧
    (∀ src a, s.accepts src (O.winchRelease w) 0 → s.drumOf w = some a → s.svc.winch[w].state = .releasing →
      s.svc.winch[w].ending = false →
      ∃ t, exec (.winchReleaseStop src w) s = .next t ∧ t.answered (O.winchRelease w) .ok ∧
        (t.svc.winch[w].state = .off ∨ t.svc.winch[w].ending = true)) ∧
    (∀ a, s.drumOf w = some a → s.runs Dom.host = true → s.svc.winch[w].ending = true →
      qabs (s.axis a).field.speed < (s.cfgN (O.stopSpeed a) : Rat) →
      ∃ t, exec (.releaseBrakeApply w) s = .next t ∧ t.svc.winch[w].state = .off ∧ t.svc.winch[w].ending = false) ∧
    (∀ src, s.accepts src (O.spoolEnable w) 0 → s.storesWf = true →
      ∃ t, exec (.spoolEnable src w 0) s = .next t ∧ t.answered (O.spoolEnable w) .ok ∧ t.spoolClaim w = false ∧
        t.svc.winch[w].lagLost = false) ∧
    (∀ src a, s.accepts src (O.spoolEnable w) 1 → s.storesWf = true → s.spoolClaim w = false → s.spoolOf w = some a →
      s.isStepper a = true → (s.cfgN (O.controlMode a) = 1 ∨ s.cfgN (O.controlMode a) = 2) →
      (s.axis a).home.homed = true → s.svc.winch[w].payoutValid = true → s.cfgN (O.spoolCmp w) < 32 →
      (∀ x : SvcN, x ≠ w → s.spoolClaim x = true → s.cfgN (O.spoolCmp x) ≠ s.cfgN (O.spoolCmp w)) →
      s.svcOwner a = 0xFF → s.mappedIn (spoolObjects a (s.cfgN (O.spoolCmp w))) = false →
      ∃ t, exec (.spoolEnable src w 1) s = .next t ∧ t.answered (O.spoolEnable w) .ok ∧ t.spoolClaim w = true) ∧
    (∀ a, s.spoolOf w = some a → s.runs Dom.host = true → s.spoolClaim w = true →
      qabs (s.spoolG w) / 2 < s.spoolLag w a →
      ∃ t, exec (.spoolLost w) s = .next t ∧ t.svc.winch[w].lagLost = true) ∧
    (s.runs Dom.host = true → s.svc.winch[w].state = .active → s.cfgN (O.winchMode w) = 2 →
      0 < s.svc.winch[w].factor → s.heaveFresh w = false →
      ∃ t, exec (.ahcReferenceLost w) s = .next t ∧ t.svc.winch[w].fade = .falling) ∧
    (s.runs Dom.host = true → s.svc.winch[w].fade = .falling →
      s.svc.winch[w].factor ≤ 1 / (s.cfgN (O.ahcFade w) : Rat) →
      ∃ t, exec (.ahcFadeEnd w) s = .next t ∧ t.svc.winch[w].factor = 0 ∧ t.svc.winch[w].fade = .steady) ∧
    (s.runs Dom.host = true → s.cfgN (O.tensionSource w) = 1 →
      ∃ t, exec (.tensionStale w) s = .next t ∧ t.svc.winch[w].tensionStale = true) ∧
    (∀ a : AxisN, s.svcWatched = true → s.svcOwner a ≠ 0xFF → s.runs Dom.feed = true →
      s.cfgN (O.svcLossAction a) = 1 → (s.axis a).field.state = .running → (s.axis a).field.catching.running = false →
      (s.axis a).field.catching.phase = .none → s.stopsByGroup a = false →
      ∃ t, exec (.serviceLoss a) s = .next t ∧ (t.axis a).field.state = .stopping)

/-- O43 (R444, R445, R446, R447, R448). Samples, history seconds, freezing and rearming of the recorder. REC_SAMPLE
on a multiple of 20,000 ticks with the recorder on and FEED and MEM in RUN takes a sample into the present
second; REC_HISTORY_SECOND at a full second makes the second's record the newest of the history; an accepted
REC_FREEZE of a recording recorder begins its post-trigger; REC_FROZEN at the last frame freezes the ring and
counts it; an accepted REC_REARM records again with no trigger missed. -/
def Obligations.RecorderCommandsComplete : Prop :=
  ∀ s : State,
    (∀ oks, s.recorder.phase ≠ .off → s.runs Dom.feed = true → s.runs Dom.mem = true → s.ref.time % 20000 = 0 →
      ∃ t, exec (.recSample oks) s = .next t ∧ t.recorder.acc.isSome = true) ∧
    (∀ acc, s.runs Dom.mem = true → s.ref.time % ticksPerS = 0 → s.recorder.acc = some acc →
      ∃ t, exec .recHistorySecond s = .next t ∧ t.recorder.acc = none ∧
        (t.recorder.history.head?.map fun (h : RecSecond) => h.second) = some ((s.ref.time - 1) / ticksPerS)) ∧
    (∀ src (v : Int), s.accepts src O.recFreeze v → s.recorder.phase = .recording →
      ∃ t, exec (.recFreeze src v) s = .next t ∧ t.answered O.recFreeze .ok ∧ t.recorder.phase = .postTrigger ∧
        t.recorder.triggerTime = s.ref.time) ∧
    (∀ f fs, s.recorder.phase = .postTrigger → s.recorder.frames = f :: fs → s.recorder.lastFrame ≤ f.number →
      ∃ t, exec .recFrozen s = .next t ∧ t.recorder.phase = .frozen ∧
        t.recorder.freezes = (s.recorder.freezes + 1) % 2 ^ 32) ∧
    (∀ src (v : Int), s.accepts src O.recRearm v →
      s.recorder.phase = .postTrigger ∨ s.recorder.phase = .frozen →
      ∃ t, exec (.recRearm src v) s = .next t ∧ t.answered O.recRearm .ok ∧ t.recorder.phase = .recording ∧
        t.recorder.missed = 0)

/-- O44 (R453, R455, R459, R460). The start, end, wait and lateness of a self-test slice. SLICE_START of a chosen,
granted, eligible block at an instant at which its slice fits, with the engine on and the slot empty, runs the
block in the slot with no wait left. SLICE_COMPLETE of a running slice empties its slot; a pass reads PASS, a
first failure reads FAIL, repeats the slice and enters 0xA202, and a failure of the repeat is confirmed.
SLICE_WAIT_EXPIRY ends the wait. CYCLE_LATE of a block whose cycle is past its target is noted and entered once
as 0xA101. -/
def Obligations.SliceCommandsComplete : Prop :=
  ∀ (s : State) (block : Nat), (blockIx block).isSome = true →
    (∀ slot : TestSlot, s.engineOn = true → s.slices[slotIx slot] = none →
      s.engine.chosen[slotIx slot] = some block → s.arbiter.reqs[slotReq slot].code = .full →
      s.arbiter.reqs[slotReq slot].reason ≠ .notRequesting → s.engine.started = false → s.eligible block = true →
      s.sliceFits block = true →
      ∃ t, exec (.sliceStart slot block) s = .next t ∧ t.slices[slotIx slot] = some block ∧
        t.engine.lastBlock = block ∧ t.engine.started = true ∧ (t.block block).wait = 0) ∧
    (∀ patterns : Nat, (s.slices.any fun b => b == some block) = true →
      (∃ t, exec (.sliceComplete block patterns true true) s = .next t ∧ (t.block block).result = .pass ∧
        ∀ k : Fin 2, t.slices[k] ≠ some block) ∧
      (∀ c g : Bool, (c && g) = false → (s.block block).repeating = false →
        ∃ t, exec (.sliceComplete block patterns c g) s = .next t ∧ (t.block block).result = .fail ∧
          (t.block block).repeating = true ∧ t.reported 0xA202 block) ∧
      (∀ c g : Bool, (c && g) = false → (s.block block).repeating = true →
        ∃ t, exec (.sliceComplete block patterns c g) s = .next t ∧ (t.block block).result = .fail ∧
          (t.block block).confirmed = true)) ∧
    (∃ t, exec (.sliceWaitExpiry block) s = .next t ∧ (t.block block).waiting = false) ∧
    (s.cyclePast block = true → (s.block block).lateLogged = false → s.runs Dom.feed = true →
      ∃ t, exec (.cycleLate block) s = .next t ∧ (t.block block).late = true ∧ t.reported 0xA101 block)

/-- O45 (R451, R461, R462, R463). Rerunning and enabling the self-test, the full-device test, and boundary scan. An
accepted TEST_RERUN of an eligible block begins its cycle anew; an accepted TEST_ENABLE is in force; an accepted
TEST_CTRL 1 in life-cycle state 0 or 3 with every axis DISABLED begins the full-device test, whose end closes
the module for a restart with LAST_START 5; an accepted BSCAN_ENABLE 1 with every axis DISABLED and no enable
present opens boundary scan, and 0 closes the module for a restart. -/
def Obligations.SelfTestControlCommandsComplete : Prop :=
  ∀ (s : State) (src : Src),
    (∀ v : Int, s.accepts src O.testRerun v → (blockIx v.toNat).isSome = true → s.eligible v.toNat = true →
      s.power.bscan = false →
      ∃ t, exec (.testRerun src v) s = .next t ∧ t.answered O.testRerun .ok ∧ (t.block v.toNat).rerun = true ∧
        (t.block v.toNat).next = 0 ∧ (t.block v.toNat).cycleStart = some s.ref.time) ∧
    (∀ v : Int, s.accepts src O.testEnable v → s.storesWf = true →
      ∃ t, exec (.testEnable src v) s = .next t ∧ t.answered O.testEnable .ok ∧ t.cfg O.testEnable = v) ∧
    (∀ v : Int, s.accepts src O.testCtrl v → s.cfgN O.lcState = 0 ∨ s.cfgN O.lcState = 3 → v.toNat % 2 = 1 →
      s.allDisabled = true → s.power.bscan = false → s.engine.fullTest = false → s.power.closing = none →
      ∃ t, exec (.testCtrl src v) s = .next t ∧ t.answered O.testCtrl .ok ∧ t.engine.fullTest = true) ∧
    (s.engine.fullTest = true → (∃ d : DomainN, d ≠ Dom.keep ∧ s.unclosed d = true) →
      ∃ t, exec .fullDeviceTestEnd s = .next t ∧ t.power.closing = some (.restart 5)) ∧
    (s.accepts src O.bscanEnable 1 → s.cfgN O.lcState = 0 ∨ s.cfgN O.lcState = 1 ∨ s.cfgN O.lcState = 3 →
      s.allDisabled = true → s.noEnables = true → s.power.closing = none →
      ∃ t, exec (.bscanOpen src) s = .next t ∧ t.answered O.bscanEnable .ok ∧ t.power.bscan = true) ∧
    (s.accepts src O.bscanEnable 0 → s.cfgN O.lcState = 0 ∨ s.cfgN O.lcState = 1 ∨ s.cfgN O.lcState = 3 →
      s.power.bscan = true → s.power.closing = none → (∃ d : DomainN, d ≠ Dom.keep ∧ s.unclosed d = true) →
      ∃ t, exec (.bscanClose src) s = .next t ∧ t.answered O.bscanEnable .ok ∧
        t.power.closing = some (.restart 5))

/-- O46 (R469, R470, R471, R474, R475, R476, R477). Power modes, waking, and the supply's coming, failing and going.
With no closure under way an accepted POWER_MODE 0 takes QUIET to RUN; with every axis DISABLED, 1 gives QUIET,
and 2 begins the closure to DORMANT where no firmware is received or activated. WAKE and SUPPLY_ON at 18 V or
more start the module: mode RUN with KEEP in RUN. SUPPLY_FAILURE below 16.3 V is declared. HOLD_UP_END without
the supply's return leaves the module DORMANT with VKEEP at 2.0 V or more, and off below. -/
def Obligations.PowerModeCommandsComplete : Prop :=
  ∀ (s : State) (src : Src),
    (s.accepts src O.powerMode 0 → s.power.closing = none → s.power.mode = .quiet →
      ∃ t, exec (.powerModeRun src) s = .next t ∧ t.answered O.powerMode .ok ∧ t.power.mode = .run) ∧
    (s.accepts src O.powerMode 1 → s.power.closing = none → s.allDisabled = true →
      ∃ t, exec (.powerModeQuiet src) s = .next t ∧ t.answered O.powerMode .ok ∧ t.power.mode = .quiet) ∧
    (s.accepts src O.powerMode 2 → s.power.closing = none → s.allDisabled = true →
      (∀ k : FwN, s.power.fw[k].state ≠ .receiving ∧ s.power.fw[k].state ≠ .activating) →
      (∃ d : DomainN, d ≠ Dom.keep ∧ s.unclosed d = true) →
      ∃ t, exec (.powerModeDormant src) s = .next t ∧ t.answered O.powerMode .ok ∧
        t.power.closing = some .dormant) ∧
    (∀ mv : Nat, s.power.mode = .dormant → (s.cfgN O.powerConfig).testBit 0 = true → 18000 ≤ mv →
      ∃ t, exec (.wake mv) s = .next t ∧ t.power.mode = .run ∧ t.runs Dom.keep = true) ∧
    (∀ mv : Nat, s.power.mode = .off → 18000 ≤ mv → mv ≤ 36000 →
      ∃ t, exec (.supplyOn mv) s = .next t ∧ t.power.mode = .run ∧ t.runs Dom.keep = true) ∧
    (∀ mv : Nat, s.power.mode = .run ∨ s.power.mode = .quiet → s.power.failing = false → mv < 16300 →
      ∃ t, exec (.supplyFailure mv) s = .next t ∧ t.power.failing = true) ∧
    (∀ mv : Nat, s.power.mode = .run ∨ s.power.mode = .quiet → s.power.failing = true → s.power.returned = false →
      ∃ t, exec (.holdUpEnd mv) s = .next t ∧ t.power.mode = if 2000 ≤ mv then .dormant else .off)

/-- O47 (R13, R354, R472, R479, R480, R483, R484, R485, R486). The life cycle's advance, the nonce, the firmware's
verification to its end, the baseplate, writes and their way to flash. An accepted LC_ADVANCE from PROVISION to
FIELD under its conditions is answered OK and pends with the module's closure. LC_NONCE_REDRAW draws a fresh
nonce. FW_VERIFY_COMPLETE gives VERIFIED or REJECTED with the reason; an accepted FW_ACTIVATE of a verified
image under its conditions begins; FW_TENTATIVE_CONFIRMED, after 10 s of RUN, takes the new slot; FW_REVERT of a
hung activation reverts. BASEPLATE_MEASURE stores the clamped temperature. An accepted OBJECT_WRITE of a profile
limit is answered OK and reads back; STORED_WRITE_REACHES_FLASH puts a STORED object's value into flash. -/
def Obligations.LifeCycleAndFirmwareCommandsComplete : Prop :=
  ∀ s : State,
    (∀ src, s.accepts src O.lcAdvance 2 → s.cfgN O.lcState = 1 → levelRank .configure ≤ levelRank src.level →
      s.allDisabled = true → s.safety.sealed = 1 → s.power.lcPending = none → s.power.closing = none →
      (∃ d : DomainN, d ≠ Dom.keep ∧ s.unclosed d = true) →
      ∃ t, exec (.lcAdvance src 2) s = .next t ∧ t.answered O.lcAdvance .ok ∧ t.power.lcPending = some 2 ∧
        t.power.closing = some (.restart 4)) ∧
    (s.runs Dom.keep = true → s.storesWf = true →
      ∃ t, exec .lcNonceRedraw s = .next t ∧ t.draws = s.draws + 1 ∧
        t.cfg O.lcNonce = (Config.nonce s.draws % 2 ^ 32 : Nat)) ∧
    (∀ k : FwN, s.power.fw[k].state = .verifying →
      ∃ t, exec (.fwVerifyComplete k) s = .next t ∧ t.power.fw[k].reason = imageReason k s.power.fw[k].image ∧
        t.power.fw[k].state = if imageReason k s.power.fw[k].image = 0 then .verified else .rejected) ∧
    (∀ src (k : FwN) (v : Int), s.accepts src (O.fwActivate k) v → s.power.lcPending = none →
      (∀ j : FwN, s.power.fw[j].state ≠ .activating ∧ s.power.fw[j].state ≠ .tentative) →
      s.power.fw[k].state = .verified → s.power.closing = none → s.allDisabled = true → s.noneReleasing = true →
      s.runs Dom.mem = true →
      ∃ t, exec (.fwActivate src k v) s = .next t ∧ t.answered (O.fwActivate k) .ok ∧
        t.power.fw[k].state = .activating) ∧
    (∀ k : FwN, s.power.fw[k].state = .tentative → s.fwTried k = true →
      ∃ t, exec (.fwTentativeConfirmed k) s = .next t ∧ t.power.fw[k].state = .idle ∧
        t.power.fw[k].slot = !s.power.fw[k].slot) ∧
    (∀ (k : FwN) (d : DomainN), s.power.fw[k].state = .activating → d ∈ kindDomains k →
      s.domains[d].state = .starting ∨ s.domains[d].state = .failed →
      ∃ t, exec (.fwRevert k) s = .next t ∧ t.power.fw[k].state = .reverted) ∧
    (∀ c : Int, s.power.mode = .run ∨ s.power.mode = .quiet → s.storesWf = true →
      ∃ t, exec (.baseplateMeasure c) s = .next t ∧ t.cfg O.baseplateTemp = max (-550) (min 1500 c)) ∧
    (∀ src (a : AxisN) (v : Int), ∀ n ∈ [O.profileSpeed a, O.profileAccel a, O.profileDecel a, O.profileJerk a],
      s.accepts src n v → s.storesWf = true →
      ∃ t, exec (.objectWrite src (refOf n) v) s = .next t ∧ t.answered n .ok ∧ t.val n = v) ∧
    (∀ r : Ref, s.power.mode ≠ .off → persistOf (Ref.addr r) = .stored → Ref.addr r ≠ O.configSeal →
      s.power.closing = none → s.storesWf = true →
      ∃ t, exec (.storedWriteReachesFlash r) s = .next t ∧
        (storeGet t.flash (Ref.addr r)).getD (defaultOf (Ref.addr r)) = s.val (Ref.addr r))

/-- O48 (R458). An aborted slice is counted, keeps its index and runs again without a wait. SLICE_ABORT of a block
whose slice runs empties the slot, reads ABORTED, adds one to ABORT_COUNT (which holds at its maximum), leaves
no wait, and leaves the slice index that the next start takes as it was; when that slice then starts and
completes with a good cairn and signature, SLICE_RESULT shows that same index. -/
def Obligations.AbortedSliceIsRepeated : Prop :=
  ∀ (s : State) (block patterns : Nat), (blockIx block).isSome = true → s.storesWf = true →
    (s.slices.any fun b => b == some block) = true →
    ∃ t, exec (.sliceAbort block patterns) s = .next t ∧
      (∀ k : Fin 2, t.slices[k] ≠ some block) ∧
      (t.block block).result = .aborted ∧ (t.block block).slice = (s.block block).next ∧
      (t.block block).next = (s.block block).next ∧
      (t.block block).wait = 0 ∧ (t.block block).waiting = false ∧
      t.cfg (abortCountOf block) = min (s.cfg (abortCountOf block) + 1) 0xFFFFFFFF ∧
      ∀ (slot : TestSlot) (n : Nat) (u : State), exec (.sliceStart slot block) t = .next u →
        u.slices[slotIx slot] = some block →
        ∃ v, exec (.sliceComplete block n true true) u = .next v ∧
          (v.block block).slice = (s.block block).next ∧ (v.block block).result = .pass

/-- O49 (R29). The check word is the serial remainder of the word's 32 bits by 0x2F from 0xFF. For every word, the
8-bit check equals the register that starts at 0xFF and takes the word's bits one at a time, the bytes least
significant first and in each byte the most significant bit first: the register is shifted left, and where the
bit it shifts out differs from the input bit, 0x2F is added modulo 2. No final XOR is made. -/
def Obligations.CheckWordIsTheSerialCrc : Prop :=
  ∀ w : Word,
    crc8 w = ((List.range 4).flatMap fun i => (List.range 8).map fun j => w.getLsbD (8 * i + (7 - j))).foldl
      (fun (c : BitVec 8) (b : Bool) => if c.msb != b then (c <<< 1) ^^^ 0x2F#8 else c <<< 1) 0xFF#8

/-- O50 (R47). A session's fifth outstanding request is answered BUSY and is not accepted. For a READ, WRITE,
DOMAIN_READ, DOMAIN_WRITE or SESSION_LEVEL request that reaches the parser on a session of its requester which
has four or more requests outstanding, and which repeats no kept and no outstanding one: the command's whole
effect beyond the arrival is the BUSY reply and the session's time of last use. The session's kept replies and
outstanding requests stay as they were. -/
def Obligations.FifthOutstandingRequestIsBusy : Prop :=
  ∀ (s s' : State) (q : Request) (k : Fin 8), s'.ownRefusal q = none → (s'.sessionOf q).toOption = some k →
    4 ≤ s'.net.sessions[k].outstanding.length →
    let fresh := fun (asked : Asked) =>
      (∀ y ∈ s'.net.sessions[k].kept, y.answers q asked = false) ∧
      (∀ u ∈ s'.net.sessions[k].outstanding, ¬ (u.seq = q.seq ∧ u.form = q.form ∧ u.asked = asked))
    let busy := fun (asked : Asked) =>
      (s'.touch k q).sendReply (replyToOf q) q.session q.seq asked { codes := [(.busy, 0x10)] }
    (∀ asked, (busy asked).net.sessions[k].kept = s'.net.sessions[k].kept ∧
      (busy asked).net.sessions[k].outstanding = s'.net.sessions[k].outstanding ∧
      (canOf q.port = none → (busy asked).out = ((s'.touch k q).sendPacket q.port (Config.macOf q.src)
        (s'.answerPacket 1 (replyToOf q) q.session q.seq asked (.busy, 0x10)
          (({ codes := [(.busy, 0x10)] } : Answer).payload asked))).out)) ∧
    (∀ refs : List Ref, s.arrive q (.read refs) [0] = (s', true) → fresh (.read refs) →
      exec (.read q refs) s = .next (busy (.read refs))) ∧
    (∀ refs : List WriteRef, s.bootPort q = false → s.arrive q (.write (refs.map fun w => { w with flip := 0 })) [0] = (s', true) →
      fresh (.write (refs.map fun w => { w with flip := 0 })) →
      exec (.write q refs) s = .next (busy (.write (refs.map fun w => { w with flip := 0 })))) ∧
    (∀ (r : Ref) (offset maxLen : Nat) (badBeats : List Nat) (flashTries : Nat),
      s.arrive q (.domainRead r offset maxLen) [0] = (s', true) → fresh (.domainRead r offset maxLen) →
      exec (.domainRead q r offset maxLen badBeats flashTries) s = .next (busy (.domainRead r offset maxLen))) ∧
    (∀ (r : Ref) (offset : Nat) (data : List Byte), s.bootPort q = false →
      s.arrive q (.domainWrite r offset data) [0] = (s', true) →
      fresh (.domainWrite r offset data) →
      exec (.domainWrite q r offset data) s = .next (busy (.domainWrite r offset data))) ∧
    (∀ v : Int, s.arrive q (.level v) [0] = (s', true) → fresh (.level v) →
      exec (.sessionLevelWrite q v) s = .next (busy (.level v)))

/-- O51 (R71). Writes that leave MILLER_TIMEOUT less than 200 ns below BLANKING are refused; a blind refresh pulse
keeps the plateau check. A write of MILLER_TIMEOUT (ns) or BLANKING (100 ns), of a value within its type, from a
source that may write it, that would leave MILLER_TIMEOUT above BLANKING less 200 ns is answered OUT_OF_RANGE
and changes nothing else. In a refresh pulse with BLANKING of 1.2 µs or more, a low-side desaturation trip
changes nothing, while a hard short on the commanded low side latches its leg. -/
def Obligations.BlankingOutlastsTheMillerTimeout : Prop :=
  ∀ (s : State) (l : LegN), s.storesWf = true →
    (∀ (src : Src) (v : Nat), src.flip = 0 → s.accessRefusal src (O.millerTimeout l) = none → v ≤ 0xFFFF →
      100 * s.cfgN (O.blanking l) < v + 200 →
      exec (.objectWrite src (refOf (O.millerTimeout l)) v) s =
        .next (s.emit (.written (refOf (O.millerTimeout l)) .outOfRange 0))) ∧
    (∀ (src : Src) (v : Nat), src.flip = 0 → s.accessRefusal src (O.blanking l) = none → v ≤ 0xFF →
      100 * v < s.cfgN (O.millerTimeout l) + 200 →
      exec (.objectWrite src (refOf (O.blanking l)) v) s =
        .next (s.emit (.written (refOf (O.blanking l)) .outOfRange 0))) ∧
    ((s.leg l).inRefresh = true → 12 ≤ s.cfgN (O.blanking l) →
      exec (.desat l .low) s = .next s ∧
      ((s.leg l).lowCmd = true → (s.leg l).state ≠ .retired →
        ∃ t, exec (.hardShort l .low) s = .next t ∧ (t.leg l).latch = some (.hardShort, .low) ∧
          (t.leg l).highCmd = false ∧ (t.leg l).lowCmd = false))

/-- O52 (R126). Each accepted A or B transition counts one; both on one tick leave the position and latch
QUAD_ERROR. With FEED in RUN, on a channel of type 1 or 5: a transition of A alone or of B alone moves the
32-bit position by one count, up or down, so that a line period's four transitions are four counts; transitions
of both on one tick leave the position unchanged, clear REFERENCED and latch QUAD_ERROR on a channel that is not
retired, and a newly latched one is counted and, with no axis homing, is the newest entry of the log under
0x3203, 0x3303 or 0x3403 (class SIGNAL, instance the channel). Which way a transition counts is stated by no
clause here. -/
def Obligations.QuadratureCountsEachTransition : Prop :=
  ∀ (s : State) (f : ChanN) (stamp : Nat), s.runs Dom.feed = true → s.fbTypeOf f = 1 ∨ s.fbTypeOf f = 5 →
    let c := s.channels[f]
    (∀ e, e = [(Line.a, !c.a)] ∨ e = [(Line.b, !c.b)] →
      ∃ t, exec (.edgeAccepted f e stamp) s = .next t ∧
        (t.channels[f].position = wrap32 (c.position + 1) ∨ t.channels[f].position = wrap32 (c.position - 1))) ∧
    (∀ e, e = [(Line.a, !c.a), (Line.b, !c.b)] ∨ e = [(Line.b, !c.b), (Line.a, !c.a)] →
      ∃ t, exec (.edgeAccepted f e stamp) s = .next t ∧ t.channels[f].position = c.position ∧
        t.channels[f].referenced = false ∧
        (c.state ≠ .retired → FbFault.quadError ∈ t.channels[f].latched) ∧
        (c.state ≠ .retired → FbFault.quadError ∉ c.latched →
          t.channels[f].faults = { cls := 0, time := s.ref.time } :: c.faults ∧
          ((∀ a : AxisN, (s.axis a).home.state ≠ .running) →
            t.reported 0x3203 f ∨ t.reported 0x3303 f ∨ t.reported 0x3403 f)))

/-- O53 (R420). While a service drives an axis it alone writes the objects of Table 13.1, and SVC_OWNER names it.
The objects that Table 13.1 gives a thruster with THR_ENABLE 1, a winch drum with WINCH_MODE not 0 or RELEASING,
and a level-wind with SPOOL_ENABLE 1, are claimed. SVC_OWNER of an axis that exactly one service drives reads
that service: t, 0x10 + w, or 0x20 + w. A write of a claimed object that passes every other check, from any
source but the module's own services, is answered LOCKED and changes nothing. AXIS_COMMAND of no axis is ever
claimed. -/
def Obligations.ClaimedObjectsBelongToTheirService : Prop :=
  ∀ s : State,
    (∀ i : SvcN, s.thrClaim i = true → let a := s.cfgN (O.thrAxis i)
      ∀ n ∈ [O.velocitySet a, O.moveMode a, O.torqueSet a, O.profileAccel a, O.profileDecel a, O.powerClass a,
        O.powerRequest a], n ∈ s.claimedObjects) ∧
    (∀ i : SvcN, s.drumClaim i = true → let a := s.cfgN (O.winchAxis i)
      (∀ n ∈ [O.velocitySet a, O.moveMode a, O.powerClass a, O.powerRequest a], n ∈ s.claimedObjects) ∧
      (s.cfgN (O.winchBrake i) < 16 → O.brakeCmd (s.cfgN (O.winchBrake i)) ∈ s.claimedObjects)) ∧
    (∀ i : SvcN, s.spoolClaim i = true → let a := s.cfgN (O.spoolAxis i)
      (∀ n ∈ [O.targetPos a, O.stagedTarget a, O.triggerUnit a, O.moveMode a, O.profileSpeed a],
        n ∈ s.claimedObjects) ∧
      (s.cfgN (O.spoolCmp i) < 32 → let u := s.cfgN (O.spoolCmp i)
        ∀ n ∈ [O.cmpPosition u, O.cmpEnable u, O.cmpDirection u, O.cmpSource u], n ∈ s.claimedObjects)) ∧
    (∀ (a : AxisN) (i : SvcN),
      (s.thrClaim i = true → s.cfgN (O.thrAxis i) = a.val →
        (∀ j, s.thrClaim j = true → s.cfgN (O.thrAxis j) = a.val → j = i) → s.readValue (O.svcOwner a) = i.val) ∧
      (s.drumClaim i = true → s.cfgN (O.winchAxis i) = a.val →
        (∀ j, s.thrClaim j = true → s.cfgN (O.thrAxis j) ≠ a.val) →
        (∀ j, s.drumClaim j = true → s.cfgN (O.winchAxis j) = a.val → j = i) →
        s.readValue (O.svcOwner a) = (0x10 + i.val : Nat)) ∧
      (s.spoolClaim i = true → s.cfgN (O.spoolAxis i) = a.val →
        (∀ j, s.thrClaim j = true → s.cfgN (O.thrAxis j) ≠ a.val) →
        (∀ j, s.drumClaim j = true → s.cfgN (O.winchAxis j) ≠ a.val) →
        (∀ j, s.spoolClaim j = true → s.cfgN (O.spoolAxis j) = a.val → j = i) →
        s.readValue (O.svcOwner a) = (0x20 + i.val : Nat))) ∧
    (∀ (src : Src) (n : Nat) (v : Int), n ∈ s.claimedObjects → src.port ≠ .host → src.flip = 0 →
      s.accessRefusal src n = none → s.valueRefusal n v = none →
      exec (.objectWrite src (refOf n) v) s = .next (s.emit (.written (refOf n) .locked 0))) ∧
    (∀ a : AxisN, O.axisCommand a ∉ s.claimedObjects)

/-- O54 (R514). A sigma-delta object is written only while the axis of SD_AXIS, and the one a write of SD_AXIS
names, is DISABLED. For SD_ROLE, SD_AXIS, SD_OSR, SD_CLOCK, SD_GAIN and SD_OFFSET of input i, and every value
within the object's card, from a source that may write it and with SD_AXIS in its range: the write is answered
OK and its value in force exactly where the axis that SD_AXIS names is DISABLED and, for SD_AXIS, the axis that
the value names is too, but for a write whose place another of its tick takes; in every other case it is
answered LOCKED and changes nothing. -/
def Obligations.SigmaDeltaWritesNeedTheirAxisDisabled : Prop :=
  ∀ (s : State) (src : Src) (i : SdN) (v : Int) (a : AxisN), s.storesWf = true → s.cfg (O.sdAxis i) = a.val →
    ∀ n ∈ [O.sdRole i, O.sdAxis i, O.sdOsr i, O.sdClock i, O.sdGain i, O.sdOffset i],
      src.flip = 0 → s.accessRefusal src n = none →
      (∀ c, cardOf n = some c → c.ty.bounds.1 ≤ v ∧ v ≤ c.ty.bounds.2 ∧ c.range.holds v = true) →
      let free := s.isDisabled a = true ∧
        (n = O.sdAxis i → ∀ b : AxisN, v = b.val → s.isDisabled b = true)
      (free → s.untied src n → ∃ t, exec (.objectWrite src (refOf n) v) s = .next t ∧ t.answered n .ok ∧ t.cfg n = v) ∧
      (¬ free → exec (.objectWrite src (refOf n) v) s = .next (s.emit (.written (refOf n) .locked 0)))

/-- O55 (R65, R72, R73, R78, R82). A fault of one leg changes no other axis and no leg of another axis. When DESAT,
HARD_SHORT, GATE_TIMEOUT, GATE_RISE_UNCOMMANDED, BOOTSTRAP_UV, RECHARGE_FAILED or NO_ACK of a leg that belongs
to axis a answers a next state, every other axis is as it was, and so is every leg that is neither that leg nor
one of axis a's. -/
def Obligations.LegFaultsStayOnTheirAxis : Prop :=
  ∀ (s t : State) (l : LegN) (a : AxisN) (c : Instr), s.axisOf l = some a →
    (∃ (sd : Side) (mv : Nat), c ∈ [.desat l sd, .hardShort l sd, .gateTimeout l sd, .gateRiseUncommanded l sd,
      .bootstrapUv l mv, .rechargeFailed l, .noAck l]) →
    exec c s = .next t →
    (∀ b : AxisN, b ≠ a → t.axis b = s.axis b) ∧ (∀ k : LegN, k ≠ l → k ∉ s.legsOf a → t.leg k = s.leg k)

/-- O56 (R13, R36, R50, R73, R90, R116). Commands of cycles, fabric, leg cells, sensing and feedback change only
their parts of the state. For every command of the family (familyOf), when exec answers a next state, every part
of the state outside the command's list (touches) is unchanged; a command whose list has objs but not settings
leaves the value in force of every STORED object as it was. -/
def Obligations.FrameOfLegCommands : Prop :=
  ∀ (c : Instr) (s t : State), familyOf c = .legs → exec c s = .next t → s.only (touches c) t

/-- O57 (R13, R193, R229, R243, R269, R286). Commands of field control, steppers, motion, the arbiter and load
sharing change only their parts of the state. For every command of the family (familyOf), when exec answers a
next state, every part of the state outside the command's list (touches) is unchanged; a command whose list has
objs but not settings leaves the value in force of every STORED object as it was. -/
def Obligations.FrameOfAxisCommands : Prop :=
  ∀ (c : Instr) (s t : State), familyOf c = .axes → exec c s = .next t → s.only (touches c) t

/-- O58 (R13, R302, R322, R340, R355, R402). Commands of the CAN ports, the dictionary, the network and Thodar
change only their parts of the state. For every command of the family (familyOf), when exec answers a next
state, every part of the state outside the command's list (touches) is unchanged; a command whose list has objs
but not settings leaves the value in force of every STORED object as it was. An OBJECT_WRITE, a WRITE and a
cyclic frame may write any object, so their lists name every part. -/
def Obligations.FrameOfLinkCommands : Prop :=
  ∀ (c : Instr) (s t : State), familyOf c = .links → exec c s = .next t → s.only (touches c) t

/-- O59 (R13, R360, R420, R444, R456, R466). Commands of the safe paths, services, recorder, self-test and power
change only their parts of the state. For every command of the family (familyOf), when exec answers a next
state, every part of the state outside the command's list (touches) is unchanged; a command whose list has objs
but not settings leaves the value in force of every STORED object as it was. A command that may close the module
names every part. -/
def Obligations.FrameOfServiceCommands : Prop :=
  ∀ (c : Instr) (s t : State), familyOf c = .services → exec c s = .next t → s.only (touches c) t

/-- O60 (R50, R54, R84, R85, R139, R211, R220, R360). A command about one leg, channel, axis, slot, port, table,
brake, winch, thruster or image leaves the others as they are. For the commands that act on one instance only,
when exec answers a next state every other instance of that kind is unchanged: legs (safety-enable loss, pulse
edge, gate report, dead time, bootstrap warning and recharge, retry, autoclear), channels, bridges and catch
commands of an axis (other axes, and legs outside the axis), overcurrent end, limit release, hold entry, group
members, CAN integration, release and abort, microstep tables, brake releases and tests, winch and thruster
states, and firmware images. -/
def Obligations.OneInstanceCommandsLeaveTheOthers : Prop :=
  ∀ (s t : State) (c : Instr), exec c s = .next t →
    (∀ l : LegN,
      (∃ w sd mv, c ∈ [.safetyEnableLossAtLeg l w, .pulseEdge l, .gateMonitorOffReport l sd,
        .deadtimeExpiry l, .vbsWarning l mv, .vbsWarnClear l mv, .rechargeComplete l mv, .legFaultClear l,
        .autoclear l]) → ∀ k : LegN, k ≠ l → t.leg k = s.leg k) ∧
    (∀ f : ChanN, (∃ k src v, c ∈ [.standstill f, .ssiFrameStart f, .fbFaultClear f k, .fbChannelValid f,
      .indexArm src f v]) → ∀ g : ChanN, g ≠ f → t.channels[g] = s.channels[g]) ∧
    (∀ a : AxisN,
      (∃ br samples xs, c ∈ [.catchMeasurementComplete a samples, .catchSecondPulse a samples, .chopperDecision a br xs,
        .chopMinTimeExpiry a br, .chopFastTimeExpiry a br, .overcurrentCleared a, .limitRelease a, .holdEntry a]) →
      (∀ b : AxisN, b ≠ a → t.axis b = s.axis b) ∧ (∀ k : LegN, k ∉ s.legsOf a → t.leg k = s.leg k)) ∧
    (∀ (g : SlotN) (k : MemberN), c = .memberAgeOut g k → ∀ h : SlotN, h ≠ g → t.slots[h] = s.slots[h]) ∧
    (∀ p : CanN, (∃ src v, c ∈ [.canIntegrated p, .canRelease src p v, .canAbort src p v]) →
      ∀ q : CanN, q ≠ p → t.can[q] = s.can[q]) ∧
    (∀ x : TableN, (∃ src v, c ∈ [.stepTableFlashWritten x, .stepTableRestore src x v]) →
      ∀ y : TableN, y ≠ x → t.tables[y] = s.tables[y]) ∧
    (∀ k : SbcN, c ∈ [.brakeReleaseComplete k, .testPulseStart k] →
      ∀ j : SbcN, j ≠ k → t.safety.brakes[j] = s.safety.brakes[j]) ∧
    (∀ w : SvcN, c ∈ [.payoutStore w, .tensionStale w, .ahcReferenceLost w, .ahcFadeEnd w, .spoolLost w] →
      (∀ x : SvcN, x ≠ w → t.svc.winch[x] = s.svc.winch[x]) ∧ t.svc.thr = s.svc.thr) ∧
    (∀ w : SvcN, c ∈ [.thrShedAutoRaise w, .thrShedAutoClear w] →
      (∀ x : SvcN, x ≠ w → t.svc.thr[x] = s.svc.thr[x]) ∧ t.svc.winch = s.svc.winch) ∧
    (∀ k : FwN, c ∈ [.fwVerifyComplete k, .fwTentativeConfirmed k] →
      ∀ j : FwN, j ≠ k → t.power.fw[j] = s.power.fw[j])

end
end

