-- ==== Sys2Proof/Laws/State.lean ====
section
/-! SUPPORT. What each update of the state does to each field, so that no proof unfolds a record update. -/

namespace Sys2Proof.Machine

/-! ### `State.modAxis` -/

section
variable (s : State) (a : AxisN) (f : Axis → Axis)
@[simp] theorem State.modAxis_ref : (s.modAxis a f).ref = s.ref := rfl
@[simp] theorem State.modAxis_objs : (s.modAxis a f).objs = s.objs := rfl
@[simp] theorem State.modAxis_staged : (s.modAxis a f).staged = s.staged := rfl
@[simp] theorem State.modAxis_stagedAt : (s.modAxis a f).stagedAt = s.stagedAt := rfl
@[simp] theorem State.modAxis_flash : (s.modAxis a f).flash = s.flash := rfl
@[simp] theorem State.modAxis_domains : (s.modAxis a f).domains = s.domains := rfl
@[simp] theorem State.modAxis_crests : (s.modAxis a f).crests = s.crests := rfl
@[simp] theorem State.modAxis_legs : (s.modAxis a f).legs = s.legs := rfl
@[simp] theorem State.modAxis_groups : (s.modAxis a f).groups = s.groups := rfl
@[simp] theorem State.modAxis_inputs : (s.modAxis a f).inputs = s.inputs := rfl
@[simp] theorem State.modAxis_sds : (s.modAxis a f).sds = s.sds := rfl
@[simp] theorem State.modAxis_channels : (s.modAxis a f).channels = s.channels := rfl
@[simp] theorem State.modAxis_beforeTick : (s.modAxis a f).beforeTick = s.beforeTick := rfl
@[simp] theorem State.modAxis_passes : (s.modAxis a f).passes = s.passes := rfl
@[simp] theorem State.modAxis_excOff : (s.modAxis a f).excOff = s.excOff := rfl
@[simp] theorem State.modAxis_axes : (s.modAxis a f).axes = s.axes.set a (f s.axes[a]) := rfl
@[simp] theorem State.modAxis_tables : (s.modAxis a f).tables = s.tables := rfl
@[simp] theorem State.modAxis_units : (s.modAxis a f).units = s.units := rfl
@[simp] theorem State.modAxis_compareOuts : (s.modAxis a f).compareOuts = s.compareOuts := rfl
@[simp] theorem State.modAxis_migration : (s.modAxis a f).migration = s.migration := rfl
@[simp] theorem State.modAxis_slices : (s.modAxis a f).slices = s.slices := rfl
@[simp] theorem State.modAxis_slots : (s.modAxis a f).slots = s.slots := rfl
@[simp] theorem State.modAxis_can : (s.modAxis a f).can = s.can := rfl
@[simp] theorem State.modAxis_arbiter : (s.modAxis a f).arbiter = s.arbiter := rfl
@[simp] theorem State.modAxis_safety : (s.modAxis a f).safety = s.safety := rfl
@[simp] theorem State.modAxis_engine : (s.modAxis a f).engine = s.engine := rfl
@[simp] theorem State.modAxis_svc : (s.modAxis a f).svc = s.svc := rfl
@[simp] theorem State.modAxis_recorder : (s.modAxis a f).recorder = s.recorder := rfl
@[simp] theorem State.modAxis_net : (s.modAxis a f).net = s.net := rfl
@[simp] theorem State.modAxis_power : (s.modAxis a f).power = s.power := rfl
@[simp] theorem State.modAxis_log : (s.modAxis a f).log = s.log := rfl
@[simp] theorem State.modAxis_out : (s.modAxis a f).out = s.out := rfl
@[simp] theorem State.modAxis_draws : (s.modAxis a f).draws = s.draws := rfl
@[simp] theorem State.modAxis_writeFlips : (s.modAxis a f).writeFlips = s.writeFlips := rfl
@[simp] theorem State.modAxis_pending : (s.modAxis a f).pending = s.pending := rfl
end

/-! ### `State.modLeg` -/

section
variable (s : State) (l : LegN) (f : Leg → Leg)
@[simp] theorem State.modLeg_ref : (s.modLeg l f).ref = s.ref := rfl
@[simp] theorem State.modLeg_objs : (s.modLeg l f).objs = s.objs := rfl
@[simp] theorem State.modLeg_staged : (s.modLeg l f).staged = s.staged := rfl
@[simp] theorem State.modLeg_stagedAt : (s.modLeg l f).stagedAt = s.stagedAt := rfl
@[simp] theorem State.modLeg_flash : (s.modLeg l f).flash = s.flash := rfl
@[simp] theorem State.modLeg_domains : (s.modLeg l f).domains = s.domains := rfl
@[simp] theorem State.modLeg_crests : (s.modLeg l f).crests = s.crests := rfl
@[simp] theorem State.modLeg_legs : (s.modLeg l f).legs = s.legs.set l (f s.legs[l]) := rfl
@[simp] theorem State.modLeg_groups : (s.modLeg l f).groups = s.groups := rfl
@[simp] theorem State.modLeg_inputs : (s.modLeg l f).inputs = s.inputs := rfl
@[simp] theorem State.modLeg_sds : (s.modLeg l f).sds = s.sds := rfl
@[simp] theorem State.modLeg_channels : (s.modLeg l f).channels = s.channels := rfl
@[simp] theorem State.modLeg_beforeTick : (s.modLeg l f).beforeTick = s.beforeTick := rfl
@[simp] theorem State.modLeg_passes : (s.modLeg l f).passes = s.passes := rfl
@[simp] theorem State.modLeg_excOff : (s.modLeg l f).excOff = s.excOff := rfl
@[simp] theorem State.modLeg_axes : (s.modLeg l f).axes = s.axes := rfl
@[simp] theorem State.modLeg_tables : (s.modLeg l f).tables = s.tables := rfl
@[simp] theorem State.modLeg_units : (s.modLeg l f).units = s.units := rfl
@[simp] theorem State.modLeg_compareOuts : (s.modLeg l f).compareOuts = s.compareOuts := rfl
@[simp] theorem State.modLeg_migration : (s.modLeg l f).migration = s.migration := rfl
@[simp] theorem State.modLeg_slices : (s.modLeg l f).slices = s.slices := rfl
@[simp] theorem State.modLeg_slots : (s.modLeg l f).slots = s.slots := rfl
@[simp] theorem State.modLeg_can : (s.modLeg l f).can = s.can := rfl
@[simp] theorem State.modLeg_arbiter : (s.modLeg l f).arbiter = s.arbiter := rfl
@[simp] theorem State.modLeg_safety : (s.modLeg l f).safety = s.safety := rfl
@[simp] theorem State.modLeg_engine : (s.modLeg l f).engine = s.engine := rfl
@[simp] theorem State.modLeg_svc : (s.modLeg l f).svc = s.svc := rfl
@[simp] theorem State.modLeg_recorder : (s.modLeg l f).recorder = s.recorder := rfl
@[simp] theorem State.modLeg_net : (s.modLeg l f).net = s.net := rfl
@[simp] theorem State.modLeg_power : (s.modLeg l f).power = s.power := rfl
@[simp] theorem State.modLeg_log : (s.modLeg l f).log = s.log := rfl
@[simp] theorem State.modLeg_out : (s.modLeg l f).out = s.out := rfl
@[simp] theorem State.modLeg_draws : (s.modLeg l f).draws = s.draws := rfl
@[simp] theorem State.modLeg_writeFlips : (s.modLeg l f).writeFlips = s.writeFlips := rfl
@[simp] theorem State.modLeg_pending : (s.modLeg l f).pending = s.pending := rfl
end

/-! ### `State.modGroup` -/

section
variable (s : State) (g : GroupN) (f : LegGroup → LegGroup)
@[simp] theorem State.modGroup_ref : (s.modGroup g f).ref = s.ref := rfl
@[simp] theorem State.modGroup_objs : (s.modGroup g f).objs = s.objs := rfl
@[simp] theorem State.modGroup_staged : (s.modGroup g f).staged = s.staged := rfl
@[simp] theorem State.modGroup_stagedAt : (s.modGroup g f).stagedAt = s.stagedAt := rfl
@[simp] theorem State.modGroup_flash : (s.modGroup g f).flash = s.flash := rfl
@[simp] theorem State.modGroup_domains : (s.modGroup g f).domains = s.domains := rfl
@[simp] theorem State.modGroup_crests : (s.modGroup g f).crests = s.crests := rfl
@[simp] theorem State.modGroup_legs : (s.modGroup g f).legs = s.legs := rfl
@[simp] theorem State.modGroup_groups : (s.modGroup g f).groups = s.groups.set g (f s.groups[g]) := rfl
@[simp] theorem State.modGroup_inputs : (s.modGroup g f).inputs = s.inputs := rfl
@[simp] theorem State.modGroup_sds : (s.modGroup g f).sds = s.sds := rfl
@[simp] theorem State.modGroup_channels : (s.modGroup g f).channels = s.channels := rfl
@[simp] theorem State.modGroup_beforeTick : (s.modGroup g f).beforeTick = s.beforeTick := rfl
@[simp] theorem State.modGroup_passes : (s.modGroup g f).passes = s.passes := rfl
@[simp] theorem State.modGroup_excOff : (s.modGroup g f).excOff = s.excOff := rfl
@[simp] theorem State.modGroup_axes : (s.modGroup g f).axes = s.axes := rfl
@[simp] theorem State.modGroup_tables : (s.modGroup g f).tables = s.tables := rfl
@[simp] theorem State.modGroup_units : (s.modGroup g f).units = s.units := rfl
@[simp] theorem State.modGroup_compareOuts : (s.modGroup g f).compareOuts = s.compareOuts := rfl
@[simp] theorem State.modGroup_migration : (s.modGroup g f).migration = s.migration := rfl
@[simp] theorem State.modGroup_slices : (s.modGroup g f).slices = s.slices := rfl
@[simp] theorem State.modGroup_slots : (s.modGroup g f).slots = s.slots := rfl
@[simp] theorem State.modGroup_can : (s.modGroup g f).can = s.can := rfl
@[simp] theorem State.modGroup_arbiter : (s.modGroup g f).arbiter = s.arbiter := rfl
@[simp] theorem State.modGroup_safety : (s.modGroup g f).safety = s.safety := rfl
@[simp] theorem State.modGroup_engine : (s.modGroup g f).engine = s.engine := rfl
@[simp] theorem State.modGroup_svc : (s.modGroup g f).svc = s.svc := rfl
@[simp] theorem State.modGroup_recorder : (s.modGroup g f).recorder = s.recorder := rfl
@[simp] theorem State.modGroup_net : (s.modGroup g f).net = s.net := rfl
@[simp] theorem State.modGroup_power : (s.modGroup g f).power = s.power := rfl
@[simp] theorem State.modGroup_log : (s.modGroup g f).log = s.log := rfl
@[simp] theorem State.modGroup_out : (s.modGroup g f).out = s.out := rfl
@[simp] theorem State.modGroup_draws : (s.modGroup g f).draws = s.draws := rfl
@[simp] theorem State.modGroup_writeFlips : (s.modGroup g f).writeFlips = s.writeFlips := rfl
@[simp] theorem State.modGroup_pending : (s.modGroup g f).pending = s.pending := rfl
end

/-! ### `State.modInput` -/

section
variable (s : State) (l : LegN) (f : CurrentInput → CurrentInput)
@[simp] theorem State.modInput_ref : (s.modInput l f).ref = s.ref := rfl
@[simp] theorem State.modInput_objs : (s.modInput l f).objs = s.objs := rfl
@[simp] theorem State.modInput_staged : (s.modInput l f).staged = s.staged := rfl
@[simp] theorem State.modInput_stagedAt : (s.modInput l f).stagedAt = s.stagedAt := rfl
@[simp] theorem State.modInput_flash : (s.modInput l f).flash = s.flash := rfl
@[simp] theorem State.modInput_domains : (s.modInput l f).domains = s.domains := rfl
@[simp] theorem State.modInput_crests : (s.modInput l f).crests = s.crests := rfl
@[simp] theorem State.modInput_legs : (s.modInput l f).legs = s.legs := rfl
@[simp] theorem State.modInput_groups : (s.modInput l f).groups = s.groups := rfl
@[simp] theorem State.modInput_inputs : (s.modInput l f).inputs = s.inputs.set l (f s.inputs[l]) := rfl
@[simp] theorem State.modInput_sds : (s.modInput l f).sds = s.sds := rfl
@[simp] theorem State.modInput_channels : (s.modInput l f).channels = s.channels := rfl
@[simp] theorem State.modInput_beforeTick : (s.modInput l f).beforeTick = s.beforeTick := rfl
@[simp] theorem State.modInput_passes : (s.modInput l f).passes = s.passes := rfl
@[simp] theorem State.modInput_excOff : (s.modInput l f).excOff = s.excOff := rfl
@[simp] theorem State.modInput_axes : (s.modInput l f).axes = s.axes := rfl
@[simp] theorem State.modInput_tables : (s.modInput l f).tables = s.tables := rfl
@[simp] theorem State.modInput_units : (s.modInput l f).units = s.units := rfl
@[simp] theorem State.modInput_compareOuts : (s.modInput l f).compareOuts = s.compareOuts := rfl
@[simp] theorem State.modInput_migration : (s.modInput l f).migration = s.migration := rfl
@[simp] theorem State.modInput_slices : (s.modInput l f).slices = s.slices := rfl
@[simp] theorem State.modInput_slots : (s.modInput l f).slots = s.slots := rfl
@[simp] theorem State.modInput_can : (s.modInput l f).can = s.can := rfl
@[simp] theorem State.modInput_arbiter : (s.modInput l f).arbiter = s.arbiter := rfl
@[simp] theorem State.modInput_safety : (s.modInput l f).safety = s.safety := rfl
@[simp] theorem State.modInput_engine : (s.modInput l f).engine = s.engine := rfl
@[simp] theorem State.modInput_svc : (s.modInput l f).svc = s.svc := rfl
@[simp] theorem State.modInput_recorder : (s.modInput l f).recorder = s.recorder := rfl
@[simp] theorem State.modInput_net : (s.modInput l f).net = s.net := rfl
@[simp] theorem State.modInput_power : (s.modInput l f).power = s.power := rfl
@[simp] theorem State.modInput_log : (s.modInput l f).log = s.log := rfl
@[simp] theorem State.modInput_out : (s.modInput l f).out = s.out := rfl
@[simp] theorem State.modInput_draws : (s.modInput l f).draws = s.draws := rfl
@[simp] theorem State.modInput_writeFlips : (s.modInput l f).writeFlips = s.writeFlips := rfl
@[simp] theorem State.modInput_pending : (s.modInput l f).pending = s.pending := rfl
end

/-! ### `State.modSd` -/

section
variable (s : State) (i : SdN) (f : SdInput → SdInput)
@[simp] theorem State.modSd_ref : (s.modSd i f).ref = s.ref := rfl
@[simp] theorem State.modSd_objs : (s.modSd i f).objs = s.objs := rfl
@[simp] theorem State.modSd_staged : (s.modSd i f).staged = s.staged := rfl
@[simp] theorem State.modSd_stagedAt : (s.modSd i f).stagedAt = s.stagedAt := rfl
@[simp] theorem State.modSd_flash : (s.modSd i f).flash = s.flash := rfl
@[simp] theorem State.modSd_domains : (s.modSd i f).domains = s.domains := rfl
@[simp] theorem State.modSd_crests : (s.modSd i f).crests = s.crests := rfl
@[simp] theorem State.modSd_legs : (s.modSd i f).legs = s.legs := rfl
@[simp] theorem State.modSd_groups : (s.modSd i f).groups = s.groups := rfl
@[simp] theorem State.modSd_inputs : (s.modSd i f).inputs = s.inputs := rfl
@[simp] theorem State.modSd_sds : (s.modSd i f).sds = s.sds.set i (f s.sds[i]) := rfl
@[simp] theorem State.modSd_channels : (s.modSd i f).channels = s.channels := rfl
@[simp] theorem State.modSd_beforeTick : (s.modSd i f).beforeTick = s.beforeTick := rfl
@[simp] theorem State.modSd_passes : (s.modSd i f).passes = s.passes := rfl
@[simp] theorem State.modSd_excOff : (s.modSd i f).excOff = s.excOff := rfl
@[simp] theorem State.modSd_axes : (s.modSd i f).axes = s.axes := rfl
@[simp] theorem State.modSd_tables : (s.modSd i f).tables = s.tables := rfl
@[simp] theorem State.modSd_units : (s.modSd i f).units = s.units := rfl
@[simp] theorem State.modSd_compareOuts : (s.modSd i f).compareOuts = s.compareOuts := rfl
@[simp] theorem State.modSd_migration : (s.modSd i f).migration = s.migration := rfl
@[simp] theorem State.modSd_slices : (s.modSd i f).slices = s.slices := rfl
@[simp] theorem State.modSd_slots : (s.modSd i f).slots = s.slots := rfl
@[simp] theorem State.modSd_can : (s.modSd i f).can = s.can := rfl
@[simp] theorem State.modSd_arbiter : (s.modSd i f).arbiter = s.arbiter := rfl
@[simp] theorem State.modSd_safety : (s.modSd i f).safety = s.safety := rfl
@[simp] theorem State.modSd_engine : (s.modSd i f).engine = s.engine := rfl
@[simp] theorem State.modSd_svc : (s.modSd i f).svc = s.svc := rfl
@[simp] theorem State.modSd_recorder : (s.modSd i f).recorder = s.recorder := rfl
@[simp] theorem State.modSd_net : (s.modSd i f).net = s.net := rfl
@[simp] theorem State.modSd_power : (s.modSd i f).power = s.power := rfl
@[simp] theorem State.modSd_log : (s.modSd i f).log = s.log := rfl
@[simp] theorem State.modSd_out : (s.modSd i f).out = s.out := rfl
@[simp] theorem State.modSd_draws : (s.modSd i f).draws = s.draws := rfl
@[simp] theorem State.modSd_writeFlips : (s.modSd i f).writeFlips = s.writeFlips := rfl
@[simp] theorem State.modSd_pending : (s.modSd i f).pending = s.pending := rfl
end

/-! ### `State.modChan` -/

section
variable (s : State) (i : ChanN) (f : Channel → Channel)
@[simp] theorem State.modChan_ref : (s.modChan i f).ref = s.ref := rfl
@[simp] theorem State.modChan_objs : (s.modChan i f).objs = s.objs := rfl
@[simp] theorem State.modChan_staged : (s.modChan i f).staged = s.staged := rfl
@[simp] theorem State.modChan_stagedAt : (s.modChan i f).stagedAt = s.stagedAt := rfl
@[simp] theorem State.modChan_flash : (s.modChan i f).flash = s.flash := rfl
@[simp] theorem State.modChan_domains : (s.modChan i f).domains = s.domains := rfl
@[simp] theorem State.modChan_crests : (s.modChan i f).crests = s.crests := rfl
@[simp] theorem State.modChan_legs : (s.modChan i f).legs = s.legs := rfl
@[simp] theorem State.modChan_groups : (s.modChan i f).groups = s.groups := rfl
@[simp] theorem State.modChan_inputs : (s.modChan i f).inputs = s.inputs := rfl
@[simp] theorem State.modChan_sds : (s.modChan i f).sds = s.sds := rfl
@[simp] theorem State.modChan_channels : (s.modChan i f).channels = s.channels.set i (f s.channels[i]) := rfl
@[simp] theorem State.modChan_beforeTick : (s.modChan i f).beforeTick = s.beforeTick := rfl
@[simp] theorem State.modChan_passes : (s.modChan i f).passes = s.passes := rfl
@[simp] theorem State.modChan_excOff : (s.modChan i f).excOff = s.excOff := rfl
@[simp] theorem State.modChan_axes : (s.modChan i f).axes = s.axes := rfl
@[simp] theorem State.modChan_tables : (s.modChan i f).tables = s.tables := rfl
@[simp] theorem State.modChan_units : (s.modChan i f).units = s.units := rfl
@[simp] theorem State.modChan_compareOuts : (s.modChan i f).compareOuts = s.compareOuts := rfl
@[simp] theorem State.modChan_migration : (s.modChan i f).migration = s.migration := rfl
@[simp] theorem State.modChan_slices : (s.modChan i f).slices = s.slices := rfl
@[simp] theorem State.modChan_slots : (s.modChan i f).slots = s.slots := rfl
@[simp] theorem State.modChan_can : (s.modChan i f).can = s.can := rfl
@[simp] theorem State.modChan_arbiter : (s.modChan i f).arbiter = s.arbiter := rfl
@[simp] theorem State.modChan_safety : (s.modChan i f).safety = s.safety := rfl
@[simp] theorem State.modChan_engine : (s.modChan i f).engine = s.engine := rfl
@[simp] theorem State.modChan_svc : (s.modChan i f).svc = s.svc := rfl
@[simp] theorem State.modChan_recorder : (s.modChan i f).recorder = s.recorder := rfl
@[simp] theorem State.modChan_net : (s.modChan i f).net = s.net := rfl
@[simp] theorem State.modChan_power : (s.modChan i f).power = s.power := rfl
@[simp] theorem State.modChan_log : (s.modChan i f).log = s.log := rfl
@[simp] theorem State.modChan_out : (s.modChan i f).out = s.out := rfl
@[simp] theorem State.modChan_draws : (s.modChan i f).draws = s.draws := rfl
@[simp] theorem State.modChan_writeFlips : (s.modChan i f).writeFlips = s.writeFlips := rfl
@[simp] theorem State.modChan_pending : (s.modChan i f).pending = s.pending := rfl
end

/-! ### `State.modCrest` -/

section
variable (s : State) (c : CrestN) (f : Crest → Crest)
@[simp] theorem State.modCrest_ref : (s.modCrest c f).ref = s.ref := rfl
@[simp] theorem State.modCrest_objs : (s.modCrest c f).objs = s.objs := rfl
@[simp] theorem State.modCrest_staged : (s.modCrest c f).staged = s.staged := rfl
@[simp] theorem State.modCrest_stagedAt : (s.modCrest c f).stagedAt = s.stagedAt := rfl
@[simp] theorem State.modCrest_flash : (s.modCrest c f).flash = s.flash := rfl
@[simp] theorem State.modCrest_domains : (s.modCrest c f).domains = s.domains := rfl
@[simp] theorem State.modCrest_crests : (s.modCrest c f).crests = s.crests.set c (f s.crests[c]) := rfl
@[simp] theorem State.modCrest_legs : (s.modCrest c f).legs = s.legs := rfl
@[simp] theorem State.modCrest_groups : (s.modCrest c f).groups = s.groups := rfl
@[simp] theorem State.modCrest_inputs : (s.modCrest c f).inputs = s.inputs := rfl
@[simp] theorem State.modCrest_sds : (s.modCrest c f).sds = s.sds := rfl
@[simp] theorem State.modCrest_channels : (s.modCrest c f).channels = s.channels := rfl
@[simp] theorem State.modCrest_beforeTick : (s.modCrest c f).beforeTick = s.beforeTick := rfl
@[simp] theorem State.modCrest_passes : (s.modCrest c f).passes = s.passes := rfl
@[simp] theorem State.modCrest_excOff : (s.modCrest c f).excOff = s.excOff := rfl
@[simp] theorem State.modCrest_axes : (s.modCrest c f).axes = s.axes := rfl
@[simp] theorem State.modCrest_tables : (s.modCrest c f).tables = s.tables := rfl
@[simp] theorem State.modCrest_units : (s.modCrest c f).units = s.units := rfl
@[simp] theorem State.modCrest_compareOuts : (s.modCrest c f).compareOuts = s.compareOuts := rfl
@[simp] theorem State.modCrest_migration : (s.modCrest c f).migration = s.migration := rfl
@[simp] theorem State.modCrest_slices : (s.modCrest c f).slices = s.slices := rfl
@[simp] theorem State.modCrest_slots : (s.modCrest c f).slots = s.slots := rfl
@[simp] theorem State.modCrest_can : (s.modCrest c f).can = s.can := rfl
@[simp] theorem State.modCrest_arbiter : (s.modCrest c f).arbiter = s.arbiter := rfl
@[simp] theorem State.modCrest_safety : (s.modCrest c f).safety = s.safety := rfl
@[simp] theorem State.modCrest_engine : (s.modCrest c f).engine = s.engine := rfl
@[simp] theorem State.modCrest_svc : (s.modCrest c f).svc = s.svc := rfl
@[simp] theorem State.modCrest_recorder : (s.modCrest c f).recorder = s.recorder := rfl
@[simp] theorem State.modCrest_net : (s.modCrest c f).net = s.net := rfl
@[simp] theorem State.modCrest_power : (s.modCrest c f).power = s.power := rfl
@[simp] theorem State.modCrest_log : (s.modCrest c f).log = s.log := rfl
@[simp] theorem State.modCrest_out : (s.modCrest c f).out = s.out := rfl
@[simp] theorem State.modCrest_draws : (s.modCrest c f).draws = s.draws := rfl
@[simp] theorem State.modCrest_writeFlips : (s.modCrest c f).writeFlips = s.writeFlips := rfl
@[simp] theorem State.modCrest_pending : (s.modCrest c f).pending = s.pending := rfl
end

/-! ### `State.modDomain` -/

section
variable (s : State) (d : DomainN) (f : Domain → Domain)
@[simp] theorem State.modDomain_ref : (s.modDomain d f).ref = s.ref := rfl
@[simp] theorem State.modDomain_objs : (s.modDomain d f).objs = s.objs := rfl
@[simp] theorem State.modDomain_staged : (s.modDomain d f).staged = s.staged := rfl
@[simp] theorem State.modDomain_stagedAt : (s.modDomain d f).stagedAt = s.stagedAt := rfl
@[simp] theorem State.modDomain_flash : (s.modDomain d f).flash = s.flash := rfl
@[simp] theorem State.modDomain_domains : (s.modDomain d f).domains = s.domains.set d (f s.domains[d]) := rfl
@[simp] theorem State.modDomain_crests : (s.modDomain d f).crests = s.crests := rfl
@[simp] theorem State.modDomain_legs : (s.modDomain d f).legs = s.legs := rfl
@[simp] theorem State.modDomain_groups : (s.modDomain d f).groups = s.groups := rfl
@[simp] theorem State.modDomain_inputs : (s.modDomain d f).inputs = s.inputs := rfl
@[simp] theorem State.modDomain_sds : (s.modDomain d f).sds = s.sds := rfl
@[simp] theorem State.modDomain_channels : (s.modDomain d f).channels = s.channels := rfl
@[simp] theorem State.modDomain_beforeTick : (s.modDomain d f).beforeTick = s.beforeTick := rfl
@[simp] theorem State.modDomain_passes : (s.modDomain d f).passes = s.passes := rfl
@[simp] theorem State.modDomain_excOff : (s.modDomain d f).excOff = s.excOff := rfl
@[simp] theorem State.modDomain_axes : (s.modDomain d f).axes = s.axes := rfl
@[simp] theorem State.modDomain_tables : (s.modDomain d f).tables = s.tables := rfl
@[simp] theorem State.modDomain_units : (s.modDomain d f).units = s.units := rfl
@[simp] theorem State.modDomain_compareOuts : (s.modDomain d f).compareOuts = s.compareOuts := rfl
@[simp] theorem State.modDomain_migration : (s.modDomain d f).migration = s.migration := rfl
@[simp] theorem State.modDomain_slices : (s.modDomain d f).slices = s.slices := rfl
@[simp] theorem State.modDomain_slots : (s.modDomain d f).slots = s.slots := rfl
@[simp] theorem State.modDomain_can : (s.modDomain d f).can = s.can := rfl
@[simp] theorem State.modDomain_arbiter : (s.modDomain d f).arbiter = s.arbiter := rfl
@[simp] theorem State.modDomain_safety : (s.modDomain d f).safety = s.safety := rfl
@[simp] theorem State.modDomain_engine : (s.modDomain d f).engine = s.engine := rfl
@[simp] theorem State.modDomain_svc : (s.modDomain d f).svc = s.svc := rfl
@[simp] theorem State.modDomain_recorder : (s.modDomain d f).recorder = s.recorder := rfl
@[simp] theorem State.modDomain_net : (s.modDomain d f).net = s.net := rfl
@[simp] theorem State.modDomain_power : (s.modDomain d f).power = s.power := rfl
@[simp] theorem State.modDomain_log : (s.modDomain d f).log = s.log := rfl
@[simp] theorem State.modDomain_out : (s.modDomain d f).out = s.out := rfl
@[simp] theorem State.modDomain_draws : (s.modDomain d f).draws = s.draws := rfl
@[simp] theorem State.modDomain_writeFlips : (s.modDomain d f).writeFlips = s.writeFlips := rfl
@[simp] theorem State.modDomain_pending : (s.modDomain d f).pending = s.pending := rfl
end

/-! ### `State.modUnit` -/

section
variable (s : State) (u : UnitN) (f : Compare → Compare)
@[simp] theorem State.modUnit_ref : (s.modUnit u f).ref = s.ref := rfl
@[simp] theorem State.modUnit_objs : (s.modUnit u f).objs = s.objs := rfl
@[simp] theorem State.modUnit_staged : (s.modUnit u f).staged = s.staged := rfl
@[simp] theorem State.modUnit_stagedAt : (s.modUnit u f).stagedAt = s.stagedAt := rfl
@[simp] theorem State.modUnit_flash : (s.modUnit u f).flash = s.flash := rfl
@[simp] theorem State.modUnit_domains : (s.modUnit u f).domains = s.domains := rfl
@[simp] theorem State.modUnit_crests : (s.modUnit u f).crests = s.crests := rfl
@[simp] theorem State.modUnit_legs : (s.modUnit u f).legs = s.legs := rfl
@[simp] theorem State.modUnit_groups : (s.modUnit u f).groups = s.groups := rfl
@[simp] theorem State.modUnit_inputs : (s.modUnit u f).inputs = s.inputs := rfl
@[simp] theorem State.modUnit_sds : (s.modUnit u f).sds = s.sds := rfl
@[simp] theorem State.modUnit_channels : (s.modUnit u f).channels = s.channels := rfl
@[simp] theorem State.modUnit_beforeTick : (s.modUnit u f).beforeTick = s.beforeTick := rfl
@[simp] theorem State.modUnit_passes : (s.modUnit u f).passes = s.passes := rfl
@[simp] theorem State.modUnit_excOff : (s.modUnit u f).excOff = s.excOff := rfl
@[simp] theorem State.modUnit_axes : (s.modUnit u f).axes = s.axes := rfl
@[simp] theorem State.modUnit_tables : (s.modUnit u f).tables = s.tables := rfl
@[simp] theorem State.modUnit_units : (s.modUnit u f).units = s.units.set u (f s.units[u]) := rfl
@[simp] theorem State.modUnit_compareOuts : (s.modUnit u f).compareOuts = s.compareOuts := rfl
@[simp] theorem State.modUnit_migration : (s.modUnit u f).migration = s.migration := rfl
@[simp] theorem State.modUnit_slices : (s.modUnit u f).slices = s.slices := rfl
@[simp] theorem State.modUnit_slots : (s.modUnit u f).slots = s.slots := rfl
@[simp] theorem State.modUnit_can : (s.modUnit u f).can = s.can := rfl
@[simp] theorem State.modUnit_arbiter : (s.modUnit u f).arbiter = s.arbiter := rfl
@[simp] theorem State.modUnit_safety : (s.modUnit u f).safety = s.safety := rfl
@[simp] theorem State.modUnit_engine : (s.modUnit u f).engine = s.engine := rfl
@[simp] theorem State.modUnit_svc : (s.modUnit u f).svc = s.svc := rfl
@[simp] theorem State.modUnit_recorder : (s.modUnit u f).recorder = s.recorder := rfl
@[simp] theorem State.modUnit_net : (s.modUnit u f).net = s.net := rfl
@[simp] theorem State.modUnit_power : (s.modUnit u f).power = s.power := rfl
@[simp] theorem State.modUnit_log : (s.modUnit u f).log = s.log := rfl
@[simp] theorem State.modUnit_out : (s.modUnit u f).out = s.out := rfl
@[simp] theorem State.modUnit_draws : (s.modUnit u f).draws = s.draws := rfl
@[simp] theorem State.modUnit_writeFlips : (s.modUnit u f).writeFlips = s.writeFlips := rfl
@[simp] theorem State.modUnit_pending : (s.modUnit u f).pending = s.pending := rfl
end

/-! ### `State.modTable` -/

section
variable (s : State) (t : TableN) (f : MicroTable → MicroTable)
@[simp] theorem State.modTable_ref : (s.modTable t f).ref = s.ref := rfl
@[simp] theorem State.modTable_objs : (s.modTable t f).objs = s.objs := rfl
@[simp] theorem State.modTable_staged : (s.modTable t f).staged = s.staged := rfl
@[simp] theorem State.modTable_stagedAt : (s.modTable t f).stagedAt = s.stagedAt := rfl
@[simp] theorem State.modTable_flash : (s.modTable t f).flash = s.flash := rfl
@[simp] theorem State.modTable_domains : (s.modTable t f).domains = s.domains := rfl
@[simp] theorem State.modTable_crests : (s.modTable t f).crests = s.crests := rfl
@[simp] theorem State.modTable_legs : (s.modTable t f).legs = s.legs := rfl
@[simp] theorem State.modTable_groups : (s.modTable t f).groups = s.groups := rfl
@[simp] theorem State.modTable_inputs : (s.modTable t f).inputs = s.inputs := rfl
@[simp] theorem State.modTable_sds : (s.modTable t f).sds = s.sds := rfl
@[simp] theorem State.modTable_channels : (s.modTable t f).channels = s.channels := rfl
@[simp] theorem State.modTable_beforeTick : (s.modTable t f).beforeTick = s.beforeTick := rfl
@[simp] theorem State.modTable_passes : (s.modTable t f).passes = s.passes := rfl
@[simp] theorem State.modTable_excOff : (s.modTable t f).excOff = s.excOff := rfl
@[simp] theorem State.modTable_axes : (s.modTable t f).axes = s.axes := rfl
@[simp] theorem State.modTable_tables : (s.modTable t f).tables = s.tables.set t (f s.tables[t]) := rfl
@[simp] theorem State.modTable_units : (s.modTable t f).units = s.units := rfl
@[simp] theorem State.modTable_compareOuts : (s.modTable t f).compareOuts = s.compareOuts := rfl
@[simp] theorem State.modTable_migration : (s.modTable t f).migration = s.migration := rfl
@[simp] theorem State.modTable_slices : (s.modTable t f).slices = s.slices := rfl
@[simp] theorem State.modTable_slots : (s.modTable t f).slots = s.slots := rfl
@[simp] theorem State.modTable_can : (s.modTable t f).can = s.can := rfl
@[simp] theorem State.modTable_arbiter : (s.modTable t f).arbiter = s.arbiter := rfl
@[simp] theorem State.modTable_safety : (s.modTable t f).safety = s.safety := rfl
@[simp] theorem State.modTable_engine : (s.modTable t f).engine = s.engine := rfl
@[simp] theorem State.modTable_svc : (s.modTable t f).svc = s.svc := rfl
@[simp] theorem State.modTable_recorder : (s.modTable t f).recorder = s.recorder := rfl
@[simp] theorem State.modTable_net : (s.modTable t f).net = s.net := rfl
@[simp] theorem State.modTable_power : (s.modTable t f).power = s.power := rfl
@[simp] theorem State.modTable_log : (s.modTable t f).log = s.log := rfl
@[simp] theorem State.modTable_out : (s.modTable t f).out = s.out := rfl
@[simp] theorem State.modTable_draws : (s.modTable t f).draws = s.draws := rfl
@[simp] theorem State.modTable_writeFlips : (s.modTable t f).writeFlips = s.writeFlips := rfl
@[simp] theorem State.modTable_pending : (s.modTable t f).pending = s.pending := rfl
end

/-! ### `State.modSlot` -/

section
variable (s : State) (g : SlotN) (f : Group → Group)
@[simp] theorem State.modSlot_ref : (s.modSlot g f).ref = s.ref := rfl
@[simp] theorem State.modSlot_objs : (s.modSlot g f).objs = s.objs := rfl
@[simp] theorem State.modSlot_staged : (s.modSlot g f).staged = s.staged := rfl
@[simp] theorem State.modSlot_stagedAt : (s.modSlot g f).stagedAt = s.stagedAt := rfl
@[simp] theorem State.modSlot_flash : (s.modSlot g f).flash = s.flash := rfl
@[simp] theorem State.modSlot_domains : (s.modSlot g f).domains = s.domains := rfl
@[simp] theorem State.modSlot_crests : (s.modSlot g f).crests = s.crests := rfl
@[simp] theorem State.modSlot_legs : (s.modSlot g f).legs = s.legs := rfl
@[simp] theorem State.modSlot_groups : (s.modSlot g f).groups = s.groups := rfl
@[simp] theorem State.modSlot_inputs : (s.modSlot g f).inputs = s.inputs := rfl
@[simp] theorem State.modSlot_sds : (s.modSlot g f).sds = s.sds := rfl
@[simp] theorem State.modSlot_channels : (s.modSlot g f).channels = s.channels := rfl
@[simp] theorem State.modSlot_beforeTick : (s.modSlot g f).beforeTick = s.beforeTick := rfl
@[simp] theorem State.modSlot_passes : (s.modSlot g f).passes = s.passes := rfl
@[simp] theorem State.modSlot_excOff : (s.modSlot g f).excOff = s.excOff := rfl
@[simp] theorem State.modSlot_axes : (s.modSlot g f).axes = s.axes := rfl
@[simp] theorem State.modSlot_tables : (s.modSlot g f).tables = s.tables := rfl
@[simp] theorem State.modSlot_units : (s.modSlot g f).units = s.units := rfl
@[simp] theorem State.modSlot_compareOuts : (s.modSlot g f).compareOuts = s.compareOuts := rfl
@[simp] theorem State.modSlot_migration : (s.modSlot g f).migration = s.migration := rfl
@[simp] theorem State.modSlot_slices : (s.modSlot g f).slices = s.slices := rfl
@[simp] theorem State.modSlot_slots : (s.modSlot g f).slots = s.slots.set g (f s.slots[g]) := rfl
@[simp] theorem State.modSlot_can : (s.modSlot g f).can = s.can := rfl
@[simp] theorem State.modSlot_arbiter : (s.modSlot g f).arbiter = s.arbiter := rfl
@[simp] theorem State.modSlot_safety : (s.modSlot g f).safety = s.safety := rfl
@[simp] theorem State.modSlot_engine : (s.modSlot g f).engine = s.engine := rfl
@[simp] theorem State.modSlot_svc : (s.modSlot g f).svc = s.svc := rfl
@[simp] theorem State.modSlot_recorder : (s.modSlot g f).recorder = s.recorder := rfl
@[simp] theorem State.modSlot_net : (s.modSlot g f).net = s.net := rfl
@[simp] theorem State.modSlot_power : (s.modSlot g f).power = s.power := rfl
@[simp] theorem State.modSlot_log : (s.modSlot g f).log = s.log := rfl
@[simp] theorem State.modSlot_out : (s.modSlot g f).out = s.out := rfl
@[simp] theorem State.modSlot_draws : (s.modSlot g f).draws = s.draws := rfl
@[simp] theorem State.modSlot_writeFlips : (s.modSlot g f).writeFlips = s.writeFlips := rfl
@[simp] theorem State.modSlot_pending : (s.modSlot g f).pending = s.pending := rfl
end

/-! ### `State.modCan` -/

section
variable (s : State) (p : CanN) (f : CanPort → CanPort)
@[simp] theorem State.modCan_ref : (s.modCan p f).ref = s.ref := rfl
@[simp] theorem State.modCan_objs : (s.modCan p f).objs = s.objs := rfl
@[simp] theorem State.modCan_staged : (s.modCan p f).staged = s.staged := rfl
@[simp] theorem State.modCan_stagedAt : (s.modCan p f).stagedAt = s.stagedAt := rfl
@[simp] theorem State.modCan_flash : (s.modCan p f).flash = s.flash := rfl
@[simp] theorem State.modCan_domains : (s.modCan p f).domains = s.domains := rfl
@[simp] theorem State.modCan_crests : (s.modCan p f).crests = s.crests := rfl
@[simp] theorem State.modCan_legs : (s.modCan p f).legs = s.legs := rfl
@[simp] theorem State.modCan_groups : (s.modCan p f).groups = s.groups := rfl
@[simp] theorem State.modCan_inputs : (s.modCan p f).inputs = s.inputs := rfl
@[simp] theorem State.modCan_sds : (s.modCan p f).sds = s.sds := rfl
@[simp] theorem State.modCan_channels : (s.modCan p f).channels = s.channels := rfl
@[simp] theorem State.modCan_beforeTick : (s.modCan p f).beforeTick = s.beforeTick := rfl
@[simp] theorem State.modCan_passes : (s.modCan p f).passes = s.passes := rfl
@[simp] theorem State.modCan_excOff : (s.modCan p f).excOff = s.excOff := rfl
@[simp] theorem State.modCan_axes : (s.modCan p f).axes = s.axes := rfl
@[simp] theorem State.modCan_tables : (s.modCan p f).tables = s.tables := rfl
@[simp] theorem State.modCan_units : (s.modCan p f).units = s.units := rfl
@[simp] theorem State.modCan_compareOuts : (s.modCan p f).compareOuts = s.compareOuts := rfl
@[simp] theorem State.modCan_migration : (s.modCan p f).migration = s.migration := rfl
@[simp] theorem State.modCan_slices : (s.modCan p f).slices = s.slices := rfl
@[simp] theorem State.modCan_slots : (s.modCan p f).slots = s.slots := rfl
@[simp] theorem State.modCan_can : (s.modCan p f).can = s.can.set p (f s.can[p]) := rfl
@[simp] theorem State.modCan_arbiter : (s.modCan p f).arbiter = s.arbiter := rfl
@[simp] theorem State.modCan_safety : (s.modCan p f).safety = s.safety := rfl
@[simp] theorem State.modCan_engine : (s.modCan p f).engine = s.engine := rfl
@[simp] theorem State.modCan_svc : (s.modCan p f).svc = s.svc := rfl
@[simp] theorem State.modCan_recorder : (s.modCan p f).recorder = s.recorder := rfl
@[simp] theorem State.modCan_net : (s.modCan p f).net = s.net := rfl
@[simp] theorem State.modCan_power : (s.modCan p f).power = s.power := rfl
@[simp] theorem State.modCan_log : (s.modCan p f).log = s.log := rfl
@[simp] theorem State.modCan_out : (s.modCan p f).out = s.out := rfl
@[simp] theorem State.modCan_draws : (s.modCan p f).draws = s.draws := rfl
@[simp] theorem State.modCan_writeFlips : (s.modCan p f).writeFlips = s.writeFlips := rfl
@[simp] theorem State.modCan_pending : (s.modCan p f).pending = s.pending := rfl
end

/-! ### `State.modField` -/

section
variable (s : State) (a : AxisN) (f : Field → Field)
@[simp] theorem State.modField_ref : (s.modField a f).ref = s.ref := rfl
@[simp] theorem State.modField_objs : (s.modField a f).objs = s.objs := rfl
@[simp] theorem State.modField_staged : (s.modField a f).staged = s.staged := rfl
@[simp] theorem State.modField_stagedAt : (s.modField a f).stagedAt = s.stagedAt := rfl
@[simp] theorem State.modField_flash : (s.modField a f).flash = s.flash := rfl
@[simp] theorem State.modField_domains : (s.modField a f).domains = s.domains := rfl
@[simp] theorem State.modField_crests : (s.modField a f).crests = s.crests := rfl
@[simp] theorem State.modField_legs : (s.modField a f).legs = s.legs := rfl
@[simp] theorem State.modField_groups : (s.modField a f).groups = s.groups := rfl
@[simp] theorem State.modField_inputs : (s.modField a f).inputs = s.inputs := rfl
@[simp] theorem State.modField_sds : (s.modField a f).sds = s.sds := rfl
@[simp] theorem State.modField_channels : (s.modField a f).channels = s.channels := rfl
@[simp] theorem State.modField_beforeTick : (s.modField a f).beforeTick = s.beforeTick := rfl
@[simp] theorem State.modField_passes : (s.modField a f).passes = s.passes := rfl
@[simp] theorem State.modField_excOff : (s.modField a f).excOff = s.excOff := rfl
@[simp] theorem State.modField_axes : (s.modField a f).axes = s.axes.set a { s.axes[a] with field := f s.axes[a].field } := rfl
@[simp] theorem State.modField_tables : (s.modField a f).tables = s.tables := rfl
@[simp] theorem State.modField_units : (s.modField a f).units = s.units := rfl
@[simp] theorem State.modField_compareOuts : (s.modField a f).compareOuts = s.compareOuts := rfl
@[simp] theorem State.modField_migration : (s.modField a f).migration = s.migration := rfl
@[simp] theorem State.modField_slices : (s.modField a f).slices = s.slices := rfl
@[simp] theorem State.modField_slots : (s.modField a f).slots = s.slots := rfl
@[simp] theorem State.modField_can : (s.modField a f).can = s.can := rfl
@[simp] theorem State.modField_arbiter : (s.modField a f).arbiter = s.arbiter := rfl
@[simp] theorem State.modField_safety : (s.modField a f).safety = s.safety := rfl
@[simp] theorem State.modField_engine : (s.modField a f).engine = s.engine := rfl
@[simp] theorem State.modField_svc : (s.modField a f).svc = s.svc := rfl
@[simp] theorem State.modField_recorder : (s.modField a f).recorder = s.recorder := rfl
@[simp] theorem State.modField_net : (s.modField a f).net = s.net := rfl
@[simp] theorem State.modField_power : (s.modField a f).power = s.power := rfl
@[simp] theorem State.modField_log : (s.modField a f).log = s.log := rfl
@[simp] theorem State.modField_out : (s.modField a f).out = s.out := rfl
@[simp] theorem State.modField_draws : (s.modField a f).draws = s.draws := rfl
@[simp] theorem State.modField_writeFlips : (s.modField a f).writeFlips = s.writeFlips := rfl
@[simp] theorem State.modField_pending : (s.modField a f).pending = s.pending := rfl
end

/-! ### `State.modReact` -/

section
variable (s : State) (a : AxisN) (f : ReactionLogic → ReactionLogic)
@[simp] theorem State.modReact_ref : (s.modReact a f).ref = s.ref := rfl
@[simp] theorem State.modReact_objs : (s.modReact a f).objs = s.objs := rfl
@[simp] theorem State.modReact_staged : (s.modReact a f).staged = s.staged := rfl
@[simp] theorem State.modReact_stagedAt : (s.modReact a f).stagedAt = s.stagedAt := rfl
@[simp] theorem State.modReact_flash : (s.modReact a f).flash = s.flash := rfl
@[simp] theorem State.modReact_domains : (s.modReact a f).domains = s.domains := rfl
@[simp] theorem State.modReact_crests : (s.modReact a f).crests = s.crests := rfl
@[simp] theorem State.modReact_legs : (s.modReact a f).legs = s.legs := rfl
@[simp] theorem State.modReact_groups : (s.modReact a f).groups = s.groups := rfl
@[simp] theorem State.modReact_inputs : (s.modReact a f).inputs = s.inputs := rfl
@[simp] theorem State.modReact_sds : (s.modReact a f).sds = s.sds := rfl
@[simp] theorem State.modReact_channels : (s.modReact a f).channels = s.channels := rfl
@[simp] theorem State.modReact_beforeTick : (s.modReact a f).beforeTick = s.beforeTick := rfl
@[simp] theorem State.modReact_passes : (s.modReact a f).passes = s.passes := rfl
@[simp] theorem State.modReact_excOff : (s.modReact a f).excOff = s.excOff := rfl
@[simp] theorem State.modReact_axes : (s.modReact a f).axes = s.axes.set a { s.axes[a] with reaction := f s.axes[a].reaction } := rfl
@[simp] theorem State.modReact_tables : (s.modReact a f).tables = s.tables := rfl
@[simp] theorem State.modReact_units : (s.modReact a f).units = s.units := rfl
@[simp] theorem State.modReact_compareOuts : (s.modReact a f).compareOuts = s.compareOuts := rfl
@[simp] theorem State.modReact_migration : (s.modReact a f).migration = s.migration := rfl
@[simp] theorem State.modReact_slices : (s.modReact a f).slices = s.slices := rfl
@[simp] theorem State.modReact_slots : (s.modReact a f).slots = s.slots := rfl
@[simp] theorem State.modReact_can : (s.modReact a f).can = s.can := rfl
@[simp] theorem State.modReact_arbiter : (s.modReact a f).arbiter = s.arbiter := rfl
@[simp] theorem State.modReact_safety : (s.modReact a f).safety = s.safety := rfl
@[simp] theorem State.modReact_engine : (s.modReact a f).engine = s.engine := rfl
@[simp] theorem State.modReact_svc : (s.modReact a f).svc = s.svc := rfl
@[simp] theorem State.modReact_recorder : (s.modReact a f).recorder = s.recorder := rfl
@[simp] theorem State.modReact_net : (s.modReact a f).net = s.net := rfl
@[simp] theorem State.modReact_power : (s.modReact a f).power = s.power := rfl
@[simp] theorem State.modReact_log : (s.modReact a f).log = s.log := rfl
@[simp] theorem State.modReact_out : (s.modReact a f).out = s.out := rfl
@[simp] theorem State.modReact_draws : (s.modReact a f).draws = s.draws := rfl
@[simp] theorem State.modReact_writeFlips : (s.modReact a f).writeFlips = s.writeFlips := rfl
@[simp] theorem State.modReact_pending : (s.modReact a f).pending = s.pending := rfl
end

/-! ### `State.modSaddle` -/

section
variable (s : State) (a : AxisN) (f : Saddle → Saddle)
@[simp] theorem State.modSaddle_ref : (s.modSaddle a f).ref = s.ref := rfl
@[simp] theorem State.modSaddle_objs : (s.modSaddle a f).objs = s.objs := rfl
@[simp] theorem State.modSaddle_staged : (s.modSaddle a f).staged = s.staged := rfl
@[simp] theorem State.modSaddle_stagedAt : (s.modSaddle a f).stagedAt = s.stagedAt := rfl
@[simp] theorem State.modSaddle_flash : (s.modSaddle a f).flash = s.flash := rfl
@[simp] theorem State.modSaddle_domains : (s.modSaddle a f).domains = s.domains := rfl
@[simp] theorem State.modSaddle_crests : (s.modSaddle a f).crests = s.crests := rfl
@[simp] theorem State.modSaddle_legs : (s.modSaddle a f).legs = s.legs := rfl
@[simp] theorem State.modSaddle_groups : (s.modSaddle a f).groups = s.groups := rfl
@[simp] theorem State.modSaddle_inputs : (s.modSaddle a f).inputs = s.inputs := rfl
@[simp] theorem State.modSaddle_sds : (s.modSaddle a f).sds = s.sds := rfl
@[simp] theorem State.modSaddle_channels : (s.modSaddle a f).channels = s.channels := rfl
@[simp] theorem State.modSaddle_beforeTick : (s.modSaddle a f).beforeTick = s.beforeTick := rfl
@[simp] theorem State.modSaddle_passes : (s.modSaddle a f).passes = s.passes := rfl
@[simp] theorem State.modSaddle_excOff : (s.modSaddle a f).excOff = s.excOff := rfl
@[simp] theorem State.modSaddle_axes : (s.modSaddle a f).axes = s.axes.set a { s.axes[a] with saddle := f s.axes[a].saddle } := rfl
@[simp] theorem State.modSaddle_tables : (s.modSaddle a f).tables = s.tables := rfl
@[simp] theorem State.modSaddle_units : (s.modSaddle a f).units = s.units := rfl
@[simp] theorem State.modSaddle_compareOuts : (s.modSaddle a f).compareOuts = s.compareOuts := rfl
@[simp] theorem State.modSaddle_migration : (s.modSaddle a f).migration = s.migration := rfl
@[simp] theorem State.modSaddle_slices : (s.modSaddle a f).slices = s.slices := rfl
@[simp] theorem State.modSaddle_slots : (s.modSaddle a f).slots = s.slots := rfl
@[simp] theorem State.modSaddle_can : (s.modSaddle a f).can = s.can := rfl
@[simp] theorem State.modSaddle_arbiter : (s.modSaddle a f).arbiter = s.arbiter := rfl
@[simp] theorem State.modSaddle_safety : (s.modSaddle a f).safety = s.safety := rfl
@[simp] theorem State.modSaddle_engine : (s.modSaddle a f).engine = s.engine := rfl
@[simp] theorem State.modSaddle_svc : (s.modSaddle a f).svc = s.svc := rfl
@[simp] theorem State.modSaddle_recorder : (s.modSaddle a f).recorder = s.recorder := rfl
@[simp] theorem State.modSaddle_net : (s.modSaddle a f).net = s.net := rfl
@[simp] theorem State.modSaddle_power : (s.modSaddle a f).power = s.power := rfl
@[simp] theorem State.modSaddle_log : (s.modSaddle a f).log = s.log := rfl
@[simp] theorem State.modSaddle_out : (s.modSaddle a f).out = s.out := rfl
@[simp] theorem State.modSaddle_draws : (s.modSaddle a f).draws = s.draws := rfl
@[simp] theorem State.modSaddle_writeFlips : (s.modSaddle a f).writeFlips = s.writeFlips := rfl
@[simp] theorem State.modSaddle_pending : (s.modSaddle a f).pending = s.pending := rfl
end

/-! ### `State.modStep` -/

section
variable (s : State) (a : AxisN) (f : Stepper → Stepper)
@[simp] theorem State.modStep_ref : (s.modStep a f).ref = s.ref := rfl
@[simp] theorem State.modStep_objs : (s.modStep a f).objs = s.objs := rfl
@[simp] theorem State.modStep_staged : (s.modStep a f).staged = s.staged := rfl
@[simp] theorem State.modStep_stagedAt : (s.modStep a f).stagedAt = s.stagedAt := rfl
@[simp] theorem State.modStep_flash : (s.modStep a f).flash = s.flash := rfl
@[simp] theorem State.modStep_domains : (s.modStep a f).domains = s.domains := rfl
@[simp] theorem State.modStep_crests : (s.modStep a f).crests = s.crests := rfl
@[simp] theorem State.modStep_legs : (s.modStep a f).legs = s.legs := rfl
@[simp] theorem State.modStep_groups : (s.modStep a f).groups = s.groups := rfl
@[simp] theorem State.modStep_inputs : (s.modStep a f).inputs = s.inputs := rfl
@[simp] theorem State.modStep_sds : (s.modStep a f).sds = s.sds := rfl
@[simp] theorem State.modStep_channels : (s.modStep a f).channels = s.channels := rfl
@[simp] theorem State.modStep_beforeTick : (s.modStep a f).beforeTick = s.beforeTick := rfl
@[simp] theorem State.modStep_passes : (s.modStep a f).passes = s.passes := rfl
@[simp] theorem State.modStep_excOff : (s.modStep a f).excOff = s.excOff := rfl
@[simp] theorem State.modStep_axes : (s.modStep a f).axes = s.axes.set a { s.axes[a] with step := f s.axes[a].step } := rfl
@[simp] theorem State.modStep_tables : (s.modStep a f).tables = s.tables := rfl
@[simp] theorem State.modStep_units : (s.modStep a f).units = s.units := rfl
@[simp] theorem State.modStep_compareOuts : (s.modStep a f).compareOuts = s.compareOuts := rfl
@[simp] theorem State.modStep_migration : (s.modStep a f).migration = s.migration := rfl
@[simp] theorem State.modStep_slices : (s.modStep a f).slices = s.slices := rfl
@[simp] theorem State.modStep_slots : (s.modStep a f).slots = s.slots := rfl
@[simp] theorem State.modStep_can : (s.modStep a f).can = s.can := rfl
@[simp] theorem State.modStep_arbiter : (s.modStep a f).arbiter = s.arbiter := rfl
@[simp] theorem State.modStep_safety : (s.modStep a f).safety = s.safety := rfl
@[simp] theorem State.modStep_engine : (s.modStep a f).engine = s.engine := rfl
@[simp] theorem State.modStep_svc : (s.modStep a f).svc = s.svc := rfl
@[simp] theorem State.modStep_recorder : (s.modStep a f).recorder = s.recorder := rfl
@[simp] theorem State.modStep_net : (s.modStep a f).net = s.net := rfl
@[simp] theorem State.modStep_power : (s.modStep a f).power = s.power := rfl
@[simp] theorem State.modStep_log : (s.modStep a f).log = s.log := rfl
@[simp] theorem State.modStep_out : (s.modStep a f).out = s.out := rfl
@[simp] theorem State.modStep_draws : (s.modStep a f).draws = s.draws := rfl
@[simp] theorem State.modStep_writeFlips : (s.modStep a f).writeFlips = s.writeFlips := rfl
@[simp] theorem State.modStep_pending : (s.modStep a f).pending = s.pending := rfl
end

/-! ### `State.modProf` -/

section
variable (s : State) (a : AxisN) (f : Profile → Profile)
@[simp] theorem State.modProf_ref : (s.modProf a f).ref = s.ref := rfl
@[simp] theorem State.modProf_objs : (s.modProf a f).objs = s.objs := rfl
@[simp] theorem State.modProf_staged : (s.modProf a f).staged = s.staged := rfl
@[simp] theorem State.modProf_stagedAt : (s.modProf a f).stagedAt = s.stagedAt := rfl
@[simp] theorem State.modProf_flash : (s.modProf a f).flash = s.flash := rfl
@[simp] theorem State.modProf_domains : (s.modProf a f).domains = s.domains := rfl
@[simp] theorem State.modProf_crests : (s.modProf a f).crests = s.crests := rfl
@[simp] theorem State.modProf_legs : (s.modProf a f).legs = s.legs := rfl
@[simp] theorem State.modProf_groups : (s.modProf a f).groups = s.groups := rfl
@[simp] theorem State.modProf_inputs : (s.modProf a f).inputs = s.inputs := rfl
@[simp] theorem State.modProf_sds : (s.modProf a f).sds = s.sds := rfl
@[simp] theorem State.modProf_channels : (s.modProf a f).channels = s.channels := rfl
@[simp] theorem State.modProf_beforeTick : (s.modProf a f).beforeTick = s.beforeTick := rfl
@[simp] theorem State.modProf_passes : (s.modProf a f).passes = s.passes := rfl
@[simp] theorem State.modProf_excOff : (s.modProf a f).excOff = s.excOff := rfl
@[simp] theorem State.modProf_axes : (s.modProf a f).axes = s.axes.set a { s.axes[a] with prof := f s.axes[a].prof } := rfl
@[simp] theorem State.modProf_tables : (s.modProf a f).tables = s.tables := rfl
@[simp] theorem State.modProf_units : (s.modProf a f).units = s.units := rfl
@[simp] theorem State.modProf_compareOuts : (s.modProf a f).compareOuts = s.compareOuts := rfl
@[simp] theorem State.modProf_migration : (s.modProf a f).migration = s.migration := rfl
@[simp] theorem State.modProf_slices : (s.modProf a f).slices = s.slices := rfl
@[simp] theorem State.modProf_slots : (s.modProf a f).slots = s.slots := rfl
@[simp] theorem State.modProf_can : (s.modProf a f).can = s.can := rfl
@[simp] theorem State.modProf_arbiter : (s.modProf a f).arbiter = s.arbiter := rfl
@[simp] theorem State.modProf_safety : (s.modProf a f).safety = s.safety := rfl
@[simp] theorem State.modProf_engine : (s.modProf a f).engine = s.engine := rfl
@[simp] theorem State.modProf_svc : (s.modProf a f).svc = s.svc := rfl
@[simp] theorem State.modProf_recorder : (s.modProf a f).recorder = s.recorder := rfl
@[simp] theorem State.modProf_net : (s.modProf a f).net = s.net := rfl
@[simp] theorem State.modProf_power : (s.modProf a f).power = s.power := rfl
@[simp] theorem State.modProf_log : (s.modProf a f).log = s.log := rfl
@[simp] theorem State.modProf_out : (s.modProf a f).out = s.out := rfl
@[simp] theorem State.modProf_draws : (s.modProf a f).draws = s.draws := rfl
@[simp] theorem State.modProf_writeFlips : (s.modProf a f).writeFlips = s.writeFlips := rfl
@[simp] theorem State.modProf_pending : (s.modProf a f).pending = s.pending := rfl
end

/-! ### `State.modHome` -/

section
variable (s : State) (a : AxisN) (f : Homing → Homing)
@[simp] theorem State.modHome_ref : (s.modHome a f).ref = s.ref := rfl
@[simp] theorem State.modHome_objs : (s.modHome a f).objs = s.objs := rfl
@[simp] theorem State.modHome_staged : (s.modHome a f).staged = s.staged := rfl
@[simp] theorem State.modHome_stagedAt : (s.modHome a f).stagedAt = s.stagedAt := rfl
@[simp] theorem State.modHome_flash : (s.modHome a f).flash = s.flash := rfl
@[simp] theorem State.modHome_domains : (s.modHome a f).domains = s.domains := rfl
@[simp] theorem State.modHome_crests : (s.modHome a f).crests = s.crests := rfl
@[simp] theorem State.modHome_legs : (s.modHome a f).legs = s.legs := rfl
@[simp] theorem State.modHome_groups : (s.modHome a f).groups = s.groups := rfl
@[simp] theorem State.modHome_inputs : (s.modHome a f).inputs = s.inputs := rfl
@[simp] theorem State.modHome_sds : (s.modHome a f).sds = s.sds := rfl
@[simp] theorem State.modHome_channels : (s.modHome a f).channels = s.channels := rfl
@[simp] theorem State.modHome_beforeTick : (s.modHome a f).beforeTick = s.beforeTick := rfl
@[simp] theorem State.modHome_passes : (s.modHome a f).passes = s.passes := rfl
@[simp] theorem State.modHome_excOff : (s.modHome a f).excOff = s.excOff := rfl
@[simp] theorem State.modHome_axes : (s.modHome a f).axes = s.axes.set a { s.axes[a] with home := f s.axes[a].home } := rfl
@[simp] theorem State.modHome_tables : (s.modHome a f).tables = s.tables := rfl
@[simp] theorem State.modHome_units : (s.modHome a f).units = s.units := rfl
@[simp] theorem State.modHome_compareOuts : (s.modHome a f).compareOuts = s.compareOuts := rfl
@[simp] theorem State.modHome_migration : (s.modHome a f).migration = s.migration := rfl
@[simp] theorem State.modHome_slices : (s.modHome a f).slices = s.slices := rfl
@[simp] theorem State.modHome_slots : (s.modHome a f).slots = s.slots := rfl
@[simp] theorem State.modHome_can : (s.modHome a f).can = s.can := rfl
@[simp] theorem State.modHome_arbiter : (s.modHome a f).arbiter = s.arbiter := rfl
@[simp] theorem State.modHome_safety : (s.modHome a f).safety = s.safety := rfl
@[simp] theorem State.modHome_engine : (s.modHome a f).engine = s.engine := rfl
@[simp] theorem State.modHome_svc : (s.modHome a f).svc = s.svc := rfl
@[simp] theorem State.modHome_recorder : (s.modHome a f).recorder = s.recorder := rfl
@[simp] theorem State.modHome_net : (s.modHome a f).net = s.net := rfl
@[simp] theorem State.modHome_power : (s.modHome a f).power = s.power := rfl
@[simp] theorem State.modHome_log : (s.modHome a f).log = s.log := rfl
@[simp] theorem State.modHome_out : (s.modHome a f).out = s.out := rfl
@[simp] theorem State.modHome_draws : (s.modHome a f).draws = s.draws := rfl
@[simp] theorem State.modHome_writeFlips : (s.modHome a f).writeFlips = s.writeFlips := rfl
@[simp] theorem State.modHome_pending : (s.modHome a f).pending = s.pending := rfl
end

/-! ### `State.modMember` -/

section
variable (s : State) (a : AxisN) (f : Member → Member)
@[simp] theorem State.modMember_ref : (s.modMember a f).ref = s.ref := rfl
@[simp] theorem State.modMember_objs : (s.modMember a f).objs = s.objs := rfl
@[simp] theorem State.modMember_staged : (s.modMember a f).staged = s.staged := rfl
@[simp] theorem State.modMember_stagedAt : (s.modMember a f).stagedAt = s.stagedAt := rfl
@[simp] theorem State.modMember_flash : (s.modMember a f).flash = s.flash := rfl
@[simp] theorem State.modMember_domains : (s.modMember a f).domains = s.domains := rfl
@[simp] theorem State.modMember_crests : (s.modMember a f).crests = s.crests := rfl
@[simp] theorem State.modMember_legs : (s.modMember a f).legs = s.legs := rfl
@[simp] theorem State.modMember_groups : (s.modMember a f).groups = s.groups := rfl
@[simp] theorem State.modMember_inputs : (s.modMember a f).inputs = s.inputs := rfl
@[simp] theorem State.modMember_sds : (s.modMember a f).sds = s.sds := rfl
@[simp] theorem State.modMember_channels : (s.modMember a f).channels = s.channels := rfl
@[simp] theorem State.modMember_beforeTick : (s.modMember a f).beforeTick = s.beforeTick := rfl
@[simp] theorem State.modMember_passes : (s.modMember a f).passes = s.passes := rfl
@[simp] theorem State.modMember_excOff : (s.modMember a f).excOff = s.excOff := rfl
@[simp] theorem State.modMember_axes : (s.modMember a f).axes = s.axes.set a { s.axes[a] with member := f s.axes[a].member } := rfl
@[simp] theorem State.modMember_tables : (s.modMember a f).tables = s.tables := rfl
@[simp] theorem State.modMember_units : (s.modMember a f).units = s.units := rfl
@[simp] theorem State.modMember_compareOuts : (s.modMember a f).compareOuts = s.compareOuts := rfl
@[simp] theorem State.modMember_migration : (s.modMember a f).migration = s.migration := rfl
@[simp] theorem State.modMember_slices : (s.modMember a f).slices = s.slices := rfl
@[simp] theorem State.modMember_slots : (s.modMember a f).slots = s.slots := rfl
@[simp] theorem State.modMember_can : (s.modMember a f).can = s.can := rfl
@[simp] theorem State.modMember_arbiter : (s.modMember a f).arbiter = s.arbiter := rfl
@[simp] theorem State.modMember_safety : (s.modMember a f).safety = s.safety := rfl
@[simp] theorem State.modMember_engine : (s.modMember a f).engine = s.engine := rfl
@[simp] theorem State.modMember_svc : (s.modMember a f).svc = s.svc := rfl
@[simp] theorem State.modMember_recorder : (s.modMember a f).recorder = s.recorder := rfl
@[simp] theorem State.modMember_net : (s.modMember a f).net = s.net := rfl
@[simp] theorem State.modMember_power : (s.modMember a f).power = s.power := rfl
@[simp] theorem State.modMember_log : (s.modMember a f).log = s.log := rfl
@[simp] theorem State.modMember_out : (s.modMember a f).out = s.out := rfl
@[simp] theorem State.modMember_draws : (s.modMember a f).draws = s.draws := rfl
@[simp] theorem State.modMember_writeFlips : (s.modMember a f).writeFlips = s.writeFlips := rfl
@[simp] theorem State.modMember_pending : (s.modMember a f).pending = s.pending := rfl
end

/-! ### `State.modSafe` -/

section
variable (s : State) (a : AxisN) (f : SafeAxis → SafeAxis)
@[simp] theorem State.modSafe_ref : (s.modSafe a f).ref = s.ref := rfl
@[simp] theorem State.modSafe_objs : (s.modSafe a f).objs = s.objs := rfl
@[simp] theorem State.modSafe_staged : (s.modSafe a f).staged = s.staged := rfl
@[simp] theorem State.modSafe_stagedAt : (s.modSafe a f).stagedAt = s.stagedAt := rfl
@[simp] theorem State.modSafe_flash : (s.modSafe a f).flash = s.flash := rfl
@[simp] theorem State.modSafe_domains : (s.modSafe a f).domains = s.domains := rfl
@[simp] theorem State.modSafe_crests : (s.modSafe a f).crests = s.crests := rfl
@[simp] theorem State.modSafe_legs : (s.modSafe a f).legs = s.legs := rfl
@[simp] theorem State.modSafe_groups : (s.modSafe a f).groups = s.groups := rfl
@[simp] theorem State.modSafe_inputs : (s.modSafe a f).inputs = s.inputs := rfl
@[simp] theorem State.modSafe_sds : (s.modSafe a f).sds = s.sds := rfl
@[simp] theorem State.modSafe_channels : (s.modSafe a f).channels = s.channels := rfl
@[simp] theorem State.modSafe_beforeTick : (s.modSafe a f).beforeTick = s.beforeTick := rfl
@[simp] theorem State.modSafe_passes : (s.modSafe a f).passes = s.passes := rfl
@[simp] theorem State.modSafe_excOff : (s.modSafe a f).excOff = s.excOff := rfl
@[simp] theorem State.modSafe_axes : (s.modSafe a f).axes = s.axes.set a { s.axes[a] with safe := f s.axes[a].safe } := rfl
@[simp] theorem State.modSafe_tables : (s.modSafe a f).tables = s.tables := rfl
@[simp] theorem State.modSafe_units : (s.modSafe a f).units = s.units := rfl
@[simp] theorem State.modSafe_compareOuts : (s.modSafe a f).compareOuts = s.compareOuts := rfl
@[simp] theorem State.modSafe_migration : (s.modSafe a f).migration = s.migration := rfl
@[simp] theorem State.modSafe_slices : (s.modSafe a f).slices = s.slices := rfl
@[simp] theorem State.modSafe_slots : (s.modSafe a f).slots = s.slots := rfl
@[simp] theorem State.modSafe_can : (s.modSafe a f).can = s.can := rfl
@[simp] theorem State.modSafe_arbiter : (s.modSafe a f).arbiter = s.arbiter := rfl
@[simp] theorem State.modSafe_safety : (s.modSafe a f).safety = s.safety := rfl
@[simp] theorem State.modSafe_engine : (s.modSafe a f).engine = s.engine := rfl
@[simp] theorem State.modSafe_svc : (s.modSafe a f).svc = s.svc := rfl
@[simp] theorem State.modSafe_recorder : (s.modSafe a f).recorder = s.recorder := rfl
@[simp] theorem State.modSafe_net : (s.modSafe a f).net = s.net := rfl
@[simp] theorem State.modSafe_power : (s.modSafe a f).power = s.power := rfl
@[simp] theorem State.modSafe_log : (s.modSafe a f).log = s.log := rfl
@[simp] theorem State.modSafe_out : (s.modSafe a f).out = s.out := rfl
@[simp] theorem State.modSafe_draws : (s.modSafe a f).draws = s.draws := rfl
@[simp] theorem State.modSafe_writeFlips : (s.modSafe a f).writeFlips = s.writeFlips := rfl
@[simp] theorem State.modSafe_pending : (s.modSafe a f).pending = s.pending := rfl
end

/-! ### `State.modPower` -/

section
variable (s : State) (f : Power → Power)
@[simp] theorem State.modPower_ref : (s.modPower f).ref = s.ref := rfl
@[simp] theorem State.modPower_objs : (s.modPower f).objs = s.objs := rfl
@[simp] theorem State.modPower_staged : (s.modPower f).staged = s.staged := rfl
@[simp] theorem State.modPower_stagedAt : (s.modPower f).stagedAt = s.stagedAt := rfl
@[simp] theorem State.modPower_flash : (s.modPower f).flash = s.flash := rfl
@[simp] theorem State.modPower_domains : (s.modPower f).domains = s.domains := rfl
@[simp] theorem State.modPower_crests : (s.modPower f).crests = s.crests := rfl
@[simp] theorem State.modPower_legs : (s.modPower f).legs = s.legs := rfl
@[simp] theorem State.modPower_groups : (s.modPower f).groups = s.groups := rfl
@[simp] theorem State.modPower_inputs : (s.modPower f).inputs = s.inputs := rfl
@[simp] theorem State.modPower_sds : (s.modPower f).sds = s.sds := rfl
@[simp] theorem State.modPower_channels : (s.modPower f).channels = s.channels := rfl
@[simp] theorem State.modPower_beforeTick : (s.modPower f).beforeTick = s.beforeTick := rfl
@[simp] theorem State.modPower_passes : (s.modPower f).passes = s.passes := rfl
@[simp] theorem State.modPower_excOff : (s.modPower f).excOff = s.excOff := rfl
@[simp] theorem State.modPower_axes : (s.modPower f).axes = s.axes := rfl
@[simp] theorem State.modPower_tables : (s.modPower f).tables = s.tables := rfl
@[simp] theorem State.modPower_units : (s.modPower f).units = s.units := rfl
@[simp] theorem State.modPower_compareOuts : (s.modPower f).compareOuts = s.compareOuts := rfl
@[simp] theorem State.modPower_migration : (s.modPower f).migration = s.migration := rfl
@[simp] theorem State.modPower_slices : (s.modPower f).slices = s.slices := rfl
@[simp] theorem State.modPower_slots : (s.modPower f).slots = s.slots := rfl
@[simp] theorem State.modPower_can : (s.modPower f).can = s.can := rfl
@[simp] theorem State.modPower_arbiter : (s.modPower f).arbiter = s.arbiter := rfl
@[simp] theorem State.modPower_safety : (s.modPower f).safety = s.safety := rfl
@[simp] theorem State.modPower_engine : (s.modPower f).engine = s.engine := rfl
@[simp] theorem State.modPower_svc : (s.modPower f).svc = s.svc := rfl
@[simp] theorem State.modPower_recorder : (s.modPower f).recorder = s.recorder := rfl
@[simp] theorem State.modPower_net : (s.modPower f).net = s.net := rfl
@[simp] theorem State.modPower_power : (s.modPower f).power = f s.power := rfl
@[simp] theorem State.modPower_log : (s.modPower f).log = s.log := rfl
@[simp] theorem State.modPower_out : (s.modPower f).out = s.out := rfl
@[simp] theorem State.modPower_draws : (s.modPower f).draws = s.draws := rfl
@[simp] theorem State.modPower_writeFlips : (s.modPower f).writeFlips = s.writeFlips := rfl
@[simp] theorem State.modPower_pending : (s.modPower f).pending = s.pending := rfl
end

/-! ### `State.modSvc` -/

section
variable (s : State) (f : Services → Services)
@[simp] theorem State.modSvc_ref : (s.modSvc f).ref = s.ref := rfl
@[simp] theorem State.modSvc_objs : (s.modSvc f).objs = s.objs := rfl
@[simp] theorem State.modSvc_staged : (s.modSvc f).staged = s.staged := rfl
@[simp] theorem State.modSvc_stagedAt : (s.modSvc f).stagedAt = s.stagedAt := rfl
@[simp] theorem State.modSvc_flash : (s.modSvc f).flash = s.flash := rfl
@[simp] theorem State.modSvc_domains : (s.modSvc f).domains = s.domains := rfl
@[simp] theorem State.modSvc_crests : (s.modSvc f).crests = s.crests := rfl
@[simp] theorem State.modSvc_legs : (s.modSvc f).legs = s.legs := rfl
@[simp] theorem State.modSvc_groups : (s.modSvc f).groups = s.groups := rfl
@[simp] theorem State.modSvc_inputs : (s.modSvc f).inputs = s.inputs := rfl
@[simp] theorem State.modSvc_sds : (s.modSvc f).sds = s.sds := rfl
@[simp] theorem State.modSvc_channels : (s.modSvc f).channels = s.channels := rfl
@[simp] theorem State.modSvc_beforeTick : (s.modSvc f).beforeTick = s.beforeTick := rfl
@[simp] theorem State.modSvc_passes : (s.modSvc f).passes = s.passes := rfl
@[simp] theorem State.modSvc_excOff : (s.modSvc f).excOff = s.excOff := rfl
@[simp] theorem State.modSvc_axes : (s.modSvc f).axes = s.axes := rfl
@[simp] theorem State.modSvc_tables : (s.modSvc f).tables = s.tables := rfl
@[simp] theorem State.modSvc_units : (s.modSvc f).units = s.units := rfl
@[simp] theorem State.modSvc_compareOuts : (s.modSvc f).compareOuts = s.compareOuts := rfl
@[simp] theorem State.modSvc_migration : (s.modSvc f).migration = s.migration := rfl
@[simp] theorem State.modSvc_slices : (s.modSvc f).slices = s.slices := rfl
@[simp] theorem State.modSvc_slots : (s.modSvc f).slots = s.slots := rfl
@[simp] theorem State.modSvc_can : (s.modSvc f).can = s.can := rfl
@[simp] theorem State.modSvc_arbiter : (s.modSvc f).arbiter = s.arbiter := rfl
@[simp] theorem State.modSvc_safety : (s.modSvc f).safety = s.safety := rfl
@[simp] theorem State.modSvc_engine : (s.modSvc f).engine = s.engine := rfl
@[simp] theorem State.modSvc_svc : (s.modSvc f).svc = f s.svc := rfl
@[simp] theorem State.modSvc_recorder : (s.modSvc f).recorder = s.recorder := rfl
@[simp] theorem State.modSvc_net : (s.modSvc f).net = s.net := rfl
@[simp] theorem State.modSvc_power : (s.modSvc f).power = s.power := rfl
@[simp] theorem State.modSvc_log : (s.modSvc f).log = s.log := rfl
@[simp] theorem State.modSvc_out : (s.modSvc f).out = s.out := rfl
@[simp] theorem State.modSvc_draws : (s.modSvc f).draws = s.draws := rfl
@[simp] theorem State.modSvc_writeFlips : (s.modSvc f).writeFlips = s.writeFlips := rfl
@[simp] theorem State.modSvc_pending : (s.modSvc f).pending = s.pending := rfl
end

/-! ### `State.modSafety` -/

section
variable (s : State) (f : Safety → Safety)
@[simp] theorem State.modSafety_ref : (s.modSafety f).ref = s.ref := rfl
@[simp] theorem State.modSafety_objs : (s.modSafety f).objs = s.objs := rfl
@[simp] theorem State.modSafety_staged : (s.modSafety f).staged = s.staged := rfl
@[simp] theorem State.modSafety_stagedAt : (s.modSafety f).stagedAt = s.stagedAt := rfl
@[simp] theorem State.modSafety_flash : (s.modSafety f).flash = s.flash := rfl
@[simp] theorem State.modSafety_domains : (s.modSafety f).domains = s.domains := rfl
@[simp] theorem State.modSafety_crests : (s.modSafety f).crests = s.crests := rfl
@[simp] theorem State.modSafety_legs : (s.modSafety f).legs = s.legs := rfl
@[simp] theorem State.modSafety_groups : (s.modSafety f).groups = s.groups := rfl
@[simp] theorem State.modSafety_inputs : (s.modSafety f).inputs = s.inputs := rfl
@[simp] theorem State.modSafety_sds : (s.modSafety f).sds = s.sds := rfl
@[simp] theorem State.modSafety_channels : (s.modSafety f).channels = s.channels := rfl
@[simp] theorem State.modSafety_beforeTick : (s.modSafety f).beforeTick = s.beforeTick := rfl
@[simp] theorem State.modSafety_passes : (s.modSafety f).passes = s.passes := rfl
@[simp] theorem State.modSafety_excOff : (s.modSafety f).excOff = s.excOff := rfl
@[simp] theorem State.modSafety_axes : (s.modSafety f).axes = s.axes := rfl
@[simp] theorem State.modSafety_tables : (s.modSafety f).tables = s.tables := rfl
@[simp] theorem State.modSafety_units : (s.modSafety f).units = s.units := rfl
@[simp] theorem State.modSafety_compareOuts : (s.modSafety f).compareOuts = s.compareOuts := rfl
@[simp] theorem State.modSafety_migration : (s.modSafety f).migration = s.migration := rfl
@[simp] theorem State.modSafety_slices : (s.modSafety f).slices = s.slices := rfl
@[simp] theorem State.modSafety_slots : (s.modSafety f).slots = s.slots := rfl
@[simp] theorem State.modSafety_can : (s.modSafety f).can = s.can := rfl
@[simp] theorem State.modSafety_arbiter : (s.modSafety f).arbiter = s.arbiter := rfl
@[simp] theorem State.modSafety_safety : (s.modSafety f).safety = f s.safety := rfl
@[simp] theorem State.modSafety_engine : (s.modSafety f).engine = s.engine := rfl
@[simp] theorem State.modSafety_svc : (s.modSafety f).svc = s.svc := rfl
@[simp] theorem State.modSafety_recorder : (s.modSafety f).recorder = s.recorder := rfl
@[simp] theorem State.modSafety_net : (s.modSafety f).net = s.net := rfl
@[simp] theorem State.modSafety_power : (s.modSafety f).power = s.power := rfl
@[simp] theorem State.modSafety_log : (s.modSafety f).log = s.log := rfl
@[simp] theorem State.modSafety_out : (s.modSafety f).out = s.out := rfl
@[simp] theorem State.modSafety_draws : (s.modSafety f).draws = s.draws := rfl
@[simp] theorem State.modSafety_writeFlips : (s.modSafety f).writeFlips = s.writeFlips := rfl
@[simp] theorem State.modSafety_pending : (s.modSafety f).pending = s.pending := rfl
end

/-! ### `State.modRec` -/

section
variable (s : State) (f : Recorder → Recorder)
@[simp] theorem State.modRec_ref : (s.modRec f).ref = s.ref := rfl
@[simp] theorem State.modRec_objs : (s.modRec f).objs = s.objs := rfl
@[simp] theorem State.modRec_staged : (s.modRec f).staged = s.staged := rfl
@[simp] theorem State.modRec_stagedAt : (s.modRec f).stagedAt = s.stagedAt := rfl
@[simp] theorem State.modRec_flash : (s.modRec f).flash = s.flash := rfl
@[simp] theorem State.modRec_domains : (s.modRec f).domains = s.domains := rfl
@[simp] theorem State.modRec_crests : (s.modRec f).crests = s.crests := rfl
@[simp] theorem State.modRec_legs : (s.modRec f).legs = s.legs := rfl
@[simp] theorem State.modRec_groups : (s.modRec f).groups = s.groups := rfl
@[simp] theorem State.modRec_inputs : (s.modRec f).inputs = s.inputs := rfl
@[simp] theorem State.modRec_sds : (s.modRec f).sds = s.sds := rfl
@[simp] theorem State.modRec_channels : (s.modRec f).channels = s.channels := rfl
@[simp] theorem State.modRec_beforeTick : (s.modRec f).beforeTick = s.beforeTick := rfl
@[simp] theorem State.modRec_passes : (s.modRec f).passes = s.passes := rfl
@[simp] theorem State.modRec_excOff : (s.modRec f).excOff = s.excOff := rfl
@[simp] theorem State.modRec_axes : (s.modRec f).axes = s.axes := rfl
@[simp] theorem State.modRec_tables : (s.modRec f).tables = s.tables := rfl
@[simp] theorem State.modRec_units : (s.modRec f).units = s.units := rfl
@[simp] theorem State.modRec_compareOuts : (s.modRec f).compareOuts = s.compareOuts := rfl
@[simp] theorem State.modRec_migration : (s.modRec f).migration = s.migration := rfl
@[simp] theorem State.modRec_slices : (s.modRec f).slices = s.slices := rfl
@[simp] theorem State.modRec_slots : (s.modRec f).slots = s.slots := rfl
@[simp] theorem State.modRec_can : (s.modRec f).can = s.can := rfl
@[simp] theorem State.modRec_arbiter : (s.modRec f).arbiter = s.arbiter := rfl
@[simp] theorem State.modRec_safety : (s.modRec f).safety = s.safety := rfl
@[simp] theorem State.modRec_engine : (s.modRec f).engine = s.engine := rfl
@[simp] theorem State.modRec_svc : (s.modRec f).svc = s.svc := rfl
@[simp] theorem State.modRec_recorder : (s.modRec f).recorder = f s.recorder := rfl
@[simp] theorem State.modRec_net : (s.modRec f).net = s.net := rfl
@[simp] theorem State.modRec_power : (s.modRec f).power = s.power := rfl
@[simp] theorem State.modRec_log : (s.modRec f).log = s.log := rfl
@[simp] theorem State.modRec_out : (s.modRec f).out = s.out := rfl
@[simp] theorem State.modRec_draws : (s.modRec f).draws = s.draws := rfl
@[simp] theorem State.modRec_writeFlips : (s.modRec f).writeFlips = s.writeFlips := rfl
@[simp] theorem State.modRec_pending : (s.modRec f).pending = s.pending := rfl
end

/-! ### `State.modArb` -/

section
variable (s : State) (f : Arbiter → Arbiter)
@[simp] theorem State.modArb_ref : (s.modArb f).ref = s.ref := rfl
@[simp] theorem State.modArb_objs : (s.modArb f).objs = s.objs := rfl
@[simp] theorem State.modArb_staged : (s.modArb f).staged = s.staged := rfl
@[simp] theorem State.modArb_stagedAt : (s.modArb f).stagedAt = s.stagedAt := rfl
@[simp] theorem State.modArb_flash : (s.modArb f).flash = s.flash := rfl
@[simp] theorem State.modArb_domains : (s.modArb f).domains = s.domains := rfl
@[simp] theorem State.modArb_crests : (s.modArb f).crests = s.crests := rfl
@[simp] theorem State.modArb_legs : (s.modArb f).legs = s.legs := rfl
@[simp] theorem State.modArb_groups : (s.modArb f).groups = s.groups := rfl
@[simp] theorem State.modArb_inputs : (s.modArb f).inputs = s.inputs := rfl
@[simp] theorem State.modArb_sds : (s.modArb f).sds = s.sds := rfl
@[simp] theorem State.modArb_channels : (s.modArb f).channels = s.channels := rfl
@[simp] theorem State.modArb_beforeTick : (s.modArb f).beforeTick = s.beforeTick := rfl
@[simp] theorem State.modArb_passes : (s.modArb f).passes = s.passes := rfl
@[simp] theorem State.modArb_excOff : (s.modArb f).excOff = s.excOff := rfl
@[simp] theorem State.modArb_axes : (s.modArb f).axes = s.axes := rfl
@[simp] theorem State.modArb_tables : (s.modArb f).tables = s.tables := rfl
@[simp] theorem State.modArb_units : (s.modArb f).units = s.units := rfl
@[simp] theorem State.modArb_compareOuts : (s.modArb f).compareOuts = s.compareOuts := rfl
@[simp] theorem State.modArb_migration : (s.modArb f).migration = s.migration := rfl
@[simp] theorem State.modArb_slices : (s.modArb f).slices = s.slices := rfl
@[simp] theorem State.modArb_slots : (s.modArb f).slots = s.slots := rfl
@[simp] theorem State.modArb_can : (s.modArb f).can = s.can := rfl
@[simp] theorem State.modArb_arbiter : (s.modArb f).arbiter = f s.arbiter := rfl
@[simp] theorem State.modArb_safety : (s.modArb f).safety = s.safety := rfl
@[simp] theorem State.modArb_engine : (s.modArb f).engine = s.engine := rfl
@[simp] theorem State.modArb_svc : (s.modArb f).svc = s.svc := rfl
@[simp] theorem State.modArb_recorder : (s.modArb f).recorder = s.recorder := rfl
@[simp] theorem State.modArb_net : (s.modArb f).net = s.net := rfl
@[simp] theorem State.modArb_power : (s.modArb f).power = s.power := rfl
@[simp] theorem State.modArb_log : (s.modArb f).log = s.log := rfl
@[simp] theorem State.modArb_out : (s.modArb f).out = s.out := rfl
@[simp] theorem State.modArb_draws : (s.modArb f).draws = s.draws := rfl
@[simp] theorem State.modArb_writeFlips : (s.modArb f).writeFlips = s.writeFlips := rfl
@[simp] theorem State.modArb_pending : (s.modArb f).pending = s.pending := rfl
end

/-! ### `State.modReq` -/

section
variable (s : State) (r : Fin 18) (f : Requester → Requester)
@[simp] theorem State.modReq_ref : (s.modReq r f).ref = s.ref := rfl
@[simp] theorem State.modReq_objs : (s.modReq r f).objs = s.objs := rfl
@[simp] theorem State.modReq_staged : (s.modReq r f).staged = s.staged := rfl
@[simp] theorem State.modReq_stagedAt : (s.modReq r f).stagedAt = s.stagedAt := rfl
@[simp] theorem State.modReq_flash : (s.modReq r f).flash = s.flash := rfl
@[simp] theorem State.modReq_domains : (s.modReq r f).domains = s.domains := rfl
@[simp] theorem State.modReq_crests : (s.modReq r f).crests = s.crests := rfl
@[simp] theorem State.modReq_legs : (s.modReq r f).legs = s.legs := rfl
@[simp] theorem State.modReq_groups : (s.modReq r f).groups = s.groups := rfl
@[simp] theorem State.modReq_inputs : (s.modReq r f).inputs = s.inputs := rfl
@[simp] theorem State.modReq_sds : (s.modReq r f).sds = s.sds := rfl
@[simp] theorem State.modReq_channels : (s.modReq r f).channels = s.channels := rfl
@[simp] theorem State.modReq_beforeTick : (s.modReq r f).beforeTick = s.beforeTick := rfl
@[simp] theorem State.modReq_passes : (s.modReq r f).passes = s.passes := rfl
@[simp] theorem State.modReq_excOff : (s.modReq r f).excOff = s.excOff := rfl
@[simp] theorem State.modReq_axes : (s.modReq r f).axes = s.axes := rfl
@[simp] theorem State.modReq_tables : (s.modReq r f).tables = s.tables := rfl
@[simp] theorem State.modReq_units : (s.modReq r f).units = s.units := rfl
@[simp] theorem State.modReq_compareOuts : (s.modReq r f).compareOuts = s.compareOuts := rfl
@[simp] theorem State.modReq_migration : (s.modReq r f).migration = s.migration := rfl
@[simp] theorem State.modReq_slices : (s.modReq r f).slices = s.slices := rfl
@[simp] theorem State.modReq_slots : (s.modReq r f).slots = s.slots := rfl
@[simp] theorem State.modReq_can : (s.modReq r f).can = s.can := rfl
@[simp] theorem State.modReq_arbiter : (s.modReq r f).arbiter = { s.arbiter with reqs := s.arbiter.reqs.set r (f s.arbiter.reqs[r]) } := rfl
@[simp] theorem State.modReq_safety : (s.modReq r f).safety = s.safety := rfl
@[simp] theorem State.modReq_engine : (s.modReq r f).engine = s.engine := rfl
@[simp] theorem State.modReq_svc : (s.modReq r f).svc = s.svc := rfl
@[simp] theorem State.modReq_recorder : (s.modReq r f).recorder = s.recorder := rfl
@[simp] theorem State.modReq_net : (s.modReq r f).net = s.net := rfl
@[simp] theorem State.modReq_power : (s.modReq r f).power = s.power := rfl
@[simp] theorem State.modReq_log : (s.modReq r f).log = s.log := rfl
@[simp] theorem State.modReq_out : (s.modReq r f).out = s.out := rfl
@[simp] theorem State.modReq_draws : (s.modReq r f).draws = s.draws := rfl
@[simp] theorem State.modReq_writeFlips : (s.modReq r f).writeFlips = s.writeFlips := rfl
@[simp] theorem State.modReq_pending : (s.modReq r f).pending = s.pending := rfl
end

/-! ### `State.modFw` -/

section
variable (s : State) (k : FwN) (f : Firmware → Firmware)
@[simp] theorem State.modFw_ref : (s.modFw k f).ref = s.ref := rfl
@[simp] theorem State.modFw_objs : (s.modFw k f).objs = s.objs := rfl
@[simp] theorem State.modFw_staged : (s.modFw k f).staged = s.staged := rfl
@[simp] theorem State.modFw_stagedAt : (s.modFw k f).stagedAt = s.stagedAt := rfl
@[simp] theorem State.modFw_flash : (s.modFw k f).flash = s.flash := rfl
@[simp] theorem State.modFw_domains : (s.modFw k f).domains = s.domains := rfl
@[simp] theorem State.modFw_crests : (s.modFw k f).crests = s.crests := rfl
@[simp] theorem State.modFw_legs : (s.modFw k f).legs = s.legs := rfl
@[simp] theorem State.modFw_groups : (s.modFw k f).groups = s.groups := rfl
@[simp] theorem State.modFw_inputs : (s.modFw k f).inputs = s.inputs := rfl
@[simp] theorem State.modFw_sds : (s.modFw k f).sds = s.sds := rfl
@[simp] theorem State.modFw_channels : (s.modFw k f).channels = s.channels := rfl
@[simp] theorem State.modFw_beforeTick : (s.modFw k f).beforeTick = s.beforeTick := rfl
@[simp] theorem State.modFw_passes : (s.modFw k f).passes = s.passes := rfl
@[simp] theorem State.modFw_excOff : (s.modFw k f).excOff = s.excOff := rfl
@[simp] theorem State.modFw_axes : (s.modFw k f).axes = s.axes := rfl
@[simp] theorem State.modFw_tables : (s.modFw k f).tables = s.tables := rfl
@[simp] theorem State.modFw_units : (s.modFw k f).units = s.units := rfl
@[simp] theorem State.modFw_compareOuts : (s.modFw k f).compareOuts = s.compareOuts := rfl
@[simp] theorem State.modFw_migration : (s.modFw k f).migration = s.migration := rfl
@[simp] theorem State.modFw_slices : (s.modFw k f).slices = s.slices := rfl
@[simp] theorem State.modFw_slots : (s.modFw k f).slots = s.slots := rfl
@[simp] theorem State.modFw_can : (s.modFw k f).can = s.can := rfl
@[simp] theorem State.modFw_arbiter : (s.modFw k f).arbiter = s.arbiter := rfl
@[simp] theorem State.modFw_safety : (s.modFw k f).safety = s.safety := rfl
@[simp] theorem State.modFw_engine : (s.modFw k f).engine = s.engine := rfl
@[simp] theorem State.modFw_svc : (s.modFw k f).svc = s.svc := rfl
@[simp] theorem State.modFw_recorder : (s.modFw k f).recorder = s.recorder := rfl
@[simp] theorem State.modFw_net : (s.modFw k f).net = s.net := rfl
@[simp] theorem State.modFw_power : (s.modFw k f).power = { s.power with fw := s.power.fw.set k (f s.power.fw[k]) } := rfl
@[simp] theorem State.modFw_log : (s.modFw k f).log = s.log := rfl
@[simp] theorem State.modFw_out : (s.modFw k f).out = s.out := rfl
@[simp] theorem State.modFw_draws : (s.modFw k f).draws = s.draws := rfl
@[simp] theorem State.modFw_writeFlips : (s.modFw k f).writeFlips = s.writeFlips := rfl
@[simp] theorem State.modFw_pending : (s.modFw k f).pending = s.pending := rfl
end

/-! ### `State.modThr` -/

section
variable (s : State) (t : SvcN) (f : Thruster → Thruster)
@[simp] theorem State.modThr_ref : (s.modThr t f).ref = s.ref := rfl
@[simp] theorem State.modThr_objs : (s.modThr t f).objs = s.objs := rfl
@[simp] theorem State.modThr_staged : (s.modThr t f).staged = s.staged := rfl
@[simp] theorem State.modThr_stagedAt : (s.modThr t f).stagedAt = s.stagedAt := rfl
@[simp] theorem State.modThr_flash : (s.modThr t f).flash = s.flash := rfl
@[simp] theorem State.modThr_domains : (s.modThr t f).domains = s.domains := rfl
@[simp] theorem State.modThr_crests : (s.modThr t f).crests = s.crests := rfl
@[simp] theorem State.modThr_legs : (s.modThr t f).legs = s.legs := rfl
@[simp] theorem State.modThr_groups : (s.modThr t f).groups = s.groups := rfl
@[simp] theorem State.modThr_inputs : (s.modThr t f).inputs = s.inputs := rfl
@[simp] theorem State.modThr_sds : (s.modThr t f).sds = s.sds := rfl
@[simp] theorem State.modThr_channels : (s.modThr t f).channels = s.channels := rfl
@[simp] theorem State.modThr_beforeTick : (s.modThr t f).beforeTick = s.beforeTick := rfl
@[simp] theorem State.modThr_passes : (s.modThr t f).passes = s.passes := rfl
@[simp] theorem State.modThr_excOff : (s.modThr t f).excOff = s.excOff := rfl
@[simp] theorem State.modThr_axes : (s.modThr t f).axes = s.axes := rfl
@[simp] theorem State.modThr_tables : (s.modThr t f).tables = s.tables := rfl
@[simp] theorem State.modThr_units : (s.modThr t f).units = s.units := rfl
@[simp] theorem State.modThr_compareOuts : (s.modThr t f).compareOuts = s.compareOuts := rfl
@[simp] theorem State.modThr_migration : (s.modThr t f).migration = s.migration := rfl
@[simp] theorem State.modThr_slices : (s.modThr t f).slices = s.slices := rfl
@[simp] theorem State.modThr_slots : (s.modThr t f).slots = s.slots := rfl
@[simp] theorem State.modThr_can : (s.modThr t f).can = s.can := rfl
@[simp] theorem State.modThr_arbiter : (s.modThr t f).arbiter = s.arbiter := rfl
@[simp] theorem State.modThr_safety : (s.modThr t f).safety = s.safety := rfl
@[simp] theorem State.modThr_engine : (s.modThr t f).engine = s.engine := rfl
@[simp] theorem State.modThr_svc : (s.modThr t f).svc = { s.svc with thr := s.svc.thr.set t (f s.svc.thr[t]) } := rfl
@[simp] theorem State.modThr_recorder : (s.modThr t f).recorder = s.recorder := rfl
@[simp] theorem State.modThr_net : (s.modThr t f).net = s.net := rfl
@[simp] theorem State.modThr_power : (s.modThr t f).power = s.power := rfl
@[simp] theorem State.modThr_log : (s.modThr t f).log = s.log := rfl
@[simp] theorem State.modThr_out : (s.modThr t f).out = s.out := rfl
@[simp] theorem State.modThr_draws : (s.modThr t f).draws = s.draws := rfl
@[simp] theorem State.modThr_writeFlips : (s.modThr t f).writeFlips = s.writeFlips := rfl
@[simp] theorem State.modThr_pending : (s.modThr t f).pending = s.pending := rfl
end

/-! ### `State.modWinch` -/

section
variable (s : State) (t : SvcN) (f : Winch → Winch)
@[simp] theorem State.modWinch_ref : (s.modWinch t f).ref = s.ref := rfl
@[simp] theorem State.modWinch_objs : (s.modWinch t f).objs = s.objs := rfl
@[simp] theorem State.modWinch_staged : (s.modWinch t f).staged = s.staged := rfl
@[simp] theorem State.modWinch_stagedAt : (s.modWinch t f).stagedAt = s.stagedAt := rfl
@[simp] theorem State.modWinch_flash : (s.modWinch t f).flash = s.flash := rfl
@[simp] theorem State.modWinch_domains : (s.modWinch t f).domains = s.domains := rfl
@[simp] theorem State.modWinch_crests : (s.modWinch t f).crests = s.crests := rfl
@[simp] theorem State.modWinch_legs : (s.modWinch t f).legs = s.legs := rfl
@[simp] theorem State.modWinch_groups : (s.modWinch t f).groups = s.groups := rfl
@[simp] theorem State.modWinch_inputs : (s.modWinch t f).inputs = s.inputs := rfl
@[simp] theorem State.modWinch_sds : (s.modWinch t f).sds = s.sds := rfl
@[simp] theorem State.modWinch_channels : (s.modWinch t f).channels = s.channels := rfl
@[simp] theorem State.modWinch_beforeTick : (s.modWinch t f).beforeTick = s.beforeTick := rfl
@[simp] theorem State.modWinch_passes : (s.modWinch t f).passes = s.passes := rfl
@[simp] theorem State.modWinch_excOff : (s.modWinch t f).excOff = s.excOff := rfl
@[simp] theorem State.modWinch_axes : (s.modWinch t f).axes = s.axes := rfl
@[simp] theorem State.modWinch_tables : (s.modWinch t f).tables = s.tables := rfl
@[simp] theorem State.modWinch_units : (s.modWinch t f).units = s.units := rfl
@[simp] theorem State.modWinch_compareOuts : (s.modWinch t f).compareOuts = s.compareOuts := rfl
@[simp] theorem State.modWinch_migration : (s.modWinch t f).migration = s.migration := rfl
@[simp] theorem State.modWinch_slices : (s.modWinch t f).slices = s.slices := rfl
@[simp] theorem State.modWinch_slots : (s.modWinch t f).slots = s.slots := rfl
@[simp] theorem State.modWinch_can : (s.modWinch t f).can = s.can := rfl
@[simp] theorem State.modWinch_arbiter : (s.modWinch t f).arbiter = s.arbiter := rfl
@[simp] theorem State.modWinch_safety : (s.modWinch t f).safety = s.safety := rfl
@[simp] theorem State.modWinch_engine : (s.modWinch t f).engine = s.engine := rfl
@[simp] theorem State.modWinch_svc : (s.modWinch t f).svc = { s.svc with winch := s.svc.winch.set t (f s.svc.winch[t]) } := rfl
@[simp] theorem State.modWinch_recorder : (s.modWinch t f).recorder = s.recorder := rfl
@[simp] theorem State.modWinch_net : (s.modWinch t f).net = s.net := rfl
@[simp] theorem State.modWinch_power : (s.modWinch t f).power = s.power := rfl
@[simp] theorem State.modWinch_log : (s.modWinch t f).log = s.log := rfl
@[simp] theorem State.modWinch_out : (s.modWinch t f).out = s.out := rfl
@[simp] theorem State.modWinch_draws : (s.modWinch t f).draws = s.draws := rfl
@[simp] theorem State.modWinch_writeFlips : (s.modWinch t f).writeFlips = s.writeFlips := rfl
@[simp] theorem State.modWinch_pending : (s.modWinch t f).pending = s.pending := rfl
end

/-! ### `State.modBrake` -/

section
variable (s : State) (k : SbcN) (f : Brake → Brake)
@[simp] theorem State.modBrake_ref : (s.modBrake k f).ref = s.ref := rfl
@[simp] theorem State.modBrake_objs : (s.modBrake k f).objs = s.objs := rfl
@[simp] theorem State.modBrake_staged : (s.modBrake k f).staged = s.staged := rfl
@[simp] theorem State.modBrake_stagedAt : (s.modBrake k f).stagedAt = s.stagedAt := rfl
@[simp] theorem State.modBrake_flash : (s.modBrake k f).flash = s.flash := rfl
@[simp] theorem State.modBrake_domains : (s.modBrake k f).domains = s.domains := rfl
@[simp] theorem State.modBrake_crests : (s.modBrake k f).crests = s.crests := rfl
@[simp] theorem State.modBrake_legs : (s.modBrake k f).legs = s.legs := rfl
@[simp] theorem State.modBrake_groups : (s.modBrake k f).groups = s.groups := rfl
@[simp] theorem State.modBrake_inputs : (s.modBrake k f).inputs = s.inputs := rfl
@[simp] theorem State.modBrake_sds : (s.modBrake k f).sds = s.sds := rfl
@[simp] theorem State.modBrake_channels : (s.modBrake k f).channels = s.channels := rfl
@[simp] theorem State.modBrake_beforeTick : (s.modBrake k f).beforeTick = s.beforeTick := rfl
@[simp] theorem State.modBrake_passes : (s.modBrake k f).passes = s.passes := rfl
@[simp] theorem State.modBrake_excOff : (s.modBrake k f).excOff = s.excOff := rfl
@[simp] theorem State.modBrake_axes : (s.modBrake k f).axes = s.axes := rfl
@[simp] theorem State.modBrake_tables : (s.modBrake k f).tables = s.tables := rfl
@[simp] theorem State.modBrake_units : (s.modBrake k f).units = s.units := rfl
@[simp] theorem State.modBrake_compareOuts : (s.modBrake k f).compareOuts = s.compareOuts := rfl
@[simp] theorem State.modBrake_migration : (s.modBrake k f).migration = s.migration := rfl
@[simp] theorem State.modBrake_slices : (s.modBrake k f).slices = s.slices := rfl
@[simp] theorem State.modBrake_slots : (s.modBrake k f).slots = s.slots := rfl
@[simp] theorem State.modBrake_can : (s.modBrake k f).can = s.can := rfl
@[simp] theorem State.modBrake_arbiter : (s.modBrake k f).arbiter = s.arbiter := rfl
@[simp] theorem State.modBrake_safety : (s.modBrake k f).safety = { s.safety with brakes := s.safety.brakes.set k (f s.safety.brakes[k]) } := rfl
@[simp] theorem State.modBrake_engine : (s.modBrake k f).engine = s.engine := rfl
@[simp] theorem State.modBrake_svc : (s.modBrake k f).svc = s.svc := rfl
@[simp] theorem State.modBrake_recorder : (s.modBrake k f).recorder = s.recorder := rfl
@[simp] theorem State.modBrake_net : (s.modBrake k f).net = s.net := rfl
@[simp] theorem State.modBrake_power : (s.modBrake k f).power = s.power := rfl
@[simp] theorem State.modBrake_log : (s.modBrake k f).log = s.log := rfl
@[simp] theorem State.modBrake_out : (s.modBrake k f).out = s.out := rfl
@[simp] theorem State.modBrake_draws : (s.modBrake k f).draws = s.draws := rfl
@[simp] theorem State.modBrake_writeFlips : (s.modBrake k f).writeFlips = s.writeFlips := rfl
@[simp] theorem State.modBrake_pending : (s.modBrake k f).pending = s.pending := rfl
end

/-! ### `State.modConn` -/

section
variable (s : State) (j : ConnN) (f : Conn → Conn)
@[simp] theorem State.modConn_ref : (s.modConn j f).ref = s.ref := rfl
@[simp] theorem State.modConn_objs : (s.modConn j f).objs = s.objs := rfl
@[simp] theorem State.modConn_staged : (s.modConn j f).staged = s.staged := rfl
@[simp] theorem State.modConn_stagedAt : (s.modConn j f).stagedAt = s.stagedAt := rfl
@[simp] theorem State.modConn_flash : (s.modConn j f).flash = s.flash := rfl
@[simp] theorem State.modConn_domains : (s.modConn j f).domains = s.domains := rfl
@[simp] theorem State.modConn_crests : (s.modConn j f).crests = s.crests := rfl
@[simp] theorem State.modConn_legs : (s.modConn j f).legs = s.legs := rfl
@[simp] theorem State.modConn_groups : (s.modConn j f).groups = s.groups := rfl
@[simp] theorem State.modConn_inputs : (s.modConn j f).inputs = s.inputs := rfl
@[simp] theorem State.modConn_sds : (s.modConn j f).sds = s.sds := rfl
@[simp] theorem State.modConn_channels : (s.modConn j f).channels = s.channels := rfl
@[simp] theorem State.modConn_beforeTick : (s.modConn j f).beforeTick = s.beforeTick := rfl
@[simp] theorem State.modConn_passes : (s.modConn j f).passes = s.passes := rfl
@[simp] theorem State.modConn_excOff : (s.modConn j f).excOff = s.excOff := rfl
@[simp] theorem State.modConn_axes : (s.modConn j f).axes = s.axes := rfl
@[simp] theorem State.modConn_tables : (s.modConn j f).tables = s.tables := rfl
@[simp] theorem State.modConn_units : (s.modConn j f).units = s.units := rfl
@[simp] theorem State.modConn_compareOuts : (s.modConn j f).compareOuts = s.compareOuts := rfl
@[simp] theorem State.modConn_migration : (s.modConn j f).migration = s.migration := rfl
@[simp] theorem State.modConn_slices : (s.modConn j f).slices = s.slices := rfl
@[simp] theorem State.modConn_slots : (s.modConn j f).slots = s.slots := rfl
@[simp] theorem State.modConn_can : (s.modConn j f).can = s.can := rfl
@[simp] theorem State.modConn_arbiter : (s.modConn j f).arbiter = s.arbiter := rfl
@[simp] theorem State.modConn_safety : (s.modConn j f).safety = { s.safety with conns := s.safety.conns.set j (f s.safety.conns[j]) } := rfl
@[simp] theorem State.modConn_engine : (s.modConn j f).engine = s.engine := rfl
@[simp] theorem State.modConn_svc : (s.modConn j f).svc = s.svc := rfl
@[simp] theorem State.modConn_recorder : (s.modConn j f).recorder = s.recorder := rfl
@[simp] theorem State.modConn_net : (s.modConn j f).net = s.net := rfl
@[simp] theorem State.modConn_power : (s.modConn j f).power = s.power := rfl
@[simp] theorem State.modConn_log : (s.modConn j f).log = s.log := rfl
@[simp] theorem State.modConn_out : (s.modConn j f).out = s.out := rfl
@[simp] theorem State.modConn_draws : (s.modConn j f).draws = s.draws := rfl
@[simp] theorem State.modConn_writeFlips : (s.modConn j f).writeFlips = s.writeFlips := rfl
@[simp] theorem State.modConn_pending : (s.modConn j f).pending = s.pending := rfl
end

/-! ### `State.modSession` -/

section
variable (s : State) (k : Fin 8) (f : Session → Session)
@[simp] theorem State.modSession_ref : (s.modSession k f).ref = s.ref := rfl
@[simp] theorem State.modSession_objs : (s.modSession k f).objs = s.objs := rfl
@[simp] theorem State.modSession_staged : (s.modSession k f).staged = s.staged := rfl
@[simp] theorem State.modSession_stagedAt : (s.modSession k f).stagedAt = s.stagedAt := rfl
@[simp] theorem State.modSession_flash : (s.modSession k f).flash = s.flash := rfl
@[simp] theorem State.modSession_domains : (s.modSession k f).domains = s.domains := rfl
@[simp] theorem State.modSession_crests : (s.modSession k f).crests = s.crests := rfl
@[simp] theorem State.modSession_legs : (s.modSession k f).legs = s.legs := rfl
@[simp] theorem State.modSession_groups : (s.modSession k f).groups = s.groups := rfl
@[simp] theorem State.modSession_inputs : (s.modSession k f).inputs = s.inputs := rfl
@[simp] theorem State.modSession_sds : (s.modSession k f).sds = s.sds := rfl
@[simp] theorem State.modSession_channels : (s.modSession k f).channels = s.channels := rfl
@[simp] theorem State.modSession_beforeTick : (s.modSession k f).beforeTick = s.beforeTick := rfl
@[simp] theorem State.modSession_passes : (s.modSession k f).passes = s.passes := rfl
@[simp] theorem State.modSession_excOff : (s.modSession k f).excOff = s.excOff := rfl
@[simp] theorem State.modSession_axes : (s.modSession k f).axes = s.axes := rfl
@[simp] theorem State.modSession_tables : (s.modSession k f).tables = s.tables := rfl
@[simp] theorem State.modSession_units : (s.modSession k f).units = s.units := rfl
@[simp] theorem State.modSession_compareOuts : (s.modSession k f).compareOuts = s.compareOuts := rfl
@[simp] theorem State.modSession_migration : (s.modSession k f).migration = s.migration := rfl
@[simp] theorem State.modSession_slices : (s.modSession k f).slices = s.slices := rfl
@[simp] theorem State.modSession_slots : (s.modSession k f).slots = s.slots := rfl
@[simp] theorem State.modSession_can : (s.modSession k f).can = s.can := rfl
@[simp] theorem State.modSession_arbiter : (s.modSession k f).arbiter = s.arbiter := rfl
@[simp] theorem State.modSession_safety : (s.modSession k f).safety = s.safety := rfl
@[simp] theorem State.modSession_engine : (s.modSession k f).engine = s.engine := rfl
@[simp] theorem State.modSession_svc : (s.modSession k f).svc = s.svc := rfl
@[simp] theorem State.modSession_recorder : (s.modSession k f).recorder = s.recorder := rfl
@[simp] theorem State.modSession_net : (s.modSession k f).net = { s.net with sessions := s.net.sessions.set k (f s.net.sessions[k]) } := rfl
@[simp] theorem State.modSession_power : (s.modSession k f).power = s.power := rfl
@[simp] theorem State.modSession_log : (s.modSession k f).log = s.log := rfl
@[simp] theorem State.modSession_out : (s.modSession k f).out = s.out := rfl
@[simp] theorem State.modSession_draws : (s.modSession k f).draws = s.draws := rfl
@[simp] theorem State.modSession_writeFlips : (s.modSession k f).writeFlips = s.writeFlips := rfl
@[simp] theorem State.modSession_pending : (s.modSession k f).pending = s.pending := rfl
end

/-! ### `State.modEth` -/

section
variable (s : State) (p : EthN) (f : EthPort → EthPort)
@[simp] theorem State.modEth_ref : (s.modEth p f).ref = s.ref := rfl
@[simp] theorem State.modEth_objs : (s.modEth p f).objs = s.objs := rfl
@[simp] theorem State.modEth_staged : (s.modEth p f).staged = s.staged := rfl
@[simp] theorem State.modEth_stagedAt : (s.modEth p f).stagedAt = s.stagedAt := rfl
@[simp] theorem State.modEth_flash : (s.modEth p f).flash = s.flash := rfl
@[simp] theorem State.modEth_domains : (s.modEth p f).domains = s.domains := rfl
@[simp] theorem State.modEth_crests : (s.modEth p f).crests = s.crests := rfl
@[simp] theorem State.modEth_legs : (s.modEth p f).legs = s.legs := rfl
@[simp] theorem State.modEth_groups : (s.modEth p f).groups = s.groups := rfl
@[simp] theorem State.modEth_inputs : (s.modEth p f).inputs = s.inputs := rfl
@[simp] theorem State.modEth_sds : (s.modEth p f).sds = s.sds := rfl
@[simp] theorem State.modEth_channels : (s.modEth p f).channels = s.channels := rfl
@[simp] theorem State.modEth_beforeTick : (s.modEth p f).beforeTick = s.beforeTick := rfl
@[simp] theorem State.modEth_passes : (s.modEth p f).passes = s.passes := rfl
@[simp] theorem State.modEth_excOff : (s.modEth p f).excOff = s.excOff := rfl
@[simp] theorem State.modEth_axes : (s.modEth p f).axes = s.axes := rfl
@[simp] theorem State.modEth_tables : (s.modEth p f).tables = s.tables := rfl
@[simp] theorem State.modEth_units : (s.modEth p f).units = s.units := rfl
@[simp] theorem State.modEth_compareOuts : (s.modEth p f).compareOuts = s.compareOuts := rfl
@[simp] theorem State.modEth_migration : (s.modEth p f).migration = s.migration := rfl
@[simp] theorem State.modEth_slices : (s.modEth p f).slices = s.slices := rfl
@[simp] theorem State.modEth_slots : (s.modEth p f).slots = s.slots := rfl
@[simp] theorem State.modEth_can : (s.modEth p f).can = s.can := rfl
@[simp] theorem State.modEth_arbiter : (s.modEth p f).arbiter = s.arbiter := rfl
@[simp] theorem State.modEth_safety : (s.modEth p f).safety = s.safety := rfl
@[simp] theorem State.modEth_engine : (s.modEth p f).engine = s.engine := rfl
@[simp] theorem State.modEth_svc : (s.modEth p f).svc = s.svc := rfl
@[simp] theorem State.modEth_recorder : (s.modEth p f).recorder = s.recorder := rfl
@[simp] theorem State.modEth_net : (s.modEth p f).net = { s.net with ports := s.net.ports.set p (f s.net.ports[p]) } := rfl
@[simp] theorem State.modEth_power : (s.modEth p f).power = s.power := rfl
@[simp] theorem State.modEth_log : (s.modEth p f).log = s.log := rfl
@[simp] theorem State.modEth_out : (s.modEth p f).out = s.out := rfl
@[simp] theorem State.modEth_draws : (s.modEth p f).draws = s.draws := rfl
@[simp] theorem State.modEth_writeFlips : (s.modEth p f).writeFlips = s.writeFlips := rfl
@[simp] theorem State.modEth_pending : (s.modEth p f).pending = s.pending := rfl
end

/-! ### `State.modCyc` -/

section
variable (s : State) (k : CycN) (f : Cyclic → Cyclic)
@[simp] theorem State.modCyc_ref : (s.modCyc k f).ref = s.ref := rfl
@[simp] theorem State.modCyc_objs : (s.modCyc k f).objs = s.objs := rfl
@[simp] theorem State.modCyc_staged : (s.modCyc k f).staged = s.staged := rfl
@[simp] theorem State.modCyc_stagedAt : (s.modCyc k f).stagedAt = s.stagedAt := rfl
@[simp] theorem State.modCyc_flash : (s.modCyc k f).flash = s.flash := rfl
@[simp] theorem State.modCyc_domains : (s.modCyc k f).domains = s.domains := rfl
@[simp] theorem State.modCyc_crests : (s.modCyc k f).crests = s.crests := rfl
@[simp] theorem State.modCyc_legs : (s.modCyc k f).legs = s.legs := rfl
@[simp] theorem State.modCyc_groups : (s.modCyc k f).groups = s.groups := rfl
@[simp] theorem State.modCyc_inputs : (s.modCyc k f).inputs = s.inputs := rfl
@[simp] theorem State.modCyc_sds : (s.modCyc k f).sds = s.sds := rfl
@[simp] theorem State.modCyc_channels : (s.modCyc k f).channels = s.channels := rfl
@[simp] theorem State.modCyc_beforeTick : (s.modCyc k f).beforeTick = s.beforeTick := rfl
@[simp] theorem State.modCyc_passes : (s.modCyc k f).passes = s.passes := rfl
@[simp] theorem State.modCyc_excOff : (s.modCyc k f).excOff = s.excOff := rfl
@[simp] theorem State.modCyc_axes : (s.modCyc k f).axes = s.axes := rfl
@[simp] theorem State.modCyc_tables : (s.modCyc k f).tables = s.tables := rfl
@[simp] theorem State.modCyc_units : (s.modCyc k f).units = s.units := rfl
@[simp] theorem State.modCyc_compareOuts : (s.modCyc k f).compareOuts = s.compareOuts := rfl
@[simp] theorem State.modCyc_migration : (s.modCyc k f).migration = s.migration := rfl
@[simp] theorem State.modCyc_slices : (s.modCyc k f).slices = s.slices := rfl
@[simp] theorem State.modCyc_slots : (s.modCyc k f).slots = s.slots := rfl
@[simp] theorem State.modCyc_can : (s.modCyc k f).can = s.can := rfl
@[simp] theorem State.modCyc_arbiter : (s.modCyc k f).arbiter = s.arbiter := rfl
@[simp] theorem State.modCyc_safety : (s.modCyc k f).safety = s.safety := rfl
@[simp] theorem State.modCyc_engine : (s.modCyc k f).engine = s.engine := rfl
@[simp] theorem State.modCyc_svc : (s.modCyc k f).svc = s.svc := rfl
@[simp] theorem State.modCyc_recorder : (s.modCyc k f).recorder = s.recorder := rfl
@[simp] theorem State.modCyc_net : (s.modCyc k f).net = { s.net with cyclic := s.net.cyclic.set k (f s.net.cyclic[k]) } := rfl
@[simp] theorem State.modCyc_power : (s.modCyc k f).power = s.power := rfl
@[simp] theorem State.modCyc_log : (s.modCyc k f).log = s.log := rfl
@[simp] theorem State.modCyc_out : (s.modCyc k f).out = s.out := rfl
@[simp] theorem State.modCyc_draws : (s.modCyc k f).draws = s.draws := rfl
@[simp] theorem State.modCyc_writeFlips : (s.modCyc k f).writeFlips = s.writeFlips := rfl
@[simp] theorem State.modCyc_pending : (s.modCyc k f).pending = s.pending := rfl
end

/-! ### `State.emit` -/

section
variable (s : State) (o : Output)
@[simp] theorem State.emit_ref : (s.emit o).ref = s.ref := rfl
@[simp] theorem State.emit_objs : (s.emit o).objs = s.objs := rfl
@[simp] theorem State.emit_staged : (s.emit o).staged = s.staged := rfl
@[simp] theorem State.emit_stagedAt : (s.emit o).stagedAt = s.stagedAt := rfl
@[simp] theorem State.emit_flash : (s.emit o).flash = s.flash := rfl
@[simp] theorem State.emit_domains : (s.emit o).domains = s.domains := rfl
@[simp] theorem State.emit_crests : (s.emit o).crests = s.crests := rfl
@[simp] theorem State.emit_legs : (s.emit o).legs = s.legs := rfl
@[simp] theorem State.emit_groups : (s.emit o).groups = s.groups := rfl
@[simp] theorem State.emit_inputs : (s.emit o).inputs = s.inputs := rfl
@[simp] theorem State.emit_sds : (s.emit o).sds = s.sds := rfl
@[simp] theorem State.emit_channels : (s.emit o).channels = s.channels := rfl
@[simp] theorem State.emit_beforeTick : (s.emit o).beforeTick = s.beforeTick := rfl
@[simp] theorem State.emit_passes : (s.emit o).passes = s.passes := rfl
@[simp] theorem State.emit_excOff : (s.emit o).excOff = s.excOff := rfl
@[simp] theorem State.emit_axes : (s.emit o).axes = s.axes := rfl
@[simp] theorem State.emit_tables : (s.emit o).tables = s.tables := rfl
@[simp] theorem State.emit_units : (s.emit o).units = s.units := rfl
@[simp] theorem State.emit_compareOuts : (s.emit o).compareOuts = s.compareOuts := rfl
@[simp] theorem State.emit_migration : (s.emit o).migration = s.migration := rfl
@[simp] theorem State.emit_slices : (s.emit o).slices = s.slices := rfl
@[simp] theorem State.emit_slots : (s.emit o).slots = s.slots := rfl
@[simp] theorem State.emit_can : (s.emit o).can = s.can := rfl
@[simp] theorem State.emit_arbiter : (s.emit o).arbiter = s.arbiter := rfl
@[simp] theorem State.emit_safety : (s.emit o).safety = s.safety := rfl
@[simp] theorem State.emit_engine : (s.emit o).engine = s.engine := rfl
@[simp] theorem State.emit_svc : (s.emit o).svc = s.svc := rfl
@[simp] theorem State.emit_recorder : (s.emit o).recorder = s.recorder := rfl
@[simp] theorem State.emit_net : (s.emit o).net = s.net := rfl
@[simp] theorem State.emit_power : (s.emit o).power = s.power := rfl
@[simp] theorem State.emit_log : (s.emit o).log = s.log := rfl
@[simp] theorem State.emit_out : (s.emit o).out = o :: s.out := rfl
@[simp] theorem State.emit_draws : (s.emit o).draws = s.draws := rfl
@[simp] theorem State.emit_writeFlips : (s.emit o).writeFlips = s.writeFlips := rfl
@[simp] theorem State.emit_pending : (s.emit o).pending = s.pending := rfl
end

/-! ### `State.setObj` -/

section
variable (s : State) (n : Nat) (v : Int)
@[simp] theorem State.setObj_ref : (s.setObj n v).ref = s.ref := rfl
@[simp] theorem State.setObj_objs : (s.setObj n v).objs = storeSet s.objs n v := rfl
@[simp] theorem State.setObj_staged : (s.setObj n v).staged = s.staged := rfl
@[simp] theorem State.setObj_stagedAt : (s.setObj n v).stagedAt = s.stagedAt := rfl
@[simp] theorem State.setObj_flash : (s.setObj n v).flash = s.flash := rfl
@[simp] theorem State.setObj_domains : (s.setObj n v).domains = s.domains := rfl
@[simp] theorem State.setObj_crests : (s.setObj n v).crests = s.crests := rfl
@[simp] theorem State.setObj_legs : (s.setObj n v).legs = s.legs := rfl
@[simp] theorem State.setObj_groups : (s.setObj n v).groups = s.groups := rfl
@[simp] theorem State.setObj_inputs : (s.setObj n v).inputs = s.inputs := rfl
@[simp] theorem State.setObj_sds : (s.setObj n v).sds = s.sds := rfl
@[simp] theorem State.setObj_channels : (s.setObj n v).channels = s.channels := rfl
@[simp] theorem State.setObj_beforeTick : (s.setObj n v).beforeTick = s.beforeTick := rfl
@[simp] theorem State.setObj_passes : (s.setObj n v).passes = s.passes := rfl
@[simp] theorem State.setObj_excOff : (s.setObj n v).excOff = s.excOff := rfl
@[simp] theorem State.setObj_axes : (s.setObj n v).axes = s.axes := rfl
@[simp] theorem State.setObj_tables : (s.setObj n v).tables = s.tables := rfl
@[simp] theorem State.setObj_units : (s.setObj n v).units = s.units := rfl
@[simp] theorem State.setObj_compareOuts : (s.setObj n v).compareOuts = s.compareOuts := rfl
@[simp] theorem State.setObj_migration : (s.setObj n v).migration = s.migration := rfl
@[simp] theorem State.setObj_slices : (s.setObj n v).slices = s.slices := rfl
@[simp] theorem State.setObj_slots : (s.setObj n v).slots = s.slots := rfl
@[simp] theorem State.setObj_can : (s.setObj n v).can = s.can := rfl
@[simp] theorem State.setObj_arbiter : (s.setObj n v).arbiter = s.arbiter := rfl
@[simp] theorem State.setObj_safety : (s.setObj n v).safety = s.safety := rfl
@[simp] theorem State.setObj_engine : (s.setObj n v).engine = s.engine := rfl
@[simp] theorem State.setObj_svc : (s.setObj n v).svc = s.svc := rfl
@[simp] theorem State.setObj_recorder : (s.setObj n v).recorder = s.recorder := rfl
@[simp] theorem State.setObj_net : (s.setObj n v).net = s.net := rfl
@[simp] theorem State.setObj_power : (s.setObj n v).power = s.power := rfl
@[simp] theorem State.setObj_log : (s.setObj n v).log = s.log := rfl
@[simp] theorem State.setObj_out : (s.setObj n v).out = s.out := rfl
@[simp] theorem State.setObj_draws : (s.setObj n v).draws = s.draws := rfl
@[simp] theorem State.setObj_writeFlips : (s.setObj n v).writeFlips = s.writeFlips := rfl
@[simp] theorem State.setObj_pending : (s.setObj n v).pending = s.pending := rfl
end

/-! ### `State.stage` -/

section
variable (s : State) (n : Nat) (v : Int)
@[simp] theorem State.stage_ref : (s.stage n v).ref = s.ref := rfl
@[simp] theorem State.stage_objs : (s.stage n v).objs = s.objs := rfl
@[simp] theorem State.stage_staged : (s.stage n v).staged = storePut s.staged n v := rfl
@[simp] theorem State.stage_stagedAt : (s.stage n v).stagedAt = storePut s.stagedAt n s.ref.time := rfl
@[simp] theorem State.stage_flash : (s.stage n v).flash = s.flash := rfl
@[simp] theorem State.stage_domains : (s.stage n v).domains = s.domains := rfl
@[simp] theorem State.stage_crests : (s.stage n v).crests = s.crests := rfl
@[simp] theorem State.stage_legs : (s.stage n v).legs = s.legs := rfl
@[simp] theorem State.stage_groups : (s.stage n v).groups = s.groups := rfl
@[simp] theorem State.stage_inputs : (s.stage n v).inputs = s.inputs := rfl
@[simp] theorem State.stage_sds : (s.stage n v).sds = s.sds := rfl
@[simp] theorem State.stage_channels : (s.stage n v).channels = s.channels := rfl
@[simp] theorem State.stage_beforeTick : (s.stage n v).beforeTick = s.beforeTick := rfl
@[simp] theorem State.stage_passes : (s.stage n v).passes = s.passes := rfl
@[simp] theorem State.stage_excOff : (s.stage n v).excOff = s.excOff := rfl
@[simp] theorem State.stage_axes : (s.stage n v).axes = s.axes := rfl
@[simp] theorem State.stage_tables : (s.stage n v).tables = s.tables := rfl
@[simp] theorem State.stage_units : (s.stage n v).units = s.units := rfl
@[simp] theorem State.stage_compareOuts : (s.stage n v).compareOuts = s.compareOuts := rfl
@[simp] theorem State.stage_migration : (s.stage n v).migration = s.migration := rfl
@[simp] theorem State.stage_slices : (s.stage n v).slices = s.slices := rfl
@[simp] theorem State.stage_slots : (s.stage n v).slots = s.slots := rfl
@[simp] theorem State.stage_can : (s.stage n v).can = s.can := rfl
@[simp] theorem State.stage_arbiter : (s.stage n v).arbiter = s.arbiter := rfl
@[simp] theorem State.stage_safety : (s.stage n v).safety = s.safety := rfl
@[simp] theorem State.stage_engine : (s.stage n v).engine = s.engine := rfl
@[simp] theorem State.stage_svc : (s.stage n v).svc = s.svc := rfl
@[simp] theorem State.stage_recorder : (s.stage n v).recorder = s.recorder := rfl
@[simp] theorem State.stage_net : (s.stage n v).net = s.net := rfl
@[simp] theorem State.stage_power : (s.stage n v).power = s.power := rfl
@[simp] theorem State.stage_log : (s.stage n v).log = s.log := rfl
@[simp] theorem State.stage_out : (s.stage n v).out = s.out := rfl
@[simp] theorem State.stage_draws : (s.stage n v).draws = s.draws := rfl
@[simp] theorem State.stage_writeFlips : (s.stage n v).writeFlips = s.writeFlips := rfl
@[simp] theorem State.stage_pending : (s.stage n v).pending = s.pending := rfl
end

/-! ### `State.unstage` -/

section
variable (s : State) (n : Nat)
@[simp] theorem State.unstage_ref : (s.unstage n).ref = s.ref := rfl
@[simp] theorem State.unstage_objs : (s.unstage n).objs = s.objs := rfl
@[simp] theorem State.unstage_staged : (s.unstage n).staged = storeErase s.staged n := rfl
@[simp] theorem State.unstage_stagedAt : (s.unstage n).stagedAt = storeErase s.stagedAt n := rfl
@[simp] theorem State.unstage_flash : (s.unstage n).flash = s.flash := rfl
@[simp] theorem State.unstage_domains : (s.unstage n).domains = s.domains := rfl
@[simp] theorem State.unstage_crests : (s.unstage n).crests = s.crests := rfl
@[simp] theorem State.unstage_legs : (s.unstage n).legs = s.legs := rfl
@[simp] theorem State.unstage_groups : (s.unstage n).groups = s.groups := rfl
@[simp] theorem State.unstage_inputs : (s.unstage n).inputs = s.inputs := rfl
@[simp] theorem State.unstage_sds : (s.unstage n).sds = s.sds := rfl
@[simp] theorem State.unstage_channels : (s.unstage n).channels = s.channels := rfl
@[simp] theorem State.unstage_beforeTick : (s.unstage n).beforeTick = s.beforeTick := rfl
@[simp] theorem State.unstage_passes : (s.unstage n).passes = s.passes := rfl
@[simp] theorem State.unstage_excOff : (s.unstage n).excOff = s.excOff := rfl
@[simp] theorem State.unstage_axes : (s.unstage n).axes = s.axes := rfl
@[simp] theorem State.unstage_tables : (s.unstage n).tables = s.tables := rfl
@[simp] theorem State.unstage_units : (s.unstage n).units = s.units := rfl
@[simp] theorem State.unstage_compareOuts : (s.unstage n).compareOuts = s.compareOuts := rfl
@[simp] theorem State.unstage_migration : (s.unstage n).migration = s.migration := rfl
@[simp] theorem State.unstage_slices : (s.unstage n).slices = s.slices := rfl
@[simp] theorem State.unstage_slots : (s.unstage n).slots = s.slots := rfl
@[simp] theorem State.unstage_can : (s.unstage n).can = s.can := rfl
@[simp] theorem State.unstage_arbiter : (s.unstage n).arbiter = s.arbiter := rfl
@[simp] theorem State.unstage_safety : (s.unstage n).safety = s.safety := rfl
@[simp] theorem State.unstage_engine : (s.unstage n).engine = s.engine := rfl
@[simp] theorem State.unstage_svc : (s.unstage n).svc = s.svc := rfl
@[simp] theorem State.unstage_recorder : (s.unstage n).recorder = s.recorder := rfl
@[simp] theorem State.unstage_net : (s.unstage n).net = s.net := rfl
@[simp] theorem State.unstage_power : (s.unstage n).power = s.power := rfl
@[simp] theorem State.unstage_log : (s.unstage n).log = s.log := rfl
@[simp] theorem State.unstage_out : (s.unstage n).out = s.out := rfl
@[simp] theorem State.unstage_draws : (s.unstage n).draws = s.draws := rfl
@[simp] theorem State.unstage_writeFlips : (s.unstage n).writeFlips = s.writeFlips := rfl
@[simp] theorem State.unstage_pending : (s.unstage n).pending = s.pending := rfl
end

/-! ### The instance updated and the others -/

/-- Axis a after its update. -/
@[simp] theorem State.modAxis_same (s : State) (a : AxisN) (f : Axis → Axis) : (s.modAxis a f).axis a = f (s.axis a) := by
  simp [State.axis]
/-- Another axis after the update of axis a. -/
theorem State.modAxis_other (s : State) (a b : AxisN) (f : Axis → Axis) (h : b ≠ a) :
    (s.modAxis a f).axis b = s.axis b := by
  have : a.val ≠ b.val := fun e => h (Fin.ext e.symm)
  simp [State.axis, this]
/-- Leg l after its update. -/
@[simp] theorem State.modLeg_same (s : State) (l : LegN) (f : Leg → Leg) : (s.modLeg l f).leg l = f (s.leg l) := by
  simp [State.leg]
/-- Another leg after the update of leg l. -/
theorem State.modLeg_other (s : State) (l k : LegN) (f : Leg → Leg) (h : k ≠ l) :
    (s.modLeg l f).leg k = s.leg k := by
  have : l.val ≠ k.val := fun e => h (Fin.ext e.symm)
  simp [State.leg, this]

@[simp] theorem State.modField_same (s : State) (a : AxisN) (f : Field → Field) :
    (s.modField a f).axis a = { s.axis a with field := f (s.axis a).field } := State.modAxis_same ..
theorem State.modField_other (s : State) (a b : AxisN) (f : Field → Field) (h : b ≠ a) :
    (s.modField a f).axis b = s.axis b := State.modAxis_other _ _ _ _ h
@[simp] theorem State.modReact_same (s : State) (a : AxisN) (f : ReactionLogic → ReactionLogic) :
    (s.modReact a f).axis a = { s.axis a with reaction := f (s.axis a).reaction } := State.modAxis_same ..
theorem State.modReact_other (s : State) (a b : AxisN) (f : ReactionLogic → ReactionLogic) (h : b ≠ a) :
    (s.modReact a f).axis b = s.axis b := State.modAxis_other _ _ _ _ h
@[simp] theorem State.modSaddle_same (s : State) (a : AxisN) (f : Saddle → Saddle) :
    (s.modSaddle a f).axis a = { s.axis a with saddle := f (s.axis a).saddle } := State.modAxis_same ..
theorem State.modSaddle_other (s : State) (a b : AxisN) (f : Saddle → Saddle) (h : b ≠ a) :
    (s.modSaddle a f).axis b = s.axis b := State.modAxis_other _ _ _ _ h
@[simp] theorem State.modStep_same (s : State) (a : AxisN) (f : Stepper → Stepper) :
    (s.modStep a f).axis a = { s.axis a with step := f (s.axis a).step } := State.modAxis_same ..
theorem State.modStep_other (s : State) (a b : AxisN) (f : Stepper → Stepper) (h : b ≠ a) :
    (s.modStep a f).axis b = s.axis b := State.modAxis_other _ _ _ _ h
@[simp] theorem State.modProf_same (s : State) (a : AxisN) (f : Profile → Profile) :
    (s.modProf a f).axis a = { s.axis a with prof := f (s.axis a).prof } := State.modAxis_same ..
theorem State.modProf_other (s : State) (a b : AxisN) (f : Profile → Profile) (h : b ≠ a) :
    (s.modProf a f).axis b = s.axis b := State.modAxis_other _ _ _ _ h
@[simp] theorem State.modHome_same (s : State) (a : AxisN) (f : Homing → Homing) :
    (s.modHome a f).axis a = { s.axis a with home := f (s.axis a).home } := State.modAxis_same ..
theorem State.modHome_other (s : State) (a b : AxisN) (f : Homing → Homing) (h : b ≠ a) :
    (s.modHome a f).axis b = s.axis b := State.modAxis_other _ _ _ _ h
@[simp] theorem State.modMember_same (s : State) (a : AxisN) (f : Member → Member) :
    (s.modMember a f).axis a = { s.axis a with member := f (s.axis a).member } := State.modAxis_same ..
theorem State.modMember_other (s : State) (a b : AxisN) (f : Member → Member) (h : b ≠ a) :
    (s.modMember a f).axis b = s.axis b := State.modAxis_other _ _ _ _ h
@[simp] theorem State.modSafe_same (s : State) (a : AxisN) (f : SafeAxis → SafeAxis) :
    (s.modSafe a f).axis a = { s.axis a with safe := f (s.axis a).safe } := State.modAxis_same ..
theorem State.modSafe_other (s : State) (a b : AxisN) (f : SafeAxis → SafeAxis) (h : b ≠ a) :
    (s.modSafe a f).axis b = s.axis b := State.modAxis_other _ _ _ _ h

end Sys2Proof.Machine
end

