-- ==== Sys2Proof/Laws/Stores.lean ====
section
/-! SUPPORT. The dictionary's stores: what a read gives after a write, and that every operation keeps the canonical
form. -/

namespace Sys2Proof.Machine

/-- Every listed address is above `n`. -/
def storeAbove (n : Nat) (m : Store) : Prop := ∀ p ∈ m, n < p.1

/-- A store is sorted when its head is below the rest and the rest is sorted. -/
theorem storeSorted_cons (p : Nat × Int) (m : Store) :
    storeSorted (p :: m) = true ↔ storeAbove p.1 m ∧ storeSorted m = true := by
  induction m generalizing p with
  | nil => simp [storeSorted, storeAbove]
  | cons q m ih =>
    have hq := ih q
    simp only [storeSorted, Bool.and_eq_true, decide_eq_true_eq, storeAbove, List.mem_cons, forall_eq_or_imp]
    constructor
    · rintro ⟨h, hs⟩
      refine ⟨⟨h, fun r hr => ?_⟩, hs⟩
      exact Nat.lt_trans h ((hq.1 hs).1 r hr)
    · rintro ⟨⟨h, _⟩, hs⟩
      exact ⟨h, hs⟩

/-- Nothing at or below the bound is listed. -/
theorem storeGet_above {n : Nat} {m : Store} (h : storeAbove n m) {a : Nat} (ha : a ≤ n) : storeGet m a = none := by
  cases m with
  | nil => rfl
  | cons p m =>
    have : a < p.1 := Nat.lt_of_le_of_lt ha (h p (by simp))
    simp [storeGet, this]

/-- A put value reads back. -/
@[simp] theorem storeGet_put (m : Store) (a : Nat) (v : Int) : storeGet (storePut m a v) a = some v := by
  induction m with
  | nil => simp [storePut, storeGet]
  | cons p m ih =>
    rcases Nat.lt_trichotomy a p.1 with h | h | h
    · simp [storePut, storeGet, h]
    · simp [storePut, storeGet, h]
    · have h1 : ¬ a < p.1 := by omega
      have h2 : ¬ a = p.1 := by omega
      simp [storePut, storeGet, h1, h2, ih]

/-- A put leaves every other address as it was. -/
theorem storeGet_put_other (m : Store) {a b : Nat} (v : Int) (h : b ≠ a) : storeGet (storePut m a v) b = storeGet m b := by
  induction m with
  | nil =>
    by_cases hb : b < a <;> simp [storePut, storeGet, h]
  | cons p m ih =>
    rcases Nat.lt_trichotomy a p.1 with hp | hp | hp
    · by_cases hb : b < a
      · have : b < p.1 := by omega
        simp [storePut, storeGet, hp, hb, this]
      · simp [storePut, storeGet, hp, hb, h]
    · subst hp
      simp [storePut, storeGet, h]
    · have h1 : ¬ a < p.1 := by omega
      have h2 : ¬ a = p.1 := by omega
      simp only [storePut, h1, h2, if_false, storeGet, ih]

/-- An erase leaves every other address of a sorted store as it was. -/
theorem storeGet_erase_other {m : Store} (hs : storeSorted m = true) {a b : Nat} (h : b ≠ a) :
    storeGet (storeErase m a) b = storeGet m b := by
  induction m with
  | nil => rfl
  | cons p m ih =>
    obtain ⟨ha, hm⟩ := (storeSorted_cons p m).1 hs
    rcases Nat.lt_trichotomy a p.1 with hp | hp | hp
    · simp [storeErase, hp]
    · subst hp
      simp only [storeErase, Nat.lt_irrefl, if_false, if_true, storeGet, h]
      by_cases hb : b < p.1
      · simp [hb, storeGet_above ha (by omega : b ≤ p.1)]
      · simp [hb]
    · have h1 : ¬ a < p.1 := by omega
      have h2 : ¬ a = p.1 := by omega
      simp only [storeErase, h1, h2, if_false, storeGet, ih hm]

/-- An erased address of a sorted store is not listed. -/
theorem storeGet_erase {m : Store} (hs : storeSorted m = true) (a : Nat) : storeGet (storeErase m a) a = none := by
  induction m with
  | nil => rfl
  | cons p m ih =>
    obtain ⟨ha, hm⟩ := (storeSorted_cons p m).1 hs
    rcases Nat.lt_trichotomy a p.1 with hp | hp | hp
    · simp [storeErase, storeGet, hp]
    · subst hp
      simp [storeErase, storeGet_above ha (Nat.le_refl _)]
    · have h1 : ¬ a < p.1 := by omega
      have h2 : ¬ a = p.1 := by omega
      simp only [storeErase, h1, h2, if_false, storeGet, ih hm]

/-- What a put lists: the new pair, or a pair that was listed. -/
theorem mem_storePut {m : Store} {a : Nat} {v : Int} {p : Nat × Int} (h : p ∈ storePut m a v) : p = (a, v) ∨ p ∈ m := by
  induction m with
  | nil => simpa [storePut] using h
  | cons q m ih =>
    unfold storePut at h
    split at h
    · simpa using h
    · split at h
      · rcases List.mem_cons.1 h with h | h
        · exact .inl h
        · exact .inr (List.mem_cons_of_mem _ h)
      · rcases List.mem_cons.1 h with h | h
        · exact .inr (h ▸ List.mem_cons_self)
        · exact (ih h).imp id (List.mem_cons_of_mem _)

/-- What an erase lists was listed. -/
theorem mem_storeErase {m : Store} {a : Nat} {p : Nat × Int} (h : p ∈ storeErase m a) : p ∈ m := by
  induction m with
  | nil => simp [storeErase] at h
  | cons q m ih =>
    unfold storeErase at h
    split at h
    · exact h
    · split at h
      · exact List.mem_cons_of_mem _ h
      · rcases List.mem_cons.1 h with h | h
        · exact h ▸ List.mem_cons_self
        · exact List.mem_cons_of_mem _ (ih h)

/-- A put keeps the order. -/
theorem storeSorted_put {m : Store} (hs : storeSorted m = true) (a : Nat) (v : Int) : storeSorted (storePut m a v) = true := by
  induction m with
  | nil => rfl
  | cons p m ih =>
    obtain ⟨ha, hm⟩ := (storeSorted_cons p m).1 hs
    unfold storePut
    split
    · rename_i h
      refine (storeSorted_cons _ _).2 ⟨fun q hq => ?_, hs⟩
      rcases List.mem_cons.1 hq with rfl | hq
      · exact h
      · exact Nat.lt_trans h (ha q hq)
    · split
      · rename_i h
        exact (storeSorted_cons _ _).2 ⟨fun q hq => by simpa [h] using ha q hq, hm⟩
      · refine (storeSorted_cons _ _).2 ⟨fun q hq => ?_, ih hm⟩
        rcases mem_storePut hq with rfl | hq
        · simp only; omega
        · exact ha q hq

/-- An erase keeps the order. -/
theorem storeSorted_erase {m : Store} (hs : storeSorted m = true) (a : Nat) : storeSorted (storeErase m a) = true := by
  induction m with
  | nil => rfl
  | cons p m ih =>
    obtain ⟨ha, hm⟩ := (storeSorted_cons p m).1 hs
    unfold storeErase
    split
    · exact hs
    · split
      · exact hm
      · exact (storeSorted_cons _ _).2 ⟨fun q hq => ha q (mem_storeErase hq), ih hm⟩

/-- A selection keeps the order. -/
theorem storeSorted_filter {m : Store} (hs : storeSorted m = true) (f : Nat × Int → Bool) :
    storeSorted (m.filter f) = true := by
  induction m with
  | nil => rfl
  | cons p m ih =>
    obtain ⟨ha, hm⟩ := (storeSorted_cons p m).1 hs
    by_cases hf : f p = true
    · rw [List.filter_cons_of_pos hf]
      exact (storeSorted_cons _ _).2 ⟨fun q hq => ha q (List.mem_filter.1 hq).1, ih hm⟩
    · rw [List.filter_cons_of_neg hf]
      exact ih hm

/-- The canonical form, as order and no default listed. -/
theorem storeWf_iff (m : Store) : storeWf m = true ↔ storeSorted m = true ∧ ∀ p ∈ m, p.2 ≠ defaultOf p.1 := by
  simp [storeWf]

/-- A set keeps the canonical form. -/
theorem storeWf_set {m : Store} (h : storeWf m = true) (a : Nat) (v : Int) : storeWf (storeSet m a v) = true := by
  obtain ⟨hs, hd⟩ := (storeWf_iff m).1 h
  unfold storeSet
  split
  · exact (storeWf_iff _).2 ⟨storeSorted_erase hs a, fun p hp => hd p (mem_storeErase hp)⟩
  · rename_i hv
    refine (storeWf_iff _).2 ⟨storeSorted_put hs a v, fun p hp => ?_⟩
    rcases mem_storePut hp with rfl | hp
    · exact hv
    · exact hd p hp

/-- A run of sets keeps the canonical form. -/
theorem storeWf_sets {m : Store} (h : storeWf m = true) (l : List (Nat × Int)) :
    storeWf (l.foldl (fun m p => storeSet m p.1 p.2) m) = true := by
  induction l generalizing m with
  | nil => exact h
  | cons p l ih => exact ih (storeWf_set h p.1 p.2)

/-- A selection keeps the canonical form. -/
theorem storeWf_filter {m : Store} (h : storeWf m = true) (f : Nat × Int → Bool) : storeWf (m.filter f) = true := by
  obtain ⟨hs, hd⟩ := (storeWf_iff m).1 h
  exact (storeWf_iff _).2 ⟨storeSorted_filter hs f, fun p hp => hd p (List.mem_filter.1 hp).1⟩

/-- What a set value reads as. -/
theorem storeGet_set {m : Store} (hs : storeSorted m = true) (a : Nat) (v : Int) :
    (storeGet (storeSet m a v) a).getD (defaultOf a) = v := by
  unfold storeSet
  split
  · rename_i h
    simp [storeGet_erase hs, h]
  · simp

/-- A set leaves every other address as it was. -/
theorem storeGet_set_other {m : Store} (hs : storeSorted m = true) {a b : Nat} (v : Int) (h : b ≠ a) :
    storeGet (storeSet m a v) b = storeGet m b := by
  unfold storeSet
  split
  · exact storeGet_erase_other hs h
  · exact storeGet_put_other m v h

/-- The objects in force are in canonical form. -/
theorem State.objs_wf {s : State} (h : s.storesWf = true) : storeWf s.objs = true := by
  simp only [State.storesWf, Bool.and_eq_true] at h
  exact h.1.1.1

/-- The objects in force are sorted. -/
theorem State.objs_sorted {s : State} (h : s.storesWf = true) : storeSorted s.objs = true :=
  ((storeWf_iff _).1 (State.objs_wf h)).1

/-- An object that was set has its value. -/
theorem State.setObj_cfg {s : State} (h : storeSorted s.objs = true) (a : Nat) (v : Int) : (s.setObj a v).cfg a = v :=
  storeGet_set h a v

/-- Setting one object leaves every other as it was. -/
theorem State.setObj_cfg_other {s : State} (h : storeSorted s.objs = true) {a b : Nat} (v : Int) (hb : b ≠ a) :
    (s.setObj a v).cfg b = s.cfg b := by
  simp [State.cfg, State.setObj, storeGet_set_other h v hb]

/-- Setting an object keeps the order of the objects. -/
theorem State.setObj_sorted {s : State} (h : storeSorted s.objs = true) (a : Nat) (v : Int) :
    storeSorted (s.setObj a v).objs = true := by
  unfold State.setObj storeSet
  dsimp only
  split
  · exact storeSorted_erase h a
  · exact storeSorted_put h a v

/-- Setting an object keeps every store's canonical form. -/
theorem State.setObj_storesWf {s : State} (h : s.storesWf = true) (a : Nat) (v : Int) :
    (s.setObj a v).storesWf = true := by
  simp only [State.storesWf, Bool.and_eq_true, State.setObj] at h ⊢
  exact ⟨⟨⟨storeWf_set h.1.1.1 a v, h.1.1.2⟩, h.1.2⟩, h.2⟩

/-- Putting a value in wait keeps every store's canonical form. -/
theorem State.stage_storesWf {s : State} (h : s.storesWf = true) (a : Nat) (v : Int) : (s.stage a v).storesWf = true := by
  simp only [State.storesWf, Bool.and_eq_true, State.stage] at h ⊢
  exact ⟨⟨h.1.1, storeSorted_put h.1.2 a v⟩, storeSorted_put h.2 a _⟩

/-- Forgetting a waiting value keeps every store's canonical form. -/
theorem State.unstage_storesWf {s : State} (h : s.storesWf = true) (a : Nat) : (s.unstage a).storesWf = true := by
  simp only [State.storesWf, Bool.and_eq_true, State.unstage] at h ⊢
  exact ⟨⟨h.1.1, storeSorted_erase h.1.2 a⟩, storeSorted_erase h.2 a⟩

/-- Bringing waiting values into force keeps every store's canonical form. -/
theorem State.applyStaged_storesWf {s : State} (h : s.storesWf = true) (sel : Nat → Bool) :
    (s.applyStaged sel).storesWf = true := by
  simp only [State.storesWf, Bool.and_eq_true, State.applyStaged] at h ⊢
  exact ⟨⟨⟨storeWf_sets h.1.1.1 _, h.1.1.2⟩, storeSorted_filter h.1.2 _⟩, storeSorted_filter h.2 _⟩

end Sys2Proof.Machine
end

