-- ==== Sys2Proof/Laws/Log.lean ====
section
/-! SUPPORT. What reporting an event touches: the log, the egress of the Ethernet ports, the outputs, the recorder and
the lost-event counter, and nothing else. -/

namespace Sys2Proof.Machine

/-! ### `State.count` -/

section
variable (s : State) (a n : Nat) (m : Int)

@[simp] theorem State.count_ref : (s.count a n m).ref = s.ref := rfl
@[simp] theorem State.count_staged : (s.count a n m).staged = s.staged := rfl
@[simp] theorem State.count_stagedAt : (s.count a n m).stagedAt = s.stagedAt := rfl
@[simp] theorem State.count_flash : (s.count a n m).flash = s.flash := rfl
@[simp] theorem State.count_domains : (s.count a n m).domains = s.domains := rfl
@[simp] theorem State.count_crests : (s.count a n m).crests = s.crests := rfl
@[simp] theorem State.count_legs : (s.count a n m).legs = s.legs := rfl
@[simp] theorem State.count_groups : (s.count a n m).groups = s.groups := rfl
@[simp] theorem State.count_inputs : (s.count a n m).inputs = s.inputs := rfl
@[simp] theorem State.count_sds : (s.count a n m).sds = s.sds := rfl
@[simp] theorem State.count_channels : (s.count a n m).channels = s.channels := rfl
@[simp] theorem State.count_beforeTick : (s.count a n m).beforeTick = s.beforeTick := rfl
@[simp] theorem State.count_passes : (s.count a n m).passes = s.passes := rfl
@[simp] theorem State.count_excOff : (s.count a n m).excOff = s.excOff := rfl
@[simp] theorem State.count_axes : (s.count a n m).axes = s.axes := rfl
@[simp] theorem State.count_tables : (s.count a n m).tables = s.tables := rfl
@[simp] theorem State.count_units : (s.count a n m).units = s.units := rfl
@[simp] theorem State.count_compareOuts : (s.count a n m).compareOuts = s.compareOuts := rfl
@[simp] theorem State.count_migration : (s.count a n m).migration = s.migration := rfl
@[simp] theorem State.count_slices : (s.count a n m).slices = s.slices := rfl
@[simp] theorem State.count_slots : (s.count a n m).slots = s.slots := rfl
@[simp] theorem State.count_can : (s.count a n m).can = s.can := rfl
@[simp] theorem State.count_arbiter : (s.count a n m).arbiter = s.arbiter := rfl
@[simp] theorem State.count_safety : (s.count a n m).safety = s.safety := rfl
@[simp] theorem State.count_engine : (s.count a n m).engine = s.engine := rfl
@[simp] theorem State.count_svc : (s.count a n m).svc = s.svc := rfl
@[simp] theorem State.count_recorder : (s.count a n m).recorder = s.recorder := rfl
@[simp] theorem State.count_net : (s.count a n m).net = s.net := rfl
@[simp] theorem State.count_power : (s.count a n m).power = s.power := rfl
@[simp] theorem State.count_log : (s.count a n m).log = s.log := rfl
@[simp] theorem State.count_out : (s.count a n m).out = s.out := rfl
@[simp] theorem State.count_draws : (s.count a n m).draws = s.draws := rfl
@[simp] theorem State.count_writeFlips : (s.count a n m).writeFlips = s.writeFlips := rfl
@[simp] theorem State.count_pending : (s.count a n m).pending = s.pending := rfl
end

/-! ### `State.recTrigger` -/

section
variable (s : State) (c i : Nat)
@[simp] theorem State.recTrigger_ref : (s.recTrigger c i).ref = s.ref := by
  unfold State.recTrigger; split <;> rfl
@[simp] theorem State.recTrigger_objs : (s.recTrigger c i).objs = s.objs := by
  unfold State.recTrigger; split <;> rfl
@[simp] theorem State.recTrigger_staged : (s.recTrigger c i).staged = s.staged := by
  unfold State.recTrigger; split <;> rfl
@[simp] theorem State.recTrigger_stagedAt : (s.recTrigger c i).stagedAt = s.stagedAt := by
  unfold State.recTrigger; split <;> rfl
@[simp] theorem State.recTrigger_flash : (s.recTrigger c i).flash = s.flash := by
  unfold State.recTrigger; split <;> rfl
@[simp] theorem State.recTrigger_domains : (s.recTrigger c i).domains = s.domains := by
  unfold State.recTrigger; split <;> rfl
@[simp] theorem State.recTrigger_crests : (s.recTrigger c i).crests = s.crests := by
  unfold State.recTrigger; split <;> rfl
@[simp] theorem State.recTrigger_legs : (s.recTrigger c i).legs = s.legs := by
  unfold State.recTrigger; split <;> rfl
@[simp] theorem State.recTrigger_groups : (s.recTrigger c i).groups = s.groups := by
  unfold State.recTrigger; split <;> rfl
@[simp] theorem State.recTrigger_inputs : (s.recTrigger c i).inputs = s.inputs := by
  unfold State.recTrigger; split <;> rfl
@[simp] theorem State.recTrigger_sds : (s.recTrigger c i).sds = s.sds := by
  unfold State.recTrigger; split <;> rfl
@[simp] theorem State.recTrigger_channels : (s.recTrigger c i).channels = s.channels := by
  unfold State.recTrigger; split <;> rfl
@[simp] theorem State.recTrigger_beforeTick : (s.recTrigger c i).beforeTick = s.beforeTick := by
  unfold State.recTrigger; split <;> rfl
@[simp] theorem State.recTrigger_passes : (s.recTrigger c i).passes = s.passes := by
  unfold State.recTrigger; split <;> rfl
@[simp] theorem State.recTrigger_excOff : (s.recTrigger c i).excOff = s.excOff := by
  unfold State.recTrigger; split <;> rfl
@[simp] theorem State.recTrigger_axes : (s.recTrigger c i).axes = s.axes := by
  unfold State.recTrigger; split <;> rfl
@[simp] theorem State.recTrigger_tables : (s.recTrigger c i).tables = s.tables := by
  unfold State.recTrigger; split <;> rfl
@[simp] theorem State.recTrigger_units : (s.recTrigger c i).units = s.units := by
  unfold State.recTrigger; split <;> rfl
@[simp] theorem State.recTrigger_compareOuts : (s.recTrigger c i).compareOuts = s.compareOuts := by
  unfold State.recTrigger; split <;> rfl
@[simp] theorem State.recTrigger_migration : (s.recTrigger c i).migration = s.migration := by
  unfold State.recTrigger; split <;> rfl
@[simp] theorem State.recTrigger_slices : (s.recTrigger c i).slices = s.slices := by
  unfold State.recTrigger; split <;> rfl
@[simp] theorem State.recTrigger_slots : (s.recTrigger c i).slots = s.slots := by
  unfold State.recTrigger; split <;> rfl
@[simp] theorem State.recTrigger_can : (s.recTrigger c i).can = s.can := by
  unfold State.recTrigger; split <;> rfl
@[simp] theorem State.recTrigger_arbiter : (s.recTrigger c i).arbiter = s.arbiter := by
  unfold State.recTrigger; split <;> rfl
@[simp] theorem State.recTrigger_safety : (s.recTrigger c i).safety = s.safety := by
  unfold State.recTrigger; split <;> rfl
@[simp] theorem State.recTrigger_engine : (s.recTrigger c i).engine = s.engine := by
  unfold State.recTrigger; split <;> rfl
@[simp] theorem State.recTrigger_svc : (s.recTrigger c i).svc = s.svc := by
  unfold State.recTrigger; split <;> rfl
@[simp] theorem State.recTrigger_net : (s.recTrigger c i).net = s.net := by
  unfold State.recTrigger; split <;> rfl
@[simp] theorem State.recTrigger_power : (s.recTrigger c i).power = s.power := by
  unfold State.recTrigger; split <;> rfl
@[simp] theorem State.recTrigger_log : (s.recTrigger c i).log = s.log := by
  unfold State.recTrigger; split <;> rfl
@[simp] theorem State.recTrigger_out : (s.recTrigger c i).out = s.out := by
  unfold State.recTrigger; split <;> rfl
@[simp] theorem State.recTrigger_draws : (s.recTrigger c i).draws = s.draws := by
  unfold State.recTrigger; split <;> rfl
@[simp] theorem State.recTrigger_writeFlips : (s.recTrigger c i).writeFlips = s.writeFlips := by
  unfold State.recTrigger; split <;> rfl
@[simp] theorem State.recTrigger_pending : (s.recTrigger c i).pending = s.pending := by
  unfold State.recTrigger; split <;> rfl
end

/-! ### The egress of the Ethernet ports: `State.egress`, `State.sendPacket`, `State.sendEvent` -/

/-- A frame that leaves touches the network and the outputs. -/
theorem State.leave_eq (s : State) (p : EthN) (x : EthPort) (q : Queued) :
    ∃ n o, s.leave p x q = { s with net := n, out := o } := ⟨_, _, rfl⟩
/-- Serving a port's queues touches the network and the outputs. -/
theorem State.serveEth_eq (s : State) (p : EthN) : ∃ n o, s.serveEth p = { s with net := n, out := o } := by
  unfold State.serveEth
  dsimp only
  split
  · exact ⟨s.net, s.out, rfl⟩
  · split
    · exact ⟨s.net, s.out, rfl⟩
    · exact State.leave_eq ..
/-- A frame that comes to the egress of a port touches the network and the outputs. -/
theorem State.egress_eq (s : State) (p : EthN) (c n : Nat) (x : Output) :
    ∃ n' o, s.egress p c n x = { s with net := n', out := o } := by
  unfold State.egress
  split
  · exact State.serveEth_eq ..
  · exact ⟨s.net, s.out, rfl⟩
/-- Sending a packet touches the network and the outputs. -/
theorem State.sendPacket_eq (s : State) (port : Port) (mac : Nat) (p : Packet) :
    ∃ n o, s.sendPacket port mac p = { s with net := n, out := o } := by
  unfold State.sendPacket
  split
  · exact State.egress_eq ..
  · exact ⟨s.net, _, rfl⟩
/-- Sending a packet on both ports touches the network and the outputs. -/
theorem State.sendBoth_eq (s : State) (mac : Nat) (p : Packet) : ∃ n o, s.sendBoth mac p = { s with net := n, out := o } := by
  obtain ⟨n, o, h⟩ := State.sendPacket_eq s .ethA mac p
  obtain ⟨n', o', h'⟩ := State.sendPacket_eq { s with net := n, out := o } .ethB mac p
  exact ⟨n', o', by rw [State.sendBoth, h, h']⟩
/-- Sending an announcement touches the network and the outputs. -/
theorem State.sendEvent_eq (s : State) (e : Event) : ∃ n o, s.sendEvent e = { s with net := n, out := o } := by
  unfold State.sendEvent
  split
  · exact State.sendBoth_eq ..
  · exact ⟨s.net, s.out, rfl⟩

section
variable (s : State) (e : Event)
@[simp] theorem State.sendEvent_ref : (s.sendEvent e).ref = s.ref := by
  obtain ⟨n, o, h⟩ := State.sendEvent_eq s e; rw [h]
@[simp] theorem State.sendEvent_objs : (s.sendEvent e).objs = s.objs := by
  obtain ⟨n, o, h⟩ := State.sendEvent_eq s e; rw [h]
@[simp] theorem State.sendEvent_staged : (s.sendEvent e).staged = s.staged := by
  obtain ⟨n, o, h⟩ := State.sendEvent_eq s e; rw [h]
@[simp] theorem State.sendEvent_stagedAt : (s.sendEvent e).stagedAt = s.stagedAt := by
  obtain ⟨n, o, h⟩ := State.sendEvent_eq s e; rw [h]
@[simp] theorem State.sendEvent_flash : (s.sendEvent e).flash = s.flash := by
  obtain ⟨n, o, h⟩ := State.sendEvent_eq s e; rw [h]
@[simp] theorem State.sendEvent_domains : (s.sendEvent e).domains = s.domains := by
  obtain ⟨n, o, h⟩ := State.sendEvent_eq s e; rw [h]
@[simp] theorem State.sendEvent_crests : (s.sendEvent e).crests = s.crests := by
  obtain ⟨n, o, h⟩ := State.sendEvent_eq s e; rw [h]
@[simp] theorem State.sendEvent_legs : (s.sendEvent e).legs = s.legs := by
  obtain ⟨n, o, h⟩ := State.sendEvent_eq s e; rw [h]
@[simp] theorem State.sendEvent_groups : (s.sendEvent e).groups = s.groups := by
  obtain ⟨n, o, h⟩ := State.sendEvent_eq s e; rw [h]
@[simp] theorem State.sendEvent_inputs : (s.sendEvent e).inputs = s.inputs := by
  obtain ⟨n, o, h⟩ := State.sendEvent_eq s e; rw [h]
@[simp] theorem State.sendEvent_sds : (s.sendEvent e).sds = s.sds := by
  obtain ⟨n, o, h⟩ := State.sendEvent_eq s e; rw [h]
@[simp] theorem State.sendEvent_channels : (s.sendEvent e).channels = s.channels := by
  obtain ⟨n, o, h⟩ := State.sendEvent_eq s e; rw [h]
@[simp] theorem State.sendEvent_beforeTick : (s.sendEvent e).beforeTick = s.beforeTick := by
  obtain ⟨n, o, h⟩ := State.sendEvent_eq s e; rw [h]
@[simp] theorem State.sendEvent_passes : (s.sendEvent e).passes = s.passes := by
  obtain ⟨n, o, h⟩ := State.sendEvent_eq s e; rw [h]
@[simp] theorem State.sendEvent_excOff : (s.sendEvent e).excOff = s.excOff := by
  obtain ⟨n, o, h⟩ := State.sendEvent_eq s e; rw [h]
@[simp] theorem State.sendEvent_axes : (s.sendEvent e).axes = s.axes := by
  obtain ⟨n, o, h⟩ := State.sendEvent_eq s e; rw [h]
@[simp] theorem State.sendEvent_tables : (s.sendEvent e).tables = s.tables := by
  obtain ⟨n, o, h⟩ := State.sendEvent_eq s e; rw [h]
@[simp] theorem State.sendEvent_units : (s.sendEvent e).units = s.units := by
  obtain ⟨n, o, h⟩ := State.sendEvent_eq s e; rw [h]
@[simp] theorem State.sendEvent_compareOuts : (s.sendEvent e).compareOuts = s.compareOuts := by
  obtain ⟨n, o, h⟩ := State.sendEvent_eq s e; rw [h]
@[simp] theorem State.sendEvent_migration : (s.sendEvent e).migration = s.migration := by
  obtain ⟨n, o, h⟩ := State.sendEvent_eq s e; rw [h]
@[simp] theorem State.sendEvent_slices : (s.sendEvent e).slices = s.slices := by
  obtain ⟨n, o, h⟩ := State.sendEvent_eq s e; rw [h]
@[simp] theorem State.sendEvent_slots : (s.sendEvent e).slots = s.slots := by
  obtain ⟨n, o, h⟩ := State.sendEvent_eq s e; rw [h]
@[simp] theorem State.sendEvent_can : (s.sendEvent e).can = s.can := by
  obtain ⟨n, o, h⟩ := State.sendEvent_eq s e; rw [h]
@[simp] theorem State.sendEvent_arbiter : (s.sendEvent e).arbiter = s.arbiter := by
  obtain ⟨n, o, h⟩ := State.sendEvent_eq s e; rw [h]
@[simp] theorem State.sendEvent_safety : (s.sendEvent e).safety = s.safety := by
  obtain ⟨n, o, h⟩ := State.sendEvent_eq s e; rw [h]
@[simp] theorem State.sendEvent_engine : (s.sendEvent e).engine = s.engine := by
  obtain ⟨n, o, h⟩ := State.sendEvent_eq s e; rw [h]
@[simp] theorem State.sendEvent_svc : (s.sendEvent e).svc = s.svc := by
  obtain ⟨n, o, h⟩ := State.sendEvent_eq s e; rw [h]
@[simp] theorem State.sendEvent_recorder : (s.sendEvent e).recorder = s.recorder := by
  obtain ⟨n, o, h⟩ := State.sendEvent_eq s e; rw [h]
@[simp] theorem State.sendEvent_power : (s.sendEvent e).power = s.power := by
  obtain ⟨n, o, h⟩ := State.sendEvent_eq s e; rw [h]
@[simp] theorem State.sendEvent_log : (s.sendEvent e).log = s.log := by
  obtain ⟨n, o, h⟩ := State.sendEvent_eq s e; rw [h]
@[simp] theorem State.sendEvent_draws : (s.sendEvent e).draws = s.draws := by
  obtain ⟨n, o, h⟩ := State.sendEvent_eq s e; rw [h]
@[simp] theorem State.sendEvent_writeFlips : (s.sendEvent e).writeFlips = s.writeFlips := by
  obtain ⟨n, o, h⟩ := State.sendEvent_eq s e; rw [h]
@[simp] theorem State.sendEvent_pending : (s.sendEvent e).pending = s.pending := by
  obtain ⟨n, o, h⟩ := State.sendEvent_eq s e; rw [h]
@[simp] theorem State.sendEvent_recMatches (c : Nat) : (s.sendEvent e).recMatches c = s.recMatches c := by
  obtain ⟨n, o, h⟩ := State.sendEvent_eq s e; rw [h]; rfl
end

/-! ### `State.logEntry`, `State.event`, `State.announce` -/

section
variable (s : State) (c i : Nat) (b : Bool)
@[simp] theorem State.logEntry_ref : (s.logEntry c i b).ref = s.ref := by
  unfold State.logEntry; dsimp only; (repeat' split) <;> simp
@[simp] theorem State.event_ref : (s.event c i).ref = s.ref := State.logEntry_ref ..
@[simp] theorem State.announce_ref : (s.announce c i).ref = s.ref := State.logEntry_ref ..
@[simp] theorem State.logEntry_staged : (s.logEntry c i b).staged = s.staged := by
  unfold State.logEntry; dsimp only; (repeat' split) <;> simp
@[simp] theorem State.event_staged : (s.event c i).staged = s.staged := State.logEntry_staged ..
@[simp] theorem State.announce_staged : (s.announce c i).staged = s.staged := State.logEntry_staged ..
@[simp] theorem State.logEntry_stagedAt : (s.logEntry c i b).stagedAt = s.stagedAt := by
  unfold State.logEntry; dsimp only; (repeat' split) <;> simp
@[simp] theorem State.event_stagedAt : (s.event c i).stagedAt = s.stagedAt := State.logEntry_stagedAt ..
@[simp] theorem State.announce_stagedAt : (s.announce c i).stagedAt = s.stagedAt := State.logEntry_stagedAt ..
@[simp] theorem State.logEntry_flash : (s.logEntry c i b).flash = s.flash := by
  unfold State.logEntry; dsimp only; (repeat' split) <;> simp
@[simp] theorem State.event_flash : (s.event c i).flash = s.flash := State.logEntry_flash ..
@[simp] theorem State.announce_flash : (s.announce c i).flash = s.flash := State.logEntry_flash ..
@[simp] theorem State.logEntry_domains : (s.logEntry c i b).domains = s.domains := by
  unfold State.logEntry; dsimp only; (repeat' split) <;> simp
@[simp] theorem State.event_domains : (s.event c i).domains = s.domains := State.logEntry_domains ..
@[simp] theorem State.announce_domains : (s.announce c i).domains = s.domains := State.logEntry_domains ..
@[simp] theorem State.logEntry_crests : (s.logEntry c i b).crests = s.crests := by
  unfold State.logEntry; dsimp only; (repeat' split) <;> simp
@[simp] theorem State.event_crests : (s.event c i).crests = s.crests := State.logEntry_crests ..
@[simp] theorem State.announce_crests : (s.announce c i).crests = s.crests := State.logEntry_crests ..
@[simp] theorem State.logEntry_legs : (s.logEntry c i b).legs = s.legs := by
  unfold State.logEntry; dsimp only; (repeat' split) <;> simp
@[simp] theorem State.event_legs : (s.event c i).legs = s.legs := State.logEntry_legs ..
@[simp] theorem State.announce_legs : (s.announce c i).legs = s.legs := State.logEntry_legs ..
@[simp] theorem State.logEntry_groups : (s.logEntry c i b).groups = s.groups := by
  unfold State.logEntry; dsimp only; (repeat' split) <;> simp
@[simp] theorem State.event_groups : (s.event c i).groups = s.groups := State.logEntry_groups ..
@[simp] theorem State.announce_groups : (s.announce c i).groups = s.groups := State.logEntry_groups ..
@[simp] theorem State.logEntry_inputs : (s.logEntry c i b).inputs = s.inputs := by
  unfold State.logEntry; dsimp only; (repeat' split) <;> simp
@[simp] theorem State.event_inputs : (s.event c i).inputs = s.inputs := State.logEntry_inputs ..
@[simp] theorem State.announce_inputs : (s.announce c i).inputs = s.inputs := State.logEntry_inputs ..
@[simp] theorem State.logEntry_sds : (s.logEntry c i b).sds = s.sds := by
  unfold State.logEntry; dsimp only; (repeat' split) <;> simp
@[simp] theorem State.event_sds : (s.event c i).sds = s.sds := State.logEntry_sds ..
@[simp] theorem State.announce_sds : (s.announce c i).sds = s.sds := State.logEntry_sds ..
@[simp] theorem State.logEntry_channels : (s.logEntry c i b).channels = s.channels := by
  unfold State.logEntry; dsimp only; (repeat' split) <;> simp
@[simp] theorem State.event_channels : (s.event c i).channels = s.channels := State.logEntry_channels ..
@[simp] theorem State.announce_channels : (s.announce c i).channels = s.channels := State.logEntry_channels ..
@[simp] theorem State.logEntry_beforeTick : (s.logEntry c i b).beforeTick = s.beforeTick := by
  unfold State.logEntry; dsimp only; (repeat' split) <;> simp
@[simp] theorem State.event_beforeTick : (s.event c i).beforeTick = s.beforeTick := State.logEntry_beforeTick ..
@[simp] theorem State.announce_beforeTick : (s.announce c i).beforeTick = s.beforeTick := State.logEntry_beforeTick ..
@[simp] theorem State.logEntry_passes : (s.logEntry c i b).passes = s.passes := by
  unfold State.logEntry; dsimp only; (repeat' split) <;> simp
@[simp] theorem State.event_passes : (s.event c i).passes = s.passes := State.logEntry_passes ..
@[simp] theorem State.announce_passes : (s.announce c i).passes = s.passes := State.logEntry_passes ..
@[simp] theorem State.logEntry_excOff : (s.logEntry c i b).excOff = s.excOff := by
  unfold State.logEntry; dsimp only; (repeat' split) <;> simp
@[simp] theorem State.event_excOff : (s.event c i).excOff = s.excOff := State.logEntry_excOff ..
@[simp] theorem State.announce_excOff : (s.announce c i).excOff = s.excOff := State.logEntry_excOff ..
@[simp] theorem State.logEntry_axes : (s.logEntry c i b).axes = s.axes := by
  unfold State.logEntry; dsimp only; (repeat' split) <;> simp
@[simp] theorem State.event_axes : (s.event c i).axes = s.axes := State.logEntry_axes ..
@[simp] theorem State.announce_axes : (s.announce c i).axes = s.axes := State.logEntry_axes ..
@[simp] theorem State.logEntry_tables : (s.logEntry c i b).tables = s.tables := by
  unfold State.logEntry; dsimp only; (repeat' split) <;> simp
@[simp] theorem State.event_tables : (s.event c i).tables = s.tables := State.logEntry_tables ..
@[simp] theorem State.announce_tables : (s.announce c i).tables = s.tables := State.logEntry_tables ..
@[simp] theorem State.logEntry_units : (s.logEntry c i b).units = s.units := by
  unfold State.logEntry; dsimp only; (repeat' split) <;> simp
@[simp] theorem State.event_units : (s.event c i).units = s.units := State.logEntry_units ..
@[simp] theorem State.announce_units : (s.announce c i).units = s.units := State.logEntry_units ..
@[simp] theorem State.logEntry_compareOuts : (s.logEntry c i b).compareOuts = s.compareOuts := by
  unfold State.logEntry; dsimp only; (repeat' split) <;> simp
@[simp] theorem State.event_compareOuts : (s.event c i).compareOuts = s.compareOuts := State.logEntry_compareOuts ..
@[simp] theorem State.announce_compareOuts : (s.announce c i).compareOuts = s.compareOuts := State.logEntry_compareOuts ..
@[simp] theorem State.logEntry_migration : (s.logEntry c i b).migration = s.migration := by
  unfold State.logEntry; dsimp only; (repeat' split) <;> simp
@[simp] theorem State.event_migration : (s.event c i).migration = s.migration := State.logEntry_migration ..
@[simp] theorem State.announce_migration : (s.announce c i).migration = s.migration := State.logEntry_migration ..
@[simp] theorem State.logEntry_slices : (s.logEntry c i b).slices = s.slices := by
  unfold State.logEntry; dsimp only; (repeat' split) <;> simp
@[simp] theorem State.event_slices : (s.event c i).slices = s.slices := State.logEntry_slices ..
@[simp] theorem State.announce_slices : (s.announce c i).slices = s.slices := State.logEntry_slices ..
@[simp] theorem State.logEntry_slots : (s.logEntry c i b).slots = s.slots := by
  unfold State.logEntry; dsimp only; (repeat' split) <;> simp
@[simp] theorem State.event_slots : (s.event c i).slots = s.slots := State.logEntry_slots ..
@[simp] theorem State.announce_slots : (s.announce c i).slots = s.slots := State.logEntry_slots ..
@[simp] theorem State.logEntry_can : (s.logEntry c i b).can = s.can := by
  unfold State.logEntry; dsimp only; (repeat' split) <;> simp
@[simp] theorem State.event_can : (s.event c i).can = s.can := State.logEntry_can ..
@[simp] theorem State.announce_can : (s.announce c i).can = s.can := State.logEntry_can ..
@[simp] theorem State.logEntry_arbiter : (s.logEntry c i b).arbiter = s.arbiter := by
  unfold State.logEntry; dsimp only; (repeat' split) <;> simp
@[simp] theorem State.event_arbiter : (s.event c i).arbiter = s.arbiter := State.logEntry_arbiter ..
@[simp] theorem State.announce_arbiter : (s.announce c i).arbiter = s.arbiter := State.logEntry_arbiter ..
@[simp] theorem State.logEntry_safety : (s.logEntry c i b).safety = s.safety := by
  unfold State.logEntry; dsimp only; (repeat' split) <;> simp
@[simp] theorem State.event_safety : (s.event c i).safety = s.safety := State.logEntry_safety ..
@[simp] theorem State.announce_safety : (s.announce c i).safety = s.safety := State.logEntry_safety ..
@[simp] theorem State.logEntry_engine : (s.logEntry c i b).engine = s.engine := by
  unfold State.logEntry; dsimp only; (repeat' split) <;> simp
@[simp] theorem State.event_engine : (s.event c i).engine = s.engine := State.logEntry_engine ..
@[simp] theorem State.announce_engine : (s.announce c i).engine = s.engine := State.logEntry_engine ..
@[simp] theorem State.logEntry_svc : (s.logEntry c i b).svc = s.svc := by
  unfold State.logEntry; dsimp only; (repeat' split) <;> simp
@[simp] theorem State.event_svc : (s.event c i).svc = s.svc := State.logEntry_svc ..
@[simp] theorem State.announce_svc : (s.announce c i).svc = s.svc := State.logEntry_svc ..
@[simp] theorem State.logEntry_power : (s.logEntry c i b).power = s.power := by
  unfold State.logEntry; dsimp only; (repeat' split) <;> simp
@[simp] theorem State.event_power : (s.event c i).power = s.power := State.logEntry_power ..
@[simp] theorem State.announce_power : (s.announce c i).power = s.power := State.logEntry_power ..
@[simp] theorem State.logEntry_draws : (s.logEntry c i b).draws = s.draws := by
  unfold State.logEntry; dsimp only; (repeat' split) <;> simp
@[simp] theorem State.event_draws : (s.event c i).draws = s.draws := State.logEntry_draws ..
@[simp] theorem State.announce_draws : (s.announce c i).draws = s.draws := State.logEntry_draws ..
@[simp] theorem State.logEntry_writeFlips : (s.logEntry c i b).writeFlips = s.writeFlips := by
  unfold State.logEntry; dsimp only; (repeat' split) <;> simp
@[simp] theorem State.event_writeFlips : (s.event c i).writeFlips = s.writeFlips := State.logEntry_writeFlips ..
@[simp] theorem State.announce_writeFlips : (s.announce c i).writeFlips = s.writeFlips := State.logEntry_writeFlips ..
@[simp] theorem State.logEntry_pending : (s.logEntry c i b).pending = s.pending := by
  unfold State.logEntry; dsimp only; (repeat' split) <;> simp
@[simp] theorem State.event_pending : (s.event c i).pending = s.pending := State.logEntry_pending ..
@[simp] theorem State.announce_pending : (s.announce c i).pending = s.pending := State.logEntry_pending ..
end

section
variable (s : State) (c i : Nat) (b : Bool)

/-- The newest entry of the log is the event reported. -/
theorem State.logEntry_newest : ∃ e, (s.logEntry c i b).log.entries.head? = some e ∧
    e.code = c ∧ e.inst = i ∧ e.time = s.ref.time ∧ e.unread = true ∧ e.announced = b := by
  unfold State.logEntry
  dsimp only
  (repeat' split) <;> simp_all

/-- An announced event asserts ATTN; a logged one leaves it. -/
theorem State.logEntry_attn : (s.logEntry c i b).log.attn = (s.log.attn || b) := by
  unfold State.logEntry; dsimp only; (repeat' split) <;> simp_all

/-- The objects after a report: one counter may have risen. -/
theorem State.logEntry_objs : (s.logEntry c i b).objs = s.objs ∨
    (s.logEntry c i b).objs = (s.count O.eventLost).objs := by
  unfold State.logEntry; dsimp only
  (repeat' split) <;> simp [State.count]
end

/-- A report leaves every object but the lost-event counter as it was. -/
theorem State.logEntry_cfg {s : State} (h : storeSorted s.objs = true) (c i : Nat) (b : Bool) {n : Nat}
    (hn : n ≠ O.eventLost) : (s.logEntry c i b).cfg n = s.cfg n := by
  rcases State.logEntry_objs s c i b with e | e
  · simp [State.cfg, e]
  · have : (s.logEntry c i b).cfg n = (s.count O.eventLost).cfg n := by simp [State.cfg, e]
    rw [this]
    exact State.setObj_cfg_other h _ hn

/-- A report keeps the objects sorted. -/
theorem State.logEntry_sorted {s : State} (h : storeSorted s.objs = true) (c i : Nat) (b : Bool) :
    storeSorted (s.logEntry c i b).objs = true := by
  rcases State.logEntry_objs s c i b with e | e <;> rw [e]
  · exact h
  · exact State.setObj_sorted h _ _

/-- A report keeps every store's canonical form. -/
theorem State.logEntry_storesWf {s : State} (h : s.storesWf = true) (c i : Nat) (b : Bool) :
    (s.logEntry c i b).storesWf = true := by
  have hc := State.setObj_storesWf h O.eventLost (min (s.cfg O.eventLost + 1) 0xFFFFFFFF)
  have ho := State.objs_wf h
  have hn := State.objs_wf hc
  simp only [State.storesWf, Bool.and_eq_true, State.logEntry_flash, State.logEntry_staged, State.logEntry_stagedAt] at h ⊢
  refine ⟨⟨⟨?_, h.1.1.2⟩, h.1.2⟩, h.2⟩
  rcases State.logEntry_objs s c i b with e | e <;> rw [e]
  · exact ho
  · exact hn

end Sys2Proof.Machine
end

