-- ==== Sys2Proof/WellFormed.lean ====
section
/-! DEFINITION. Which commands are well formed: every operand fits the field that carries it. -/

namespace Sys2Proof

/-- An object reference fits its 4 bytes (Table 10.5). -/
def Ref.wf (r : Ref) : Bool := r.index < 0x10000 && r.sub < 0x100
/-- A header's fields fit (Tables 10.3, 10.4). -/
def Header.wf (h : Header) : Bool :=
  h.dstMac.all (· < 2 ^ 48) && h.framing.length ≤ 6 && h.version < 16 && h.kind.all (· < 16) && h.dst < 0x10000
    && h.session < 0x100 && h.lacking < 0x10000
/-- A request's header fields fit (Table 10.4). -/
def Request.wf (q : Request) : Bool := q.src < 0x10000 && q.session < 0x100 && q.seq < 0x10000 && q.form < 4
    && q.header.wf && q.header.dst < 0x4000
/-- A conversion is a signed 14-bit code (R90). -/
def Conversion.wf (c : Conversion) : Bool := -8192 ≤ c.code && c.code ≤ 8191
/-- A CAN frame's identifier, length and bits fit its format (R299). -/
def CanFrame.wf (f : CanFrame) : Bool :=
  f.ident < (if f.extended then 0x20000000 else 0x800) && f.data.length ≤ (if f.fd then 64 else 8)
    && (f.fd || (!f.brs && !f.esi))
/-- A Thodar envelope's fields fit (Table 12.1). -/
def Envelope.wf (e : Envelope) : Bool :=
  e.version < 16 && e.kind < 16 && e.connection < 256 && e.seq < 0x10000 && e.watchdog < 0x10000 && e.length < 256
    && e.reserved < 256 && e.payload.length ≤ 255 && e.header.wf

/-- A command is well formed. -/
def Instr.wf : Instr → Bool
  | .sampleInstant _ x => x.conversions.length ≤ 24 && x.conversions.all Conversion.wf && x.fraction < 0x10000
    && x.sd.length ≤ 16 && x.vbs.length ≤ 48
  | .updatePoint _ flips => flips.length ≤ 24
  | .cyclicFrameReceived _ src frame _ payload h => src < 0x10000 && frame < 0x100 && payload.length ≤ 1440 && h.wf
  | .cyclicApplicationInstant _ _ flips => flips.length ≤ 64
  | .crestReinstated _ slices => slices.all fun x => x.block < 0x10000
  | .chopperDecision _ _ xs => xs.length = 2 && xs.all Conversion.wf
  | .prechargeEnd _ vbs => vbs.length ≤ 24
  | .zeroMeasurementComplete _ codes => codes.length ≤ 24 && codes.all fun xs =>
    xs.length = 256 && xs.all fun c => -8192 ≤ c && c ≤ 8191
  | .edgeAccepted _ levels _ => !levels.isEmpty
  | .ssiFrameComplete _ bits _ _ => bits.length ≤ 50
  | .plannerTick segments => segments.length ≤ 16
  | .groupRefReceived _ x => x.seq < 0x10000 && x.check < 0x10000 && x.shareVersion < 0x80
  | .groupShareReceived _ x => x.check < 0x10000 && x.shareVersion < 0x80 && x.shares.length = 8
  | .memberStatusReceived _ x => x.seq < 0x100 && x.check < 0x10000
  | .canFrameReceived _ f => f.wf
  | .read q refs => q.wf && 1 ≤ refs.length && refs.all Ref.wf
  | .write q refs => q.wf && 1 ≤ refs.length && refs.all fun w => w.ref.wf && w.bytes.length ≤ 1440
  | .domainRead q ref offset maxLen _ _ => q.wf && ref.wf && offset < 0x100000000 && maxLen < 0x10000
  | .domainWrite q ref offset data => q.wf && ref.wf && offset < 0x100000000 && data.length ≤ 1436
  | .open q | .close q | .identify q | .sessionLevelWrite q _ => q.wf
  | .domainClaimExpiry r | .storedWriteReachesFlash r | .objectWrite _ r _ => r.wf
  | .ethFrameForward _ f => f.srcMac < 2 ^ 48 && f.dstMac < 2 ^ 48 && f.pcp.all (· < 8)
    && f.length ≤ 1522 && f.ptp.all fun m => m.seq < 0x10000
  | .safetyCycle _ x => x.si.length ≤ 20 && x.speed.length ≤ 16 && x.coil.length ≤ 16
    && x.pins.length ≤ 16
  | .thodarData e | .thodarReset e => e.wf
  | .ptpMessageReceived x => x.domain < 0x100 && x.seq < 0x10000
  | .safetyPasswordNew _ pw => pw.length ≤ 255
  | .recSample flips => flips.length ≤ 96
  | .sliceStart _ block | .sliceComplete block _ _ _ | .sliceAbort block _ | .sliceWaitExpiry block | .cycleLate block =>
    block < 0x10000
  | .axisLoopCommit _ _ | .deadlineMissed _ | .noAck _ | .refLost _ | .refLockRegained | .eccCorrected
  | .marginWindowEnd _ | .crestReinstate _ _ _ | .gateForced _ _ _ | .gateDrainComplete _ | .safetyEnableLossAtLeg _ _
  | .gateMonitorOffReport _ _ | .gateTimeout _ _ | .gateRiseUncommanded _ _ | .groupVgpUv _ _ | .groupVgpRestored _ _
  | .groupVgpHigh _ _ | .groupVgnHigh _ _ | .vbsWarning _ _ | .bootstrapUv _ _ | .rechargeComplete _ _
  | .rechargeFailed _ | .desat _ _ | .hardShort _ _ | .reactionEnd _ | .legFaultClear _ | .autoclear _
  | .legReinstate _ _ _ | .overcurrent _ | .sdNoData _ | .sdDcHoldExpiry _ | .sdRecovered _ | .limitRelease _
  | .depthReadingsUpdate _ | .ciReinstate _ _ _ | .glitchSeen _ _ | .standstill _ | .ssiFrameStart _ | .amplitude _
  | .excOverload _ | .excRetry _ | .lineOpen _ _ | .fbFaultClear _ _ | .fbChannelRestart _ _ _ _ | .fbChannelValid _
  | .fbReinstate _ _ _ | .indexArm _ _ _ | .ptSourceChange _ _ _ | .axisEnable _ _ | .axisStart _ _ | .axisStop _ _
  | .axisDisable _ _ | .stopStandstill _ | .encDisagree _ | .encoderTakeback _ | .observerLost _ | .keWindowEnd _
  | .keAck _ _ _ | .catchMeasurementComplete _ _ | .catchSecondPulse _ _ | .catchFailed _ | .crestFailure _
  | .axisMigrated _ | .chopMinTimeExpiry _ _ | .chopFastTimeExpiry _ _ | .coilOpen _ _ | .stepperSumImplausible _ _
  | .holdEntry _ | .stepAlignEnd _ | .stepTableCommit _ _ _ | .stepTableRestore _ _ _ | .stepTableFlashWritten _
  | .followingFault _ | .compareCrossing _ _ _ _ | .comparePulseEnd _ | .cmpPositionWrite _ _ _
  | .cmpDirectionWrite _ _ _ | .cmpSourceWrite _ _ _ | .cmpEnableWrite _ _ _ | .compareSourceValid _ | .homeStart _ _
  | .homeAbort _ _ | .homeStall _ | .groupRefSend _ | .groupShareSend _ | .memberStatusSend _ | .leaderTakeover _
  | .memberAgeOut _ _ | .leadResume _ | .memberIsolated _ | .isolatedTimeout _ | .memberRejoined _ | .arbiterTick
  | .budgetFallback | .freqStale | .canTxSuccess _ _ _ | .canTxError _ _ _ _ | .busOffRecovered _ | .canRelease _ _ _
  | .driverTimeout _ | .canReinstate _ _ _ | .canAbort _ _ _ | .canModeWrite _ _ _ | .canIntegrated _
  | .canSessionUnbind | .identifyReply | .progressReply _ _ _ | .sessionIdleTimeout _ _ | .credentialExpiry _ _
  | .credentialLockExpiry | .eventRepeat | .eventEntryRead _ | .eventAckAll _ _ | .linkLost _ | .frameErrors _ _
  | .ethReinstate _ _ _ | .ptpLost | .speedSourceFault _ | .discrepancy _ _ | .pathLost _
  | .pathMismatch | .ss1TimeExpiry _ _ | .ss1StandstillReached _ | .brakeCmdWrite _ _ _ | .brakeReleaseComplete _
  | .testPulseStart _ | .testPulseEnd _ _ | .sbcReadback _ | .sbcOverload _ | .lockrstFallingEdge _ | .lockrstStuck
  | .thodarTimeout _ | .thodarStatusSend _ | .configSeal _ _ | .serviceTick _ | .thrEnable _ _ _ | .thrCrashStart _ _
  | .thrCrashEnd _ _ | .thrShedAutoRaise _ | .thrShedAutoClear _ | .winchModeWrite _ _ _ | .payoutSet _ _ _
  | .payoutStore _ | .winchReleaseStart _ _ | .winchReleaseStop _ _ | .releaseBrakeApply _ | .spoolEnable _ _ _
  | .spoolLost _ | .ahcReferenceLost _ | .ahcFadeEnd _ | .tensionStale _ | .serviceLoss _ | .recHistorySecond
  | .recFreeze _ _ | .recFrozen | .recRearm _ _ | .testRerun _ _ | .testEnable _ _ | .testCtrl _ _
  | .fullDeviceTestEnd | .bscanOpen _ | .bscanClose _ | .domainReset _ _ | .domainPowerDown _ _ | .domainStart _ _
  | .domainReady _ | .domainSupplyLoss _ | .powerModeRun _ | .powerModeQuiet _ | .powerModeDormant _ | .wake _
  | .supplyOn _ | .supplyFailure _ | .holdUpEnd _ | .lcAdvance _ _ | .lcNonceRedraw | .fwVerifyComplete _
  | .fwActivate _ _ _ | .fwTentativeConfirmed _ | .fwRevert _ | .baseplateMeasure _ | .pulseEdge _ | .deadtimeExpiry _
  | .vbsWarnClear _ _ | .overcurrentCleared _ | .canRxError _ _ | .ethLinkUp _ _
    => true

end Sys2Proof
end

