-- ==== Sys2Proof/Tests/Slice0.lean ====
section
/-! SUPPORT. Tests of single steps against the manual's words and worked examples, and for every statement of
Certificates/Slice0/Obligations.lean that has hypotheses a state and operands that meet them, clause by clause. -/

namespace Sys2Proof.Tests

set_option Elab.async false

open Sys2Proof Sys2Proof.Machine

/-! ### States -/

/-- A source that may write everything. -/
def boss : Src := { port := .ethA, level := .maker }

/-- Objects put in force. -/
def put (s : State) (xs : List (Nat × Int)) : State := xs.foldl (fun s p => s.setObj p.1 p.2) s

/-- The module in RUN with every domain in RUN, the reference locked, 1,000 s after its start. -/
def on : State := { State.reset with
  ref := { time := 400000000000, locked := true }
  domains := Vector.replicate 12 { state := .run }
  groups := Vector.replicate 6 { powered := true }
  power := { mode := .run } }

/-- A PM axis 0 on legs 0 to 2, in service with all three enables, in the given axis state. -/
def pm (st : AxisState) : State :=
  let s := put on [(O.axisType 0, 1)]
  { s with
    legs := s.legs.mapFinIdx fun i L _ => if i < 3 then { L with state := .inService, en := true, enP := true, enL := true } else L
    axes := s.axes.set 0 { s.axes[0] with field := { state := st }, safe := { senP := true, senL := true } } }

/-- Leg 0 of `s` changed. -/
def leg0 (s : State) (f : Leg → Leg) : State := s.modLeg 0 f
/-- Axis 0 of `s` changed. -/
def ax0 (s : State) (f : Axis → Axis) : State := s.modAxis 0 f
/-- The field control of axis 0 changed. -/
def fld (s : State) (f : Field → Field) : State := s.modField 0 f
/-- Channel 0 of `s` changed. -/
def ch0 (s : State) (f : Channel → Channel) : State := s.modChan 0 f

/-! ### Witnesses: cycle, fabric, leg cells, current sensing -/

/-- A set-point token whose checks hold. -/
def stood : SetPoint := { pos := 0, vel := 0, checks := SetPoint.sum { pos := 0, vel := 0 } }
/-- An axis whose first cycle has begun. -/
def begun : State := fld (pm .running) fun f => { f with cycle := 1, cycles := f.cycles.set 1 { number := 1, setPoint := stood } }
/-- The same with the commit flag set, and the word in the shadow of leg 0. -/
def committed : State :=
  leg0 (fld begun fun f => { f with executed := 1, cycles := f.cycles.set 1 { number := 1, committed := some 399999999000 } })
    fun L => { L with shadow := L.shadow.set 1 { cycle := 1 } }

theorem witness_CycleCommandsComplete :
    ((pm .running).cycling 0 = true ∧ (pm .running).storesWf = true) ∧
    (begun.cycling 0 = true ∧ begun.storesWf = true ∧ (begun.axis 0).field.executed < (begun.axis 0).field.cycle ∧
      max ((begun.axis 0).field.executed + 1) ((begun.axis 0).field.cycle - 1) = 1 ∧
      flipFirst 0 (begun.axis 0).field.cycles[1].setPoint.checks = (begun.axis 0).field.cycles[1].setPoint.sum ∧
      ((begun.legsOf 0).map fun l => ((begun.leg l).silent, (begun.leg l).written)) = [(false, true), (false, true), (false, true)]) ∧
    (committed.cycling 0 = true ∧ committed.storesWf = true ∧ committed.dueCycle 0 = 1 ∧
      (committed.axis 0).field.cycles[1].number = 1 ∧ (committed.axis 0).field.cycles[1].late = false ∧
      (committed.axis 0).field.cycles[1].committed = some 399999999000 ∧ 399999999000 + 20 ≤ committed.ref.time ∧
      0 ∈ committed.legsOf 0 ∧ (committed.leg 0).written = true ∧ (committed.leg 0).shadow[1].cycle = 1) ∧
    (begun.dueCycle 0 = 1 ∧ (begun.axis 0).field.cycles[1].number = 1 ∧ (begun.axis 0).field.cycles[1].late = false ∧
      (begun.axis 0).field.cycles[1].committed = none ∧ (begun.axis 0).field.cycles[1].past = false) := by
  decide +kernel

/-- Crest 0 retired with nothing on it. -/
def crestOut : State := on.modCrest 0 fun c => { c with state := .retired }
/-- Its reinstatement runs. -/
def crestBack : State := crestOut.modCrest 0 fun c => { c with reinstating := true }
/-- Axis 3 waits for a crest. -/
def waiting : State :=
  { (put on [(O.axisType 3, 1), (O.firstLeg 3, 12)]).modField 3 (fun f => { f with unplaced := true }) with
    migration := [3] }

theorem witness_CrestCommandsComplete :
    (on.storesWf = true ∧ on.crests[(0 : CrestN)].state = .active ∧ on.runs (Dom.crest 0) = true) ∧
    (crestOut.accepts boss (O.crestReinstate 0) 1 ∧ crestOut.crests[(0 : CrestN)].state = .retired ∧
      crestOut.migrating 0 = false ∧ crestOut.crests[(0 : CrestN)].reinstating = false ∧
      ∀ a : AxisN, crestOut.axisType a ≠ 0 → crestOut.homeCrest a = 0 → crestOut.isDisabled a = true) ∧
    crestBack.crests[(0 : CrestN)].reinstating = true ∧
    (waiting.migration = 3 :: [] ∧ waiting.bestCrest 3 = some 0) := by
  decide +kernel

/-- The slices of a reinstatement, all passed. -/
def passing : List SliceOutcome := (crestBack.reinstateBlocks 0).map fun b => ⟨b, 0, true, true⟩

theorem witness_CrestCommandsComplete_slices :
    (crestBack.crests[(0 : CrestN)].reinstating = true ∧
      passing.map (fun x : SliceOutcome => x.block) = crestBack.reinstateBlocks 0 ∧
      ∀ x ∈ passing, x.countOk = true ∧ x.signatureOk = true) ∧
    ([⟨256, 0, true, false⟩].map (fun x : SliceOutcome => x.block) = (crestBack.reinstateBlocks 0).take 1 ∧
      ∃ x ∈ ([⟨256, 0, true, false⟩] : List SliceOutcome), x.countOk = false ∨ x.signatureOk = false) := by
  refine ⟨⟨by decide +kernel, ?_, ?_⟩, by decide +kernel, ⟨_, List.mem_singleton_self _, .inr rfl⟩⟩
  · rw [passing, List.map_map]; exact List.map_id _
  · simp only [passing, List.mem_map]
    rintro x ⟨b, -, rfl⟩
    exact ⟨rfl, rfl⟩

/-- Leg 0 before the rising edge of an interval shorter than MIN_ON. -/
def edged : State := leg0 (pm .running) fun L => { L with edges := [⟨0, true, false⟩], active := { duty := 0 } }

theorem witness_LegGateCommandsComplete :
    ((pm .running).leg 0).turnOn = none ∧
    (let s := leg0 (pm .running) fun L => { L with turnOn := some (.side .high), deadTimeUp := true }
     (s.leg 0).turnOn = some (.side Side.low.other) ∧ (s.leg 0).deadTimeUp = true ∧
       (s.leg 0).allows Side.low.other = true) ∧
    (let s := leg0 (pm .running) fun L => { L with turnOn := some (.side .low) }
     (s.leg 0).turnOn = some (.side .low) ∧ (s.leg 0).gateOn Side.low.other = false ∧ (s.leg 0).allows .low = true) ∧
    (edged.ref.locked = true ∧ edged.axisOf 0 = some 0 ∧ (edged.leg 0).edges = ⟨0, true, false⟩ :: [] ∧
      edged.reacting 0 = false ∧ (edged.axis 0).field.regain = false ∧ (edged.leg 0).state = .inService ∧
      edged.dropped 0 0 (edged.leg 0).active true = true) := by
  decide +kernel

/-- Leg 0 with its low side on. -/
def lowOn : State := leg0 (pm .running) fun L => { L with lowCmd := true, lowOn := true }

theorem witness_LegFaultCommandsComplete :
    (let s := leg0 (pm .running) fun L => { L with lowOn := true }
     (s.leg 0).state ≠ .retired ∧ (s.leg 0).cmd .low = false ∧ (s.leg 0).gateOn .low = true) ∧
    (((pm .running).leg 0).state ≠ .retired ∧ ((pm .running).leg 0).cmd .high = false ∧
      ((pm .running).leg 0).gateOn .high = false) ∧
    ((lowOn.leg 0).state ≠ .retired ∧ (lowOn.leg 0).cmd .low = true ∧
      ¬ ((lowOn.leg 0).inRefresh = true ∧ Side.low = .low ∧ 12 ≤ lowOn.cfgN (O.blanking 0))) ∧
    ((pm .running).leg 0).state = .inService := by
  decide +kernel

/-- Leg 0 recharging. -/
def recharging : State := leg0 (pm .running) fun L => { L with state := .recharging, hsInhibit := true }
/-- Axis 0 in a precharge while it runs. -/
def regaining : State := fld (pm .running) fun f => { f with regain := true }
/-- Leg group 0 waits for VGP; axis 0 does not run. -/
def vgpLost : State := { leg0 (pm .disabled) fun L => { L with state := .off, vgpOut := true } with
  groups := on.groups.set 0 { vgpUv := true } }
/-- Axis 0 in the precharge of a sensor start. -/
def precharging : State := fld (pm .ready) fun f =>
  { f with catching := { running := true, method := some .sensor, phase := .precharge } }

theorem witness_LegSupplyCommandsComplete :
    (on.groups[(0 : GroupN)].vgpUv = false ∧ 14199 < 14200) ∧
    (14500 < 14501 ∧ vgpLost.storesWf = true ∧ groupOf 0 = 0 ∧ (vgpLost.leg 0).vgpOut = true ∧
      ∀ a : AxisN, 0 ∈ vgpLost.legsOf a → vgpLost.driving a = false) ∧
    (((pm .running).leg 0).vbsWarn = false ∧ 12649 < 12650) ∧
    (((pm .running).leg 0).state = .inService ∧ 11149 < 11150 ∧
      (let s := leg0 (pm .running) fun L => { L with state := .latched, latch := some (.desat, .low) }
       (s.leg 0).state = .latched ∧ (s.leg 0).hsInhibit = false)) ∧
    ((recharging.leg 0).state = .recharging ∧ 13000 ≤ 13000 ∧ recharging.storesWf = true ∧
      (recharging.leg 0).faultAt + 20 * ticksPerMs ≤ recharging.ref.time) ∧
    ((regaining.axis 0).field.regain = true ∧ (precharging.axis 0).field.regain = false) ∧
    ((precharging.axis 0).field.catching.running = true ∧ (precharging.axis 0).field.catching.phase = .precharge ∧
      (precharging.axis 0).field.catching.method = some .sensor ∧ ∀ mv ∈ [13000, 13000, 13000], 13000 ≤ mv) := by
  decide +kernel

/-- Axis 0 held in an active short circuit after a leg fault that is gone. -/
def held : State := ax0 (pm .holdAsc) fun x => { x with
  reaction := { held := true, gate := .ascLow, cause := .leg, follows := true } }
/-- Leg 0 latched by a desaturation; the axis runs again. -/
def latched : State := leg0 (pm .running) fun L => { L with state := .latched, latch := some (.desat, .low), en := false }
/-- The same within the first 100 ms after EN rose. -/
def young : State := fld latched fun f => { f with enRose := some 399999990000 }
/-- Leg 0 retired, its axis DISABLED. -/
def legOut : State := leg0 (pm .disabled) fun L => { L with state := .retired, faults := [⟨0, 5⟩] }

theorem witness_LegRecoveryCommandsComplete :
    ((held.axis 0).reaction.held = true ∧
      (held.axis 0).reaction.began + held.cfgN (O.ascHold 0) * ticksPerMs ≤ held.ref.time ∧
      held.phaseEmpty 0 = false ∧ (held.axis 0).reaction.causes = [] ∧ (held.axis 0).field.unplaced = false) ∧
    (latched.axisOf 0 = some 0 ∧ (latched.leg 0).latch = some (.desat, .low) ∧ (latched.leg 0).state = .latched ∧
      LegFault.desat.supply = false ∧ (latched.axis 0).reaction.held = false ∧ latched.driving 0 = true) ∧
    (young.axisOf 0 = some 0 ∧ (young.leg 0).latch = some (.desat, .low) ∧ (young.leg 0).state = .latched ∧
      young.clearingPeriod 0 = true ∧ (young.leg 0).autoclears < young.cfgN O.autoclearMax ∧
      (young.leg 0).faultAt + young.cfgN O.autoclearWait * ticksPerMs ≤ young.ref.time) ∧
    (legOut.accepts boss (O.legReinstate 0) 1 ∧ (legOut.leg 0).state = .retired ∧ legOut.axisOf 0 = some 0 ∧
      legOut.isDisabled 0 = true) := by
  decide +kernel

/-- Axis 0 in its zero measurement. -/
def zeroing : State := fld (pm .disabled) fun f => { f with zeroing := true }
/-- Sigma-delta input 0 stale as a DC-link input. -/
def sdStale : State := (put on [(O.sdRole 0, 1)]).modSd 0 fun d => { d with stale := true }
/-- Axis 0 in LIMITED mode at depth 0. -/
def limited : State := ax0 (pm .running) fun x => { x with saddle := { limited := true } }
/-- Current input 0 substituted. -/
def substituted : State := (pm .disabled).modInput 0 fun i => { i with substituted := true }

theorem witness_CurrentSensingCommandsComplete :
    ((pm .running).axisOf 0 = some 0 ∧ (pm .running).inputs[(0 : LegN)].substituted = false ∧
      ((pm .running).axis 0).reaction.gate = .normal ∧ (pm .running).gatesLive 0 = true) ∧
    (zeroing.axis 0).field.zeroing = true ∧
    on.sds[(0 : SdN)].stale = false ∧
    (sdStale.sds[(0 : SdN)].stale = true ∧ sdStale.cfgN (O.sdRole 0) = 1) ∧
    ((limited.axis 0).saddle.limited = true ∧ (limited.axis 0).saddle.depth ≤ limited.fixedDepth 0) ∧
    ((pm .running).storesWf = true ∧ (pm .running).axisType 0 ≠ 0 ∧ (pm .running).isStepper 0 = false ∧
      ((pm .running).axis 0).field.unplaced = false) ∧
    (substituted.accepts boss (O.ciReinstate 0) 1 ∧ substituted.inputs[(0 : LegN)].substituted = true ∧
      substituted.axisOf 0 = some 0 ∧ substituted.isDisabled 0 = true) := by
  decide +kernel

/-! ### Witnesses: feedback -/

/-- Channel 0 with an encoder of type `t`. -/
def fb (t : Int) : State := ch0 (put on [(O.fbType 0, t)]) fun c => { c with state := .valid }
/-- A serial channel with a frame under way. -/
def framing : State := ch0 (fb 4) fun c => { c with frame := some 399999999000 }

theorem witness_FeedbackLineCommandsComplete :
    ((fb 1).runs Dom.feed = true ∧ (fb 1).fbTypeOf 0 = 1 ∧ true ≠ (fb 1).channels[(0 : ChanN)].a ∧
      true ≠ (fb 1).channels[(0 : ChanN)].b) ∧
    ((fb 7).fbTypeOf 0 ≠ 0 ∧
      (fb 7).cfgN (O.standstillTime 0) * ticksPerMs ≤ (fb 7).ref.time - (fb 7).channels[(0 : ChanN)].lastCount) ∧
    ((fb 4).fbTypeOf 0 = 4 ∧ (fb 5).fbTypeOf 0 = 5) ∧
    (framing.channels[(0 : ChanN)].frame = some 399999999000 ∧ framing.ssiWord 0 [] true true = none) ∧
    (framing.channels[(0 : ChanN)].word = none ∧
      (framing.ssiWord 0 (List.replicate 25 false) true true).isSome = true) := by
  decide +kernel

/-- Channel 0 faulted by an open line. -/
def openLine : State := ch0 (fb 1) fun c => { c with state := .faulted, latched := [.lineOpen], openPairs := [.a] }
/-- Channel 0 retired. -/
def chOut : State := ch0 (fb 1) fun c => { c with state := .retired, faults := [⟨0, 5⟩] }

theorem witness_FeedbackFaultCommandsComplete :
    ((fb 6).fbTypeOf 0 = 6 ∧ (fb 7).fbTypeOf 0 = 7 ∧ (fb 6).channels[(0 : ChanN)].state ≠ .retired) ∧
    ((usedPairs ((fb 1).fbTypeOf 0)).contains .a = true ∧ (fb 1).channels[(0 : ChanN)].state ≠ .retired) ∧
    (FbFault.lineOpen ∈ openLine.channels[(0 : ChanN)].latched ∧ openLine.channels[(0 : ChanN)].state = .faulted) ∧
    ((fb 1).accepts boss (O.fbType 0) 2 ∧ (fb 1).accepts boss (O.fbInvert 0) 1 ∧
      (fb 1).accepts boss (O.countsPerRev 0) 4096) ∧
    (let s := ch0 (fb 1) fun c => { c with state := .starting }
     s.channels[(0 : ChanN)].state = .starting ∧ s.channels[(0 : ChanN)].latched = [] ∧ s.fbTypeOf 0 ≠ 0 ∧
       s.fbTypeOf 0 ∈ [1, 2, 3, 6, 7]) ∧
    (let s := ch0 (fb 4) fun c => { c with state := .starting, word := some 5 }
     s.channels[(0 : ChanN)].state = .starting ∧ s.channels[(0 : ChanN)].latched = [] ∧ s.fbTypeOf 0 ≠ 0 ∧
       s.channels[(0 : ChanN)].word.isSome = true) ∧
    (chOut.accepts boss (O.fbReinstate 0) 1 ∧ chOut.channels[(0 : ChanN)].state = .retired ∧
      ∀ a ∈ chOut.readers 0, chOut.isDisabled a = true) ∧
    (let s := put (fb 1) [(O.indexMode 0, 2)]
     s.accepts boss (O.indexArm 0) 1 ∧ s.cfgN (O.indexMode 0) = 2) ∧
    ((fb 1).accepts boss (O.ptSource 0) 0 ∧ (fb 1).accepts boss (O.ptSource 7) 255) := by
  decide +kernel

/-! ### Witnesses: axes -/

/-- A healthy, configured axis 0 that reads channel 0. -/
def whole (st : AxisState) : State := ch0 (put (pm st) [(O.fbType 0, 1), (O.fbChannel 0, 0)]) fun c => { c with state := .valid }
/-- Axis 0 in a flying start of the given method and phase. -/
def catching (m : CatchMethod) (p : CatchPhase) : State := fld (whole .ready) fun f =>
  { f with catching := { running := true, method := some m, phase := p } }

/-- A stop that ends in FAULT, in DISABLED, in READY. -/
def stopping (ke dis : Bool) : State := fld (pm .stopping) fun f => { f with keStop := ke, disableAtStop := dis, slowSince := some 0 }

theorem witness_AxisCommandsComplete :
    (let s := whole .disabled
     s.accepts boss (O.axisCommand 0) 1 ∧ s.axisType 0 = 1 ∧ s.memberOk 0 = true ∧ s.isDisabled 0 = true ∧
      (s.axis 0).field.zeroing = false ∧ s.lockedOut 0 = false ∧ s.channelOf 0 = some 0 ∧ s.cfgN (O.fbType 0) ≠ 0 ∧
      s.channels[(0 : ChanN)].state ≠ .retired ∧ s.power.mode = .run ∧ s.power.bscan = false ∧
      s.engine.fullTest = false ∧ s.testBars 0 = false ∧ (s.enablePlace 0).isSome = true ∧
      s.cfgN (O.ciAutozero 0) = 1 ∧ (put s [(O.ciAutozero 0, 0)]).cfgN (O.ciAutozero 0) ≠ 1) ∧
    (let s := whole .ready
     s.accepts boss (O.axisCommand 0) 2 ∧ (s.rejoinLegs 0).startBarred 0 = false ∧
      (s.axis 0).field.catching.running = false ∧ (s.axis 0).field.state = .ready) ∧
    (∀ st ∈ [AxisState.stopping, .holdAsc, .fault],
      (whole st).accepts boss (O.axisCommand 0) 2 ∧ ((whole st).rejoinLegs 0).startBarred 0 = false ∧
      ((whole st).axis 0).field.catching.running = false ∧ ((whole st).axis 0).field.state = st ∧
      ((whole st).axis 0).reaction.held = false ∧ ((whole st).axis 0).reaction.causes = []) ∧
    (let s := whole .running
     s.accepts boss (O.axisCommand 0) 3 ∧ (s.axis 0).field.state = .running ∧
      (s.axis 0).field.catching.running = false ∧ (s.axis 0).field.catching.phase = .none ∧
      s.stopsByGroup 0 = false) ∧
    ((catching .sensor .precharge).accepts boss (O.axisCommand 0) 3 ∧
      ((catching .sensor .precharge).axis 0).field.catching.running = true) ∧
    (∀ st ∈ [AxisState.holdAsc, .fault], (whole st).accepts boss (O.axisCommand 0) 3 ∧
      ((whole st).axis 0).field.catching.running = false ∧ ((whole st).axis 0).field.state = st) ∧
    (∀ st ∈ [AxisState.ready, .safeOff, .lockedOut, .holdAsc, .fault, .running, .stopping],
      (whole st).accepts boss (O.axisCommand 0) 4 ∧ ((whole st).axis 0).field.state = st ∧
      ((whole st).axis 0).reaction.gate.isAsc = false) ∧
    (∀ st ∈ [AxisState.ready, .disabled], (whole st).storesWf = true) ∧
    (∀ ke dis : Bool, ((stopping ke dis).axis 0).field.state = .stopping ∧
      (stopping ke dis).absSpeed 0 < ((stopping ke dis).cfgN (O.stopSpeed 0) : Rat) ∧
      ((stopping ke dis).axis 0).field.slowSince = some 0 ∧ 0 + 10 * ticksPerMs ≤ (stopping ke dis).ref.time) := by
  decide +kernel

/-- Channel and observer of axis 0 have been apart for 900 ms. -/
def disagreeing : State := fld (whole .running) fun f => { f with obsHealthy := true, apartSince := some 399640000000 }
/-- Axis 0 on the observer after a loss; angle and speed have agreed since the given ticks. -/
def riding (angle speed : Option Nat) : State := fld (whole .running) fun f =>
  { f with angleSource := .rideThrough, rideCause := some .loss, angleSince := angle, speedSince := speed }
/-- Axis 0 after a VOLTAGE measurement of two vectors, and at the end of the sweep of SEARCH. -/
def measured : State := fld (catching .voltage .measuring) fun f =>
  { f with catching := { f.catching with volts := [(8000, 3, 4), (0, 4, 3)] } }
/-- The sweep of SEARCH has found the rotor. -/
def swept : State := fld (catching .search .measuring) fun f => { f with catching := { f.catching with found := some 5 } }
/-- Currents of a pulse in a motor that stands, and in one that turns. -/
def noCurrent : List Tri := [(0, 0, 0), (0, 0, 0), (0, 0, 0), (0, 0, 0)]
/-- The same in a motor that turns. -/
def someCurrent : List Tri := [(300, 0, 0), (300, 0, 0), (300, 0, 0), (300, 0, 0)]

theorem witness_FieldEventsComplete :
    (∀ r ∈ [(0 : Int), 1], let s := put disagreeing [(O.rideThrough 0, r)]
     s.driving 0 = true ∧ (s.axis 0).field.angleSource = .channel ∧ s.axisChanValid 0 = true ∧
      (s.axis 0).field.obsHealthy = true ∧ s.isStepper 0 = false ∧ s.cfg (O.rideThrough 0) = r ∧
      s.checkedFor 0 (s.axis 0).field.apartSince = true) ∧
    (∀ x ∈ [(some 0, some 0), (none, some 0)], let s := riding x.1 x.2
     (s.axis 0).field.angleSource = .rideThrough ∧ s.axisChanValid 0 = true ∧ (s.axis 0).field.rideCause = some .loss ∧
      (s.axis 0).field.realigned = false ∧ s.checkedFor 0 (s.axis 0).field.speedSince = true ∧
      s.checkedFor 0 (s.axis 0).field.angleSince = x.1.isSome) ∧
    (let s := fld (whole .running) fun f => { f with innovRun := 8, speed := 1000000 }
     (s.axis 0).field.obsLost = false ∧ 8 ≤ (s.axis 0).field.innovRun ∧ s.isStepper 0 = false ∧ s.obsFast 0 = true) ∧
    (let s := fld (whole .running) fun f => { f with keCycles := 1000, keSum := 10 }
     s.storesWf = true ∧ s.isPM 0 = true ∧ (s.axis 0).field.keWhole = true ∧ 0 < (s.axis 0).field.keCycles) ∧
    (whole .running).accepts boss (O.keAck 0) 1 ∧
    ((measured.axis 0).field.catching.running = true ∧ (measured.axis 0).field.catching.ready = false ∧
      (measured.axis 0).field.catching.method = some .voltage ∧ (measured.axis 0).field.catching.phase = .measuring ∧
      (measured.measureVoltage 0).isSome = true) ∧
    ((swept.axis 0).field.catching.running = true ∧ (swept.axis 0).field.catching.ready = false ∧
      (swept.axis 0).field.catching.method = some .search ∧ (swept.axis 0).field.catching.phase = .measuring ∧
      (swept.axis 0).field.catching.found = some 5) ∧
    (let s := catching .pulse .precharge
     (s.axis 0).field.catching.running = true ∧ (s.axis 0).field.catching.method = some .pulse ∧
      (s.axis 0).field.catching.phase = .precharge ∧ (s.axis 0).field.catching.secondPulse = false ∧
      noCurrent.length = 4 ∧ someCurrent.length = 4) := by
  decide +kernel

theorem clarke_alone (x : Rat) : clarke (x, 0, 0) = ((2 * x - 0 - 0) / 3, 0) := by
  have h : ((0 : Rat) - 0) / Config.sqrt 3 = 0 := by rw [show (0 : Rat) - 0 = 0 by decide +kernel, Rat.div_def, Rat.zero_mul]
  simp only [clarke, h]

theorem witness_FieldEventsComplete_pulse :
    (catching .pulse .precharge).measurePulse 0 noCurrent = none ∧
    ((catching .pulse .precharge).measurePulse 0 someCurrent).isSome = true ∧
    vecSq (clarke ((catching .pulse .precharge).axis 0).saddle.phase) < (catching .pulse .precharge).smallSq 0 := by
  have small : 0 < (catching .pulse .precharge).smallSq 0 ∧ (catching .pulse .precharge).smallSq 0 < 40000 := by
    decide +kernel
  have still : vecSq (clarke (0, 0, 0)) = 0 := by rw [clarke_alone]; decide +kernel
  have moves : vecSq (clarke (300, 0, 0)) = 40000 := by rw [clarke_alone]; decide +kernel
  refine ⟨?_, ?_, ?_⟩
  · simp [State.measurePulse, noCurrent, still, Rat.le_of_lt small.1]
  · simp [State.measurePulse, someCurrent, moves, Rat.not_le.2 small.2]
  · rw [show ((catching .pulse .precharge).axis 0).saddle.phase = (0, 0, 0) by decide +kernel, still]; exact small.1

/-- A running stepper axis 0 with its bridge A in the given state, at a target of 1 A. -/
def stepper (st : BridgeState) : State := ax0 (put (pm .running) [(O.axisType 0, 4), (O.controlMode 0, 2)]) fun x =>
  { x with step := { a := { state := st, target := 1, fastTimed := true } } }

/-- The chopper of bridge A at a valid tick. -/
def settled : State := stepper .drive

theorem witness_ChopperCommandsComplete :
    (settled.chopping 0 = true ∧ (settled.takeCoil 0 .a []).2 = none ∧ (settled.takeCoil 0 .a [⟨0, checkOf 0⟩]).2.isSome = true) ∧
    (settled.convValid 0 = true ∧ settled.cfgN (O.stepSense 0) = 0 ∧ settled.bridgeLegs 0 .a = 0 :: [1] ∧
      settled.inputs[(0 : LegN)].substituted = false ∧ convOk ⟨0, checkOf 0⟩ = true ∧ saturated 0 = false) ∧
    (let s := settled.modBridge 0 .a fun b => { b with minTime := true, waiting := some (.slow, false, false) }
     (s.bridge 0 .a).minTime = true ∧ (s.bridge 0 .a).waiting = some (.slow, false, false) ∧ s.chopping 0 = true ∧
     s.bridgeStood 0 .a (s.cfgN (O.chopMinTime 0)) = true) ∧
    (∀ m : Bool, let s := (stepper .fast).modBridge 0 .a fun b => { b with minTime := m }
     s.chopping 0 = true ∧ (s.bridge 0 .a).state = .fast ∧ (s.bridge 0 .a).fastTimed = true ∧ (s.bridge 0 .a).minTime = m ∧
     s.bridgeStood 0 .a (s.cfgN (O.chopFastTime 0)) = true) ∧
    ((settled.bridge 0 .a).state = .drive ∧
      (settled.bridge 0 .a).since + settled.cfgN (O.chopDriveMax 0) * ticksPerUs ≤ settled.ref.time ∧
      settled.cfgF (O.chopHyst 0) ≤ (settled.bridge 0 .a).mag ∧
      (settled.bridge 0 .a).sensed <
        (settled.bridge 0 .a).mag + (settled.bridge 0 .a).offset + settled.cfgF (O.chopHyst 0) / 2 ∧
      (settled.axis 0).reaction.held = false) ∧
    (let s := settled.modBridge 0 .a fun b => { b with sumRun := 8 }
     s.chopping 0 = true ∧ 8 ≤ (s.bridge 0 .a).sumRun ∧ (s.axis 0).reaction.held = false) ∧
    (let s := settled.modStep 0 fun p => { p with restSince := some 0 }
     s.isStepper 0 = true ∧ (s.axis 0).field.state = .running ∧ (s.axis 0).step.aligning = false ∧
      (s.axis 0).step.holding = false ∧ (s.axis 0).prof.v = 0 ∧ (s.axis 0).step.restSince = some 0 ∧
      0 + s.cfgN (O.holdDelay 0) * ticksPerMs ≤ s.ref.time) ∧
    (let s := settled.modStep 0 fun p => { p with aligning := true }
     s.isStepper 0 = true ∧ (s.axis 0).step.aligning = true ∧ s.driving 0 = true ∧
     (s.axis 0).step.alignAt + s.cfgN (O.stepAlignTime 0) * ticksPerMs ≤ s.ref.time) := by
  decide +kernel

/-- Microstep table 0 staged full of zeros. -/
def zeros : State := on.modTable 0 fun x => { x with staging := [] }

theorem witness_StepTableCommandsComplete :
    (zeros.accepts boss (O.stepTableCommit 0) 1 ∧ zeros.pendingAxes 0 = [] ∧
      zeros.accepts boss (O.stepTableRestore 0) 1) ∧
    ∀ k < 1024, -2047 ≤ tableEntry zeros.tables[(0 : TableN)].staging k ∧
      tableEntry zeros.tables[(0 : TableN)].staging k ≤ 2047 := by
  refine ⟨by decide +kernel, fun k _ => ?_⟩
  rw [show zeros.tables[(0 : TableN)].staging = [] from rfl]
  simp [tableEntry]

/-! ### Witnesses: motion, compare, groups, arbiter -/

/-- Axis 0 follows positions and runs. -/
def following : State := put (pm .running) [(O.controlMode 0, 2), (O.homeMethod 0, 1)]
/-- Axis 0 is homing, at a stall. -/
def homing : State := ax0 following fun x => { x with
  home := { state := .running, phase := .stall, cfg := { speed := 1000 }, slowSince := some 0 }, field := { x.field with curLimit := true } }

theorem witness_MotionCommandsComplete :
    (on.runs Dom.feed = true ∧ on.ref.time % 20000 = 0 ∧
      (let s := { on with staged := [(O.profileSpeed 0, 5)], stagedAt := [(O.profileSpeed 0, 399999999000)] }
       isPlannerObj (O.profileSpeed 0) = true ∧ storeGet s.stagedAt (O.profileSpeed 0) = some 399999999000)) ∧
    (∀ st ∈ [AxisState.running, .stopping],
      let s := put (ax0 (pm st) fun x => { x with prof := { x.prof with followWarn := true, followSince := some 399960000000 } })
        [(O.followAction 0, 1)]
      s.cfgN (O.followAction 0) = 1 ∧ (s.axis 0).prof.followWarn = true ∧ (s.axis 0).prof.followSince = some 399960000000 ∧
      399960000000 + 100 * ticksPerMs ≤ s.ref.time ∧ (s.axis 0).field.state = st) ∧
    (following.accepts boss (O.homeCommand 0) 1 ∧ (following.axis 0).field.state = .running ∧
      following.follows 0 = true ∧ following.cfgN (O.homeMethod 0) ≠ 0 ∧ following.isStepper 0 = false) ∧
    (homing.accepts boss (O.homeCommand 0) 2 ∧ (homing.axis 0).home.state = .running) ∧
    (homing.isStepper 0 = false ∧ (homing.axis 0).field.curLimit = true ∧
      10 * qabs (homing.axis 0).field.speed < ((homing.axis 0).home.cfg.speed : Rat) ∧
      (homing.axis 0).home.phase = .stall ∧ (homing.axis 0).home.slowSince = some 0 ∧
      0 + (homing.axis 0).home.cfg.stallTime * ticksPerMs ≤ homing.ref.time) := by
  decide +kernel

/-- Compare unit 0 enabled on the position of axis 0, armed. -/
def comparing : State := (put (pm .running) [(O.cmpEnable 0, 1), (O.cmpSource 0, 0)]).modUnit 0 fun u => { u with armed := true }

/-- The same, where a crossing of the compare position waits to fire. -/
def crossing100 (jump : Bool) : State :=
  (put comparing [(O.cmpPosition 0, 100)]).modUnit 0 fun u => { u with crossed := some (true, 7, jump) }

theorem witness_CompareCommandsComplete :
    (∀ jump : Bool, (crossing100 jump).storesWf = true ∧
      (crossing100 jump).units[(0 : UnitN)].crossed = some (true, 7, (Crossing.mk jump 0).byCorrection) ∧
      (crossing100 jump).units[(0 : UnitN)].firedAt ≠ some (crossing100 jump).ref.time ∧
      (crossing100 jump).accepts boss (O.cmpPosition 0) 200) ∧
    (comparing.accepts boss (O.cmpPosition 0) 100 ∧ comparing.accepts boss (O.cmpDirection 0) 2 ∧
      comparing.accepts boss (O.cmpSource 0) 0 ∧ comparing.accepts boss (O.cmpSource 0) 63 ∧
      comparing.accepts boss (O.cmpEnable 0) 0 ∧
      (comparing.setObj (O.cmpEnable 0) 0).cfgN (O.cmpEnable 0) = 0 ∧
      (comparing.setObj (O.cmpSource 0) 63).cfgN (O.cmpEnable 0) ≠ 0 ∧
      (comparing.setObj (O.cmpSource 0) 63).cmpValid 0 = false ∧
      (comparing.setObj (O.cmpSource 0) 0).cmpValid 0 = true) ∧
    (let s := comparing.modUnit 0 fun u => { u with sourceInvalid := true }
     s.units[(0 : UnitN)].sourceInvalid = true ∧ s.cmpValid 0 = true ∧ s.cfgN (O.cmpEnable 0) ≠ 0) ∧
    (let s := comparing.modUnit 0 fun u => { u with firedAt := some 0 }
     s.units[(0 : UnitN)].firedAt = some 0 ∧ 0 + s.cfgN (O.cmpPulse 0) ≤ s.ref.time) := by
  decide +kernel

/-- A profile that passes from 99 to 100 counts, the compare position, on a tick fires the unit at the end of that tick, and stamps
the tick (R254). -/
theorem test_tick_finds_the_crossing :
    let s := ax0 ((put comparing [(O.cmpPosition 0, 100)]).modUnit 0 fun u => { u with seen := 99 }) fun x => { x with
      prof := { x.prof with move := .moving, p := 99 * unit96, v := unit96 } }
    s.tick.units[(0 : UnitN)].crossed = some (true, s.ref.time + 1, false) ∧
      s.tick.tick.units[(0 : UnitN)].fired = true ∧ s.tick.tick.units[(0 : UnitN)].fireTime = s.ref.time + 1 := by
  decide +kernel

/-- Axis 0 is member 2 of group 0; member 1 is elsewhere. -/
def grouped (r : Role) : State :=
  let s := put (pm .running) [(O.groupSlot 0, 0), (O.controlMode 0, 0), (O.groupNumber 0, 7), (O.memberEntry 0 0, 0x01010064),
    (O.memberEntry 0 1, 0x00000064), (O.canMode 0, 2)]
  { s.modMember 0 fun m => { m with role := r } with can := s.can.set 0 { state := .errorActive } }
/-- A frame's check in that group. -/
def check7 : Nat := (grouped .follower).groupCheck 0
/-- The group led by member 1, heard from. -/
def led : State := (grouped .follower).modSlot 0 fun g => { g with leader := some 0 }

theorem witness_GroupFrameCommandsComplete :
    ((grouped .follower).cfgN (O.groupNumber 0) ≠ 0 ∧ (grouped .follower).localMembers 0 ≠ [] ∧
      newer 16 5 (grouped .follower).slots[(0 : SlotN)].peers[(0 : MemberN)].refSeq = true ∧
      (grouped .follower).localLeader 0 = none ∧ (grouped .follower).slots[(0 : SlotN)].leader = none) ∧
    (led.slots[(0 : SlotN)].leader = some 0 ∧
      newer 7 5 led.slots[(0 : SlotN)].peers[(0 : MemberN)].shareVersion = true ∧
      newer 8 5 led.slots[(0 : SlotN)].peers[(0 : MemberN)].statusSeq = true) ∧
    ((grouped .leader).localLeader 0 = some 0 ∧ (grouped .leader).memberService 0 = true ∧
      (grouped .leader).ownIndex 0 0 = some 1 ∧ (grouped .leader).slotRank 0 < 8 ∧
      (grouped .leader).slotOf 0 = some 0) := by
  decide +kernel

/-- Another member's status was heard 1 ms ago. -/
def heard : State := (grouped .follower).modSlot 0 fun g =>
  { g with peers := g.peers.set 0 { statusAt := some 399999600000 } }

theorem witness_GroupMemberEventsComplete :
    (heard.localMembers 0 ≠ [] ∧ heard.localLeader 0 = none ∧ heard.slots[(0 : SlotN)].leader = none ∧
      heard.leaderSilent 0 = true ∧ heard.hearsStatus 0 = true ∧ heard.lowestMember 0 = some 1 ∧
      (heard.localMembers 0).find? (fun b => heard.ownIndex 0 b == some 1) = some 0) ∧
    (let s := (grouped .follower).modSlot 0 fun g => { g with leader := some 3 }
     (0 : AxisN) ∈ s.localMembers 0 ∧ (s.axis 0).member.role = .follower ∧ s.ownIndex 0 0 = some 1 ∧
      s.slots[(0 : SlotN)].leader = some 3 ∧ (1 : MemberN).val < (3 : MemberN).val ∧
      100 * ticksPerMs ≤ s.ref.time - (s.axis 0).member.since) ∧
    (grouped .follower).fresh (grouped .follower).slots[(0 : SlotN)].peers[(0 : MemberN)].heardAt = false ∧
    ((grouped .follower).slotOf 0 = some 0 ∧ (grouped .follower).hearsPeer 0 = false ∧
      (put (grouped .follower) [(O.canMode 0, 0)]).portShares 0 = false) ∧
    (let s := put (grouped .isolated) [(O.isolatedMax 0, 1)]
     (s.axis 0).member.role = .isolated ∧ s.cfgN (O.isolatedMax 0) ≠ 0 ∧
      s.cfgN (O.isolatedMax 0) * ticksPerS ≤ s.ref.time - (s.axis 0).member.since ∧
      (s.axis 0).field.state = .running) ∧
    (((grouped .rejoining).axis 0).member.role = .rejoining ∧
      20 * ticksPerMs ≤ (grouped .rejoining).ref.time - ((grouped .rejoining).axis 0).member.since) := by
  decide +kernel

/-- A module whose budget and frequency are written over the network. -/
def sourced : State :=
  let s := put on [(O.budgetSource, 1), (O.freqSource, 1)]
  { s with arbiter := { s.arbiter with fallback := false } }

theorem witness_ArbiterCommandsComplete :
    sourced.runs Dom.feed = true ∧ sourced.ref.time % 400000 = 0 ∧ sourced.cfgN O.budgetSource ≠ 0 ∧ sourced.cfgN O.budgetTimeout ≠ 0 ∧
    sourced.arbiter.fallback = false ∧ sourced.cfgN O.freqSource ≠ 0 ∧ sourced.arbiter.freqStale = false := by
  decide +kernel

/-! ### Witnesses: CAN and network -/

/-- CAN port 0 error active in mode 2. -/
def bus (f : CanPort → CanPort) : State := (put on [(O.canMode 0, 2)]).modCan 0 fun c => f { c with state := .errorActive }
/-- A request frame of priority 4 for this device. -/
def frame4 : CanFrame := { ident := 0x10000000, extended := true, remote := false, fd := true, data := [1, 2, 3, 4] }
/-- Mailbox 3 is under way with that frame. -/
def sending : State := bus fun c => { c with boxes := c.boxes.set 3 { frame := some frame4 }, offered := some 3 }

theorem witness_CanFrameCommandsComplete :
    (let s := bus id
     s.storesWf = true ∧ s.runs Dom.bus = true ∧ s.can[(0 : CanN)].listens = true ∧ frame4.extended = true ∧
      frame4.remote = false ∧ s.canMatches 0 frame4 = true ∧ s.can[(0 : CanN)].rx.length < 64 ∧
      s.cfgN (O.canMode 0) ≠ 1 ∧ ¬ frame4.ident / 0x4000000 < 4 ∧ s.can[(0 : CanN)].sends = true) ∧
    sending.boxFrame 0 3 = some frame4 ∧ sending.can[(0 : CanN)].tec + 8 ≤ 255 ∧
    (let s := sending.modCan 0 fun c => { c with tec := 248 }
     s.boxFrame 0 3 = some frame4 ∧ 255 < s.can[(0 : CanN)].tec + 8 ∧ s.can[(0 : CanN)].tec ≤ 255) ∧
    (let s := bus fun c => { c with state := .busOff }
     s.can[(0 : CanN)].state = .busOff ∧ s.can[(0 : CanN)].busOffWait = false) ∧
    (let s := bus fun c => { c with state := .integrating }
     s.runs Dom.bus = true ∧ s.can[(0 : CanN)].state = .integrating) := by
  decide +kernel

theorem witness_CanControlCommandsComplete :
    (let s := bus fun c => { c with state := .busOff, busOffWait := true }
     s.accepts boss (O.canRelease 0) 1 ∧ s.can[(0 : CanN)].busOffWait = true) ∧
    (let s := bus fun c => { c with state := .retired, faults := [⟨0, 5⟩] }
     s.accepts boss (O.canReinstate 0) 1 ∧ s.can[(0 : CanN)].state = .retired ∧ ∀ a : AxisN, s.slotOf a = none) ∧
    (sending.accepts boss (O.canAbort 0) 0xFFFFFFFF ∧ (0xFFFFFFFF : Int).toNat.testBit 0 = true ∧
      (0xFFFFFFFF : Int).toNat.testBit 31 = true ∧ sending.can[(0 : CanN)].offered ≠ some 0 ∧
      sending.can[(0 : CanN)].offered = some 3) ∧
    on.idleOver canSession = true ∧
    (sending.accepts boss (O.canMode 0) 0 ∧ sending.accepts boss (O.canMode 0) 3 ∧ sending.storesWf = true) := by
  decide +kernel

/-- Session 0 bound to a client on the service-free Ethernet port A, which is up. -/
def bound : State :=
  { on with net := { on.net with
      ports := on.net.ports.set 0 { state := .up1000 }
      sessions := on.net.sessions.set 0 { bound := true, src := 5, level := .maker } } }
/-- A request of that client. -/
def ask : Request := { port := .ethA, src := 5, session := 0, seq := 9, arrival := 400000000000, form := 0,
                       header := { dst := on.address } }
/-- A request with the end check of its packet (R336). -/
def sealed (q : Request) (asked : Asked) : Request :=
  { q with header := { q.header with endCheck := crc32c (packetOf q asked).body } }

/-- An OPEN at the service port. -/
def askService : Request := { ask with port := .service }

/-- One request of each kind. -/
def asks : List Asked :=
  [.read [⟨0x2000, 1⟩], .write [⟨⟨0x2000, 2⟩, [1], 0⟩], .domainRead ⟨0xA000, 1⟩ 0 8, .domainWrite ⟨0x5F00, 1⟩ 0 [1], .level 0]

theorem witness_RequestCommandsComplete :
    bound.bootPort ask = false ∧
    (∀ asked ∈ asks, (bound.arrive (sealed ask asked) asked [0]).2 = true ∧
      (bound.arrive (sealed ask asked) asked [0]).1.serves (sealed ask asked) asked 0) ∧
    (∀ asked ∈ asks, (bound.arrive ask asked [0]).2 = false) := by
  decide +kernel

/-- The CAN session has a request outstanding on port 0's client 5; session 0 has one too. -/
def unfinished : Unfinished :=
  { port := .ethA, seq := 9, asked := .other 1, ref := ⟨0x7000, 1⟩, since := 399999000000, answer := { codes := [(.ok, 0)] } }

/-- An OPEN, a CLOSE and an IDENTIFY as they come. -/
def askOpen : Request := sealed ask (.other 0x10)
/-- CLOSE. -/
def askClose : Request := sealed ask (.other 0x11)
/-- IDENTIFY to a form of address, with checks turned over. -/
def askIdentify (form : Nat) (flips : List (BitVec 8)) : Request :=
  sealed { ask with form, replyFlips := flips, header := { ask.header with dstMac := if form = 0 then none else some eventMac } }
    (.other 0x12)

theorem witness_SessionCommandsComplete_open :
    (let s := (on.modSession 0 fun x => { x with bound := true }).modEth 0 fun p => { p with state := .up1000 }
     let t := (s.arrive askOpen (.other 0x10) [0]).1
     (s.arrive askOpen (.other 0x10) [0]).2 = true ∧ t.ownRefusal askOpen = none ∧
      t.net.sessions[(1 : Fin 8)].bound = false ∧ t.net.sessions[(1 : Fin 8)].outstanding = [] ∧
      (∀ j : Fin 8, j < 1 → t.net.sessions[j].bound = true) ∧
      ∀ k ∈ openable .ethA, t.net.sessions[k].kept = []) ∧
    (let s := { bound with net := { bound.net with sessions := Vector.replicate 8 { bound := true } } }
     let t := (s.arrive askOpen (.other 0x10) [0]).1
     (s.arrive askOpen (.other 0x10) [0]).2 = true ∧ t.ownRefusal askOpen = none ∧
      ∀ j : Fin 8, j.val < 6 → t.net.sessions[j].bound = true) ∧
    (let q := sealed askService (.other 0x10)
     (on.arrive q (.other 0x10) [0]).2 = true ∧ (on.arrive q (.other 0x10) [0]).1.ownRefusal q = none ∧
      (on.arrive q (.other 0x10) [0]).1.net.sessions[serviceSession].bound = false ∧
      (on.arrive q (.other 0x10) [0]).1.net.sessions[serviceSession].outstanding = []) := by
  decide +kernel

theorem witness_SessionCommandsComplete :
    (canOf ask.port = none ∧ (bound.arrive askClose (.other 0x11) [0]).2 = true ∧
      (bound.arrive askClose (.other 0x11) [0]).1.serves askClose (.other 0x11) 0) ∧
    (∀ form ∈ [0, 2, 3], ∀ flips ∈ [[], [(1 : BitVec 8)]],
      (bound.arrive (askIdentify form flips) (.other 0x12) [0, 2, 3]).2 = true) ∧
    (let s := { on with net := { on.net with identify := [(.ethB, 7, 9, 0), (.ethA, 7, 4, 1)] } }
     s.net.identify = (.ethB, 7, 9, 0) :: [(.ethA, 7, 4, 1)]) ∧
    (flipAt (askIdentify 0 []).replyFlips 0 = 0 ∧ flipAt (askIdentify 0 [1]).replyFlips 0 ≠ 0) ∧
    (let s := bound.modSession 0 fun x => { x with outstanding := [unfinished] }
     sessionAt .ethA 0 = some 0 ∧ s.net.sessions[(0 : Fin 8)].outstanding.find? (fun y => y.seq == 9) = some unfinished ∧
      canOf unfinished.port = none) ∧
    sessionAt .ethB 5 = some 5 ∧ sessionAt .service 0 = some serviceSession ∧ sessionAt .canB 0 = some canSession ∧
    (let s := { bound with net := { bound.net with rejections := [7], claims := [⟨refOf O.lcToken, 0, [1], 9⟩] } }
     let s := s.modSession 0 fun x => { x with credential := some ([1], 5) }
     s.idleOver 0 = true ∧ s.net.sessions[(0 : Fin 8)].credential = some ([1], 5) ∧ 10 * ticksPerS ≤ s.ref.time - 5 ∧
      (∀ t0 ∈ s.net.rejections, 60 * ticksPerS ≤ s.ref.time - t0) ∧
      ∀ c ∈ s.net.claims, c.ref = refOf O.lcToken → 10 * ticksPerS ≤ s.ref.time - c.lastAt) := by
  decide +kernel

/-- A repeated OPEN is answered with the kept reply and opens no second session (R343). -/
theorem test_repeated_open_opens_once :
    let q := sealed askService (.other 0x10)
    (match exec (.open q) on with
      | .next t => (match exec (.open q) t with
        | .next u => t.net.sessions[serviceSession].bound && decide (u.net.sessions = t.net.sessions) && u.out.length == 2
        | _ => false)
      | _ => false) = true := by
  decide +kernel

theorem witness_EventCommandsComplete :
    on.runs Dom.net = true ∧ (on.event 0xC007 3).log.unheard = [] ∧ ((on.announce 0xC203 0).log.unheard.length = 1) ∧
    on.runs Dom.mem = true ∧ on.accepts boss O.eventAckAll 1 ∧
    ((on.event 0xC007 3).log.entries.map fun (e : Event) => e.entry).Nodup := by
  decide +kernel

/-- Both Ethernet ports are up. -/
def ethUp : State := (bound.modEth 1 fun p => { p with state := .up100 })
/-- A frame for another station. -/
def elsewhere : EthFrame := { srcMac := 1, dstMac := Config.ethMac % 2 ^ 48 + 1, pcp := none, orhamSrc := none }

/-- A one-step Sync of the selected master. -/
def sync : PtpIn := { port := 0, domain := on.cfgN O.ptpDomain, selected := true, seq := 3, correction := 65536, msg := .sync false 1000 }

theorem witness_EthernetCommandsComplete :
    elsewhere.dstMac ≠ Config.ethMac % 2 ^ 48 ∧
    ((1 : EthN) ≠ 0 ∧ ethUp.runs Dom.net = true ∧ ethUp.net.ports[(0 : EthN)].up = true ∧
      ethUp.net.ports[(1 : EthN)].up = true ∧ 100 ≤ 100 ∧ elsewhere.orhamSrc ≠ some ethUp.address ∧ elsewhere.ptp = none ∧
      (∀ k : Fin 4, ethUp.net.ports[(1 : EthN)].queues[k] = [] ∧ ethUp.net.ports[(1 : EthN)].sending[k] ≤ ethUp.ref.time) ∧
      (let s := ethUp.modEth 1 fun p => { p with sending := p.sending.set 3 (ethUp.ref.time + 5) }
       s.ref.time < s.net.ports[(1 : EthN)].sending[(3 : Fin 4)] ∧ s.net.ports[(1 : EthN)].up = true)) ∧
    (let s := ethUp.modEth 0 fun p => { p with state := .retired, faults := [⟨1, 5⟩] }
     s.accepts boss (O.ethReinstate 0) 1 ∧ s.net.ports[(0 : EthN)].state = .retired) ∧
    (on.net.ports[(0 : EthN)].state = .down ∧ on.cfgN (O.ethSpeed 0) = 0 ∧
      ((put on [(O.ethSpeed 0, 1)]).cfgN (O.ethSpeed 0) = 1 ↔ true = true)) ∧
    (let s := put ethUp [(O.ptpRole, 1)]
     s.runs Dom.net = true ∧ s.cfgN O.ptpRole ≠ 0 ∧ s.net.ports[sync.port].up = true ∧ sync.domain = s.cfgN O.ptpDomain ∧
      sync.selected = true ∧ sync.msg = .sync false 1000 ∧ s.ref.ptpAvailable = false ∧ s.ref.disciplined = false) := by
  refine ⟨?_, by decide +kernel⟩
  show Config.ethMac % 2 ^ 48 + 1 ≠ Config.ethMac % 2 ^ 48
  omega

/-- Endpoint 0 is MOVE_MODE of axis 0; cyclic frame 0 receives it and frame 1 sends it. -/
def cyclicOne : State := put ethUp [(O.endpointEntry 0 0, (O.moveMode 0 * 256 : Nat)), (O.mapEntry 0 0, 0), (O.cycEnable 0, 1),
  (O.cycDir 0, 0), (O.mapEntry 1 0, 0), (O.cycEnable 1, 1), (O.cycDir 1, 1)]

/-- The head of a cyclic packet to everyone, with priority 5. -/
def cyclicHead : Header := { dstMac := some (cyclicMac 1 2 0), framing := [0x81, 0, 0xA0, 0, 0x88, 0xB5], dst := 0xC000 }

theorem witness_CyclicCommandsComplete :
    (cyclicOne.cyclicOn 0 0 = true ∧ cyclicOne.net.ports[(0 : EthN)].up = true ∧ [(1 : Byte)].length = cyclicOne.cyclicLength 0 ∧
      cyclicOne.net.cyclic[(0 : CycN)].buffers = [] ∧ cyclicOne.net.cyclic[(0 : CycN)].instant = none ∧
      cyclicOne.runs Dom.net = true ∧
      (let p : Packet := { version := cyclicHead.version, kind := cyclicHead.kind.getD 3, dst := cyclicHead.dst
                           src := cyclicOne.cfgN (O.cycPeer 0), session := cyclicHead.session
                           command := cyclicOne.cfgN (O.cycPeerFrame 0), seq := 7 % 0x10000, payload := [1]
                           lacking := cyclicHead.lacking }
       let h := { cyclicHead with endCheck := crc32c p.body }
       cyclicOne.framed 0 h 5 5 true = true ∧ p.accepted h.endCheck = true ∧ h.kind = none ∧
        cyclicOne.addressed h.dst = true ∧ crc32c p.body ≠ cyclicHead.endCheck)) ∧
    cyclicOne.cyclicOn 1 1 = true ∧ cyclicOne.cycleCame 1 7 = true ∧ cyclicOne.cycleCame 0 7 = true ∧
    (∀ b ∈ cyclicOne.net.cyclic[(0 : CycN)].buffers, b.1 ≠ 7 % 65536) ∧
    (let s := cyclicOne.modCyc 0 fun x => { x with buffers := [(7 % 65536, 0, [1])] }
     s.cyclicOn 0 0 = true ∧ s.cycleCame 0 7 = true ∧ s.frameObjects 0 = [O.moveMode 0] ∧
      s.net.cyclic[(0 : CycN)].buffers = (7 % 65536, 0, [1]) :: [] ∧
      ((cardOf (O.moveMode 0)).bind fun c => c.ty.bytes) = some 1 ∧
      ((cardOf (O.moveMode 0)).bind fun c => bytesVal c.ty (([1] : List Byte).take 1)) = some 1 ∧
      (let t := s.modCyc 0 fun x => { x with
         instant := some (7 % 65536), buffers := x.buffers.filter fun b => !notLater b.1 (7 % 65536)
         applied := some (7 % 65536), missed := 0, timedOut := false }
       let src : Src := { port := .ethA, level := .operate, arrival := some s.ref.time }
       t.writeRefusal src (O.moveMode 0) 1 = none ∧ t.untied src (O.moveMode 0) ∧ (t.writeAct src (O.moveMode 0) 1).2.1 = .ok)) := by
  decide +kernel

/-- The request of the manual's example "One write, byte by byte". -/
def exampleWrite : Packet :=
  { kind := 0, refs := [⟨0x4680, 0x01⟩], dst := 0x020A, src := 0x4007, session := 3, command := 2, seq := 256
    payload := leBytes 2 4 ++ leBytes 4 950000 }

theorem test_packet_bytes_of_the_example_write :
    exampleWrite.body = [0x10, 0x01, 0x0A, 0x02, 0x07, 0x40, 0x03, 0x02, 0x00, 0x01, 0x06, 0x00, 0x00, 0x00, 0x00, 0x00,
      0x80, 0x46, 0x01, 0x00, 0x04, 0x00, 0xF0, 0x7E, 0x0E, 0x00] ∧ exampleWrite.bytes.length = 30 ∧
    (ethernetBytes 0 0 0 0 0x88B5 exampleWrite.bytes).drop 48 = List.replicate 16 0 := by
  decide +kernel

/-! ### Witnesses: gatekeepers, safety, Thodar -/

/-- Domain d changed. -/
def dom (d : DomainN) (f : Domain → Domain) : State := on.modDomain d f
/-- A request that a draining domain awaits. -/
def awaited : Outstanding := { port := .ethA, session := 0, seq := 9 }

theorem witness_GatekeeperAndDomainCommandsComplete :
    (let s := dom Dom.host fun x => { x with state := .stopping, gate := .draining, drain := [awaited] }
     s.domains[Dom.host].gate = .draining ∧
      s.domains[Dom.host].drain.find? (fun x => x.session == 0 && x.seq == 9) = some awaited) ∧
    (∀ r : Bool, let s := dom Dom.bus fun x => { x with state := .stopping, gate := .draining, restart := r }
     s.domains[Dom.bus].gate = .draining ∧ s.domains[Dom.bus].drain = [] ∧ s.power.closing = none) ∧
    (∀ d : DomainN, d ≠ Dom.keep → on.accepts boss O.domainCtrl (0x100 + d.val : Nat) ∧ on.domains[d].state = .run ∧
      on.closable d = true ∧ on.retiredDomain d = false ∧ on.svc.closing = none ∧
      on.accepts boss O.domainCtrl (0x200 + d.val : Nat)) ∧
    (let s := dom Dom.feed fun x => { x with state := .failed }
     s.accepts boss O.domainCtrl (0x300 + Dom.feed.val : Nat) ∧ s.domains[Dom.feed].state = .failed ∧
      s.retiredDomain Dom.feed = false) ∧
    (let s := dom Dom.net fun x => { x with state := .starting }
     s.domains[Dom.net].state = .starting ∧ s.domains[Dom.mem].state ≠ .starting ∧ s.retiredDomain Dom.net = false ∧
      s.fwOk Dom.net = true) ∧
    (on.domains[Dom.keep].state ≠ .off ∧ on.domains[Dom.feed].state ≠ .off ∧ on.domains[Dom.crest 2].state ≠ .off ∧
      on.power.closing = none ∧ on.crests[(2 : CrestN)].state ≠ .retired ∧ Dom.feed ≠ Dom.keep ∧
      ∀ c, Dom.feed ≠ Dom.crest c) := by
  decide +kernel

/-- The sealed safety configuration holds these values; the paths hear each other. -/
def secured (xs : List (Nat × Int)) : State :=
  { pm .running with safety :=
    { active := xs.foldl (fun m p => storePut m p.1 p.2) [], heardP := true, heardL := true, sealed := 1, cyclesP := 1000000000 } }
/-- Both paths run SS1 of axis 0. -/
def ss1 : State := ax0 (secured [(O.ss1Mode 0, 1)]) fun x => { x with
  safe := { x.safe with p := { ss1 := true, ss1Run := true }, l := { ss1 := true, ss1Run := true }, stillSince := some 5 } }

theorem witness_SafetyCycleCommandsComplete :
    (on.runs Dom.safeP = true ∧ on.runs Dom.safeL = true) ∧
    (secured [(O.siFunction 0, 1)]).safeCfgN (O.siFunction 0) ≠ 0 ∧
    (on.domains[Dom.safeP].state = .run ∧
      (dom Dom.safeL fun x => { x with state := .failed }).domains[Dom.safeL].state = .failed) ∧
    ((ss1.axis 0).safe.p.ss1Run = true ∧ (ss1.axis 0).safe.l.ss1Run = true ∧ ss1.safeCfgN (O.ss1Mode 0) = 1 ∧
      ss1.stoodStill 0 = true) := by
  decide +kernel

/-- Brake output 0 in a state. -/
def brake (f : Brake → Brake) : State :=
  let s := secured []
  { s with safety := { s.safety with brakes := s.safety.brakes.set 0 (f s.safety.brakes[0]) } }

theorem witness_BrakeCommandsComplete :
    (brake id).accepts boss (O.brakeCmd 0) 0 ∧
    ((brake id).accepts boss (O.brakeCmd 0) 1 ∧ (brake id).brakeReason .p 0 = false ∧
      (brake id).brakeReason .l 0 = false ∧ (brake id).safety.brakes[(0 : SbcN)].state = .off) ∧
    (brake fun b => { b with state := .releasing }).safety.brakes[(0 : SbcN)].state = .releasing ∧
    (let s := brake fun b => { b with state := .on, hs := true, ls := true, released := true }
     s.safety.brakes[(0 : SbcN)].state = .on ∧ s.safety.brakes[(0 : SbcN)].testing = none ∧ s.testDue 0 = true ∧
      ∀ j : SbcN, j ≠ 0 → s.safety.brakes[j].startedAt ≠ some s.safety.cyclesP) ∧
    (brake fun b => { b with state := .on, testing := some .high }).safety.brakes[(0 : SbcN)].testing = some .high ∧
    20 ≤ (brake fun b => { b with state := .on, wrongP := 20 }).safety.brakes[(0 : SbcN)].wrongP ∧
    20 ≤ (brake fun b => { b with state := .on, wrongL := 20 }).safety.brakes[(0 : SbcN)].wrongL := by
  decide +kernel

theorem witness_LockoutResetCommandsComplete :
    on.runs Dom.safeP = true ∧ on.runs Dom.safeL = true ∧ on.safety.lockrstP.stuck = false ∧ on.safety.lockrstL.stuck = false ∧ 200000 ≤ 200000 ∧
    200000 ≤ 2000000 ∧ 200000 ≤ 2000000 ∧ 2000000 ≤ 2000000 := by
  decide +kernel

/-- Connection 0 over Ethernet from peer 3, one input byte, in a state. -/
def thodar (st : ConnState) : State :=
  let s := secured [(O.thodarMedium 0, 1), (O.thodarPeer 0, 3), (O.thodarWatchdog 0, 100), (O.thodarLen 0, 1), (O.idIn 0, 0x11)]
  { s with
    safety := { s.safety with conns := s.safety.conns.set 0 { state := st } }
    net := { s.net with ports := s.net.ports.set 0 { state := .up1000 } } }
/-- An envelope for it with its checks. -/
def envelope (kind : Nat) (payload : List Byte) : Envelope :=
  let e : Envelope :=
    { medium := 1, srcAddr := 3, version := 1, kind, connection := 0, seq := 0, watchdog := 100, length := payload.length, payload
      check := crc32c (checkInput 0x11 0 payload)
      header := { framing := [0x81, 0, 0xC0, 0, 0x88, 0xB5], dst := on.address } }
  { e with header := { e.header with endCheck := crc32c (safetyPacket e).body } }

theorem witness_ThodarCommandsComplete :
    (let s := thodar .run
     let e := envelope 0 [0xFE]
     e.connection = (0 : ConnN).val ∧ e.kind ≠ 1 ∧ s.carried e = true ∧ (s.envelopeEntry e).2 = true ∧ (s.takeEnvelope e).envelopeTest 0 e = none ∧
      s.safety.conns[(0 : ConnN)].state = .run ∧ s.dataInTime 0 = false ∧ s.safety.conns[(0 : ConnN)].state ≠ .off ∧ s.runs Dom.safeP = true) ∧
    (let e := envelope 1 (List.replicate 16 0x41)
     e.connection = (0 : ConnN).val ∧ e.kind = 1 ∧ (thodar .expired).carried e = true ∧ ((thodar .expired).envelopeEntry e).2 = true ∧
      ((thodar .expired).takeEnvelope e).envelopeTest 0 e = none) := by
  decide +kernel

/-! ### Witnesses: services, recorder, self-test, power -/

/-- Axis 0 runs under speed control, with these objects in force. -/
def served (xs : List (Nat × Int)) : State := put (pm .running) ((O.controlMode 0, 1) :: xs)
/-- Thruster 0 drives axis 0, in a state, at a speed. -/
def thruster (st : ThrState) (speed : Rat) : State :=
  { fld (served [(O.thrAxis 0, 0), (O.thrEnable 0, 1)]) fun f => { f with speed } with
    svc := { thr := (Vector.replicate 8 {}).set 0 { state := st } } }
/-- 60.0 and 61.0 as binary32 patterns. -/
def f60 : Int := 0x42700000
/-- 61.0 -/
def f61 : Int := 0x42740000

theorem witness_ThrusterCommandsComplete :
    (let s := { thruster .armed 0 with ref := { on.ref with time := 400000100000 } }
     s.ref.time % 400000 = 100000 ∧ s.runs Dom.host = true ∧ s.svc.closing = none ∧ s.svc.thr[(0 : SvcN)].state = .armed ∧
      (∀ m : SvcN, m ≠ 0 → s.svc.thr[m].state = .off) ∧ s.thrAxisOf 0 = some 0 ∧ s.isRunning 0 = true ∧
      s.accepts boss (O.thrEnable 0) 0) ∧
    (let s := served [(O.thrAxis 0, 0), (O.thrMode 0, 0)]
     s.accepts boss (O.thrEnable 0) 1 ∧ s.thrClaim 0 = false ∧ s.thrAxisOf 0 = some 0 ∧ s.svcOwner 0 = 0xFF ∧
      s.mappedIn (thrObjects 0) = false ∧ s.cfgN (O.thrMode 0) = 0 ∧ s.speedControlled 0 = true) ∧
    (let s := put (pm .running) [(O.controlMode 0, 0), (O.thrAxis 0, 0), (O.thrMode 0, 1)]
     s.accepts boss (O.thrEnable 0) 1 ∧ s.cfgN (O.thrMode 0) ≠ 0 ∧ s.torqueControlled 0 = true) ∧
    (let s := thruster .active 100
     s.accepts boss (O.thrCrash 0) 1 ∧ s.accepts boss (O.thrCrash 0) 0 ∧ s.svc.thr[(0 : SvcN)].state = .active ∧
      s.thrAxisOf 0 = some 0 ∧ (s.axis 0).field.speed ≠ 0) ∧
    (let s := served [(O.freqSource, 1), (O.thrShedFreq 0, f61), (O.shipFreq, f60)]
     s.runs Dom.host = true ∧ s.cfgN O.freqSource = 1 ∧ s.cfgF (O.thrShedFreq 0) ≠ 0 ∧
      s.cfgF O.shipFreq < s.cfgF (O.thrShedFreq 0)) ∧
    (let s := served [(O.freqSource, 1), (O.thrShedFreq 0, f60), (O.shipFreq, f61)]
     s.cfgF (O.thrShedFreq 0) + 1 / 5 ≤ s.cfgF O.shipFreq) := by
  decide +kernel

/-- Winch 0 on axis 0 with its drum's geometry, in a state. -/
def winch (xs : List (Nat × Int)) (f : Winch → Winch) : State :=
  { served ((O.winchAxis 0, 0) :: xs) with svc := { winch := (Vector.replicate 8 {}).set 0 (f {}) } }
/-- The level-wind of winch 0 on stepper axis 1, homed, with compare unit 4. -/
def spooling (on_ : Int) (f : Winch → Winch) : State :=
  (put (winch [(O.spoolAxis 0, 1), (O.spoolCmp 0, 4), (O.spoolEnable 0, on_)] f)
    [(O.axisType 1, 4), (O.firstLeg 1, 12), (O.controlMode 1, 2)]).modHome 1 fun h => { h with homed := true }

theorem witness_WinchCommandsComplete :
    (let s := winch [] id
     s.accepts boss (O.winchMode 0) 0 ∧ s.accepts boss (O.winchMode 0) 1 ∧ s.svc.winch[(0 : SvcN)].state = .off ∧
      s.svc.winch[(0 : SvcN)].state ≠ .releasing ∧ s.drumClaimRefusal 0 = none) ∧
    (let s := winch [] fun x => { x with payoutValid := true, takenAt := some 399900000000 }
     s.accepts boss (O.winchMode 0) 2 ∧ s.svc.winch[(0 : SvcN)].payoutValid = true ∧
      s.svc.winch[(0 : SvcN)].takenAt = some 399900000000 ∧ s.ref.time - 399900000000 ≤ 300 * ticksPerMs ∧
      s.drumClaimRefusal 0 = none ∧ s.runs Dom.host = true ∧ s.runs Dom.mem = true) ∧
    (let s := ax0 (winch [] id) fun x => { x with safe := { x.safe with slsSince := some 5 } }
     s.accepts boss (O.winchRelease 0) 1 ∧ s.drumOf 0 = some 0 ∧ s.svc.winch[(0 : SvcN)].state ≠ .releasing ∧
      s.isRunning 0 = true ∧ (s.axis 0).safe.slsSince.isSome = true ∧ s.drumClaimRefusal 0 = none) ∧
    (let s := winch [] fun x => { x with state := .releasing }
     s.accepts boss (O.winchRelease 0) 0 ∧ s.svc.winch[(0 : SvcN)].state = .releasing ∧
      s.svc.winch[(0 : SvcN)].ending = false) ∧
    (let s := winch [] fun x => { x with state := .releasing, ending := true }
     s.drumOf 0 = some 0 ∧ s.svc.winch[(0 : SvcN)].ending = true ∧
      qabs (s.axis 0).field.speed < (s.cfgN (O.stopSpeed 0) : Rat)) := by
  decide +kernel

theorem witness_WinchCommandsComplete_spool :
    (let s := spooling 1 id
     s.accepts boss (O.spoolEnable 0) 0 ∧ s.storesWf = true ∧ s.spoolOf 0 = some 1 ∧ s.spoolClaim 0 = true) ∧
    (let s := spooling 0 fun x => { x with payoutValid := true }
     s.accepts boss (O.spoolEnable 0) 1 ∧ s.storesWf = true ∧ s.spoolClaim 0 = false ∧ s.spoolOf 0 = some 1 ∧
      s.isStepper 1 = true ∧ s.cfgN (O.controlMode 1) = 2 ∧ (s.axis 1).home.homed = true ∧
      s.svc.winch[(0 : SvcN)].payoutValid = true ∧ s.cfgN (O.spoolCmp 0) < 32 ∧
      (∀ x : SvcN, x ≠ 0 → s.spoolClaim x = true → s.cfgN (O.spoolCmp x) ≠ s.cfgN (O.spoolCmp 0)) ∧
      s.svcOwner 1 = 0xFF ∧ s.mappedIn (spoolObjects 1 4) = false) ∧
    (let s := winch [(O.winchMode 0, 2)] fun x => { x with state := .active, fade := .falling }
     s.svc.winch[(0 : SvcN)].state = .active ∧ s.cfgN (O.winchMode 0) = 2 ∧ 0 < s.svc.winch[(0 : SvcN)].factor ∧
      s.heaveFresh 0 = false ∧ s.svc.winch[(0 : SvcN)].fade = .falling) ∧
    (let s := winch [(O.winchMode 0, 2)] fun x => { x with state := .active, fade := .falling, factor := 0 }
     s.svc.winch[(0 : SvcN)].fade = .falling ∧ s.svc.winch[(0 : SvcN)].factor ≤ 1 / (s.cfgN (O.ahcFade 0) : Rat)) ∧
    (winch [(O.tensionSource 0, 1)] id).cfgN (O.tensionSource 0) = 1 ∧
    (let s := put (thruster .active 100) [(O.svcLossAction 0, 1)]
     s.svcWatched = true ∧ s.svcOwner 0 ≠ 0xFF ∧ s.runs Dom.feed = true ∧ s.cfgN (O.svcLossAction 0) = 1 ∧
      (s.axis 0).field.state = .running ∧ (s.axis 0).field.catching.running = false ∧
      (s.axis 0).field.catching.phase = .none ∧ s.stopsByGroup 0 = false) := by
  decide +kernel

/-- A drum without layers, whose rope length the payout names whole. -/
def unwound : State := winch [(O.ropeLength 0, 0x43480000), (O.drumLayers 0, 0)] id

theorem witness_WinchCommandsComplete_rope :
    (unwound.accepts boss (O.payoutSet 0) 0x43480000 ∧ 0 ≤ unwound.cfgF (O.ropeLength 0) - f32Rat 0x43480000) ∧
    unwound.cfgF (O.ropeLength 0) - f32Rat 0x43480000 ≤
      unwound.ropeOn 0 (unwound.cfgF (O.drumTurnsPerLayer 0) * unwound.cfgN (O.drumLayers 0)) ∧
    (let s := (put (spooling 1 fun x => { x with payoutValid := true, nC := some 0 }) [(O.spoolFlangeB 0, 1000)]).modProf 1 fun p => { p with p := 100000 * 2 ^ 96 }
     s.spoolOf 0 = some 1 ∧ s.runs Dom.host = true ∧ s.spoolClaim 0 = true ∧
      qabs (s.spoolG 0) / 2 < s.spoolLag 0 1) := by
  refine ⟨by decide +kernel, ?_, by decide +kernel⟩
  have hn : unwound.cfgF (O.drumTurnsPerLayer 0) * unwound.cfgN (O.drumLayers 0) = 0 := by decide +kernel
  have hk : unwound.ropeLayer 0 0 = 0 := by decide +kernel
  have hr : unwound.cfgF (O.ropeLength 0) - f32Rat 0x43480000 = 0 := by decide +kernel
  rw [hn, hr]
  unfold State.ropeOn
  rw [hk]
  simp [qsum, Rat.zero_mul]
  all_goals rw [show (0 : Rat) - 0 = 0 by decide +kernel, Rat.zero_mul]
  all_goals decide +kernel

/-- The recorder in a phase. -/
def recorder (p : RecPhase) : State := { on with recorder := { phase := p, acc := some [], frames := [{ number := 9, rows := [] }] } }

theorem witness_RecorderCommandsComplete :
    ((recorder .recording).recorder.phase ≠ .off ∧ (recorder .recording).runs Dom.feed = true ∧
      (recorder .recording).runs Dom.mem = true ∧ (recorder .recording).ref.time % 20000 = 0 ∧ (recorder .recording).ref.time % ticksPerS = 0 ∧
      (recorder .recording).recorder.acc = some []) ∧
    ((recorder .recording).accepts boss O.recFreeze 1 ∧ (recorder .recording).recorder.phase = .recording) ∧
    ((recorder .postTrigger).recorder.phase = .postTrigger ∧
      (recorder .postTrigger).recorder.frames = { number := 9, rows := [] } :: [] ∧
      (recorder .postTrigger).recorder.lastFrame ≤ 9) ∧
    ((recorder .postTrigger).accepts boss O.recRearm 1 ∧ (recorder .frozen).accepts boss O.recRearm 1) := by
  decide +kernel

/-- The self-test engine with leg cell 5's slice chosen and granted in slot 17. -/
def chosen : State :=
  { on with
    ref := { on.ref with time := on.ref.time + 4000 }
    engine := { chosen := #v[none, some 0x0705] }
    arbiter := { reqs := (Vector.replicate 18 {}).set 17 { code := .full, reason := .none } } }
/-- A slice of that block runs in slot 17; `r`: it repeats one that failed. -/
def slice (r : Bool) : State :=
  { chosen.modBlock 0x0705 (fun b => { b with repeating := r, next := 3, cycleStart := some 5 }) with slices := #v[none, some 0x0705] }

theorem witness_SliceCommandsComplete :
    (blockIx 0x0705).isSome = true ∧
    (chosen.engineOn = true ∧ chosen.slices[slotIx true] = none ∧ chosen.engine.chosen[slotIx true] = some 0x0705 ∧
      chosen.arbiter.reqs[slotReq true].code = .full ∧ chosen.arbiter.reqs[slotReq true].reason ≠ .notRequesting ∧
      chosen.engine.started = false ∧ chosen.eligible 0x0705 = true ∧ chosen.sliceFits 0x0705 = true) ∧
    (chosen.nextTick 20000 18000 = on.ref.time + 18000 ∧ chosen.nextTick 400000 0 = on.ref.time + 400000 ∧
      sliceTicks 0x1000 = 80000) ∧
    (∀ r : Bool, ((slice r).slices.any fun b => b == some 0x0705) = true ∧ ((slice r).block 0x0705).repeating = r) ∧
    ((slice false).cyclePast 0x0705 = true ∧ ((slice false).block 0x0705).lateLogged = false ∧
      (slice false).runs Dom.feed = true) := by
  decide +kernel

/-- The full-device test runs. -/
def fullTest : State := { on with engine := { fullTest := true } }

theorem witness_SelfTestControlCommandsComplete :
    (on.accepts boss O.testRerun 0x0705 ∧ (blockIx (0x0705 : Int).toNat).isSome = true ∧
      on.eligible (0x0705 : Int).toNat = true ∧ on.power.bscan = false) ∧
    (on.accepts boss O.testEnable 0 ∧ on.accepts boss O.testEnable 1 ∧ on.storesWf = true) ∧
    (on.accepts boss O.testCtrl 1 ∧ on.cfgN O.lcState = 0 ∧ (put on [(O.lcState, 3)]).cfgN O.lcState = 3 ∧
      (1 : Int).toNat % 2 = 1 ∧ on.allDisabled = true ∧ on.engine.fullTest = false ∧ on.power.closing = none) ∧
    (fullTest.engine.fullTest = true ∧ Dom.feed ≠ Dom.keep ∧ fullTest.unclosed Dom.feed = true) ∧
    (on.accepts boss O.bscanEnable 1 ∧ on.noEnables = true) ∧
    (let s := { on with power := { mode := .run, bscan := true } }
     s.accepts boss O.bscanEnable 0 ∧ s.power.bscan = true ∧ s.unclosed Dom.feed = true) := by
  decide +kernel

/-- The power section in a state. -/
def power (p : Power) : State := { on with power := p }

theorem witness_PowerModeCommandsComplete :
    ((power { mode := .quiet }).accepts boss O.powerMode 0 ∧ (power { mode := .quiet }).power.mode = .quiet) ∧
    (on.accepts boss O.powerMode 1 ∧ on.power.closing = none ∧ on.allDisabled = true) ∧
    (on.accepts boss O.powerMode 2 ∧
      (∀ k : FwN, on.power.fw[k].state ≠ .receiving ∧ on.power.fw[k].state ≠ .activating) ∧
      Dom.feed ≠ Dom.keep ∧ on.unclosed Dom.feed = true) ∧
    ((power { mode := .dormant }).power.mode = .dormant ∧
      ((power { mode := .dormant }).cfgN O.powerConfig).testBit 0 = true ∧ 18000 ≤ 18000) ∧
    (State.reset.power.mode = .off ∧ 18000 ≤ 36000 ∧ 36000 ≤ 36000) ∧
    (on.power.mode = .run ∧ on.power.failing = false ∧ 16299 < 16300) ∧
    ((power { mode := .run, failing := true }).power.failing = true ∧
      (power { mode := .run, failing := true }).power.returned = false) := by
  decide +kernel

/-- Firmware image 1 in a state. -/
def firmware (st : FwState) : State :=
  power { mode := .run, fw := (Vector.replicate 3 {}).set 1 { state := st, ranSince := some 5 } }

theorem witness_LifeCycleAndFirmwareCommandsComplete :
    (let s := { put on [(O.lcState, 1)] with safety := { sealed := 1 } }
     s.accepts boss O.lcAdvance 2 ∧ s.cfgN O.lcState = 1 ∧ levelRank .configure ≤ levelRank boss.level ∧
      s.allDisabled = true ∧ s.safety.sealed = 1 ∧ s.power.lcPending = none ∧ s.power.closing = none ∧
      s.unclosed Dom.feed = true) ∧
    (on.runs Dom.keep = true ∧ on.storesWf = true) ∧
    (firmware .verifying).power.fw[(1 : FwN)].state = .verifying ∧
    (let s := firmware .verified
     s.accepts boss (O.fwActivate 1) 1 ∧ s.power.lcPending = none ∧
      (∀ j : FwN, s.power.fw[j].state ≠ .activating ∧ s.power.fw[j].state ≠ .tentative) ∧
      s.power.fw[(1 : FwN)].state = .verified ∧ s.power.closing = none ∧ s.allDisabled = true ∧
      s.noneReleasing = true ∧ s.runs Dom.mem = true) ∧
    (let s := firmware .tentative
     s.power.fw[(1 : FwN)].state = .tentative ∧ s.fwTried 1 = true) ∧
    (let s := (firmware .activating).modDomain Dom.host fun x => { x with state := .starting }
     s.power.fw[(1 : FwN)].state = .activating ∧ Dom.host ∈ kindDomains 1 ∧ s.domains[Dom.host].state = .starting) ∧
    (∀ n ∈ [O.profileSpeed 0, O.profileAccel 0, O.profileDecel 0, O.profileJerk 0], on.accepts boss n 100000) ∧
    (on.power.mode ≠ .off ∧ persistOf (Ref.addr ⟨0x4000, 1⟩) = .stored ∧ Ref.addr ⟨0x4000, 1⟩ ≠ O.configSeal ∧
      on.power.closing = none) := by
  decide +kernel

/-! ### Witnesses: rules over all states -/

theorem witness_IdleStepIsAReferenceTick :
    on.pending = [] ∧ on.refRuns = true ∧ on.runs Dom.feed = true ∧ on.runs Dom.keep = true ∧
    on.power.rtcTicks + 1 < ticksPerS ∧
    (let s := { on with power := { mode := .dormant, rtcTicks := ticksPerS - 1 } }
     s.pending = [] ∧ s.refRuns = false ∧ s.runs Dom.keep = true ∧ ticksPerS ≤ s.power.rtcTicks + 1 ∧ s.storesWf = true) ∧
    State.reset.pending = [] ∧ State.reset.refRuns = false ∧ State.reset.runs Dom.keep = false := by
  decide +kernel

/-- In DORMANT the last tick of a second counts the real-time clock while the reference stands (R471, R472). -/
theorem test_clock_counts_in_dormant :
    let s := { on with power := { mode := .dormant, rtcTicks := ticksPerS - 1 } }
    s.tick.cfg O.rtcTime = 1 ∧ s.tick.ref.time = s.ref.time := by
  decide +kernel

theorem witness_RefusedWriteAnswersAndChangesNothing :
    rowWrite (.keAck boss 0 7) = some (boss, O.keAck 0, 7) ∧
    on.writeRefusal boss (O.keAck 0) 7 = some (.outOfRange, 0) ∧
    rowWrite (.objectWrite boss ⟨0x7FFF, 1⟩ 0) = some (boss, Ref.addr ⟨0x7FFF, 1⟩, 0) ∧
    on.writeRefusal boss (Ref.addr ⟨0x7FFF, 1⟩) 0 = some (.unknownObject, 0) ∧ boss.flip = 0 ∧
    rowWrite (.keAck { boss with flip := 1 } 0 1) = some ({ boss with flip := 1 }, O.keAck 0, 1) := by
  decide +kernel

/-- A desaturation of the low side that is on stands at the front of the queue. -/
def queued : State := { lowOn with pending := [.desat 0 .low] }

theorem witness_everyStepRule :
    queued.storesWf = true ∧ queued.legsSound = true ∧ goesOn (step queued) = true ∧
    familyOf (.desat 0 .low) = .legs ∧ goesOn (exec (.desat 0 .low) queued) = true ∧
    familyOf (.holdEntry 0) = .axes ∧ goesOn (exec (.holdEntry 0) (stepper .drive)) = true ∧
    familyOf (.canAbort boss 0 8) = .links ∧ goesOn (exec (.canAbort boss 0 8) sending) = true ∧
    familyOf (.supplyFailure 16000) = .services ∧ goesOn (exec (.supplyFailure 16000) on) = true ∧
    lowOn.axisOf 0 = some 0 ∧ (5 : LegN) ∉ lowOn.legsOf 0 := by
  decide +kernel

theorem witness_AbortedSliceIsRepeated :
    (blockIx 0x0705).isSome = true ∧ (slice false).storesWf = true ∧
    ((slice false).slices.any fun b => b == some 0x0705) = true ∧
    (let s := { slice false with engine := { (slice false).engine with fullTest := true } }
     match exec (.sliceAbort 0x0705 4) s with
     | .next t => (match exec (.sliceStart true 0x0705) t with
        | .next u => u.slices[slotIx true] == some 0x0705
        | _ => false)
     | _ => false) = true := by
  decide +kernel

/-- Session 0 has four requests outstanding. -/
def busyFour : State := bound.modSession 0 fun x => { x with
  outstanding := (List.range 4).map fun n => { unfinished with seq := n } }

theorem witness_FifthOutstandingRequestIsBusy :
    busyFour.bootPort ask = false ∧
    ∀ asked ∈ asks, (busyFour.arrive (sealed ask asked) asked [0]).2 = true ∧
      (let s := (busyFour.arrive (sealed ask asked) asked [0]).1
       s.ownRefusal ask = none ∧ (s.sessionOf ask).toOption = some 0 ∧
        4 ≤ s.net.sessions[(0 : Fin 8)].outstanding.length ∧ s.net.sessions[(0 : Fin 8)].kept = [] ∧
        ∀ u ∈ s.net.sessions[(0 : Fin 8)].outstanding, u.seq ≠ ask.seq) := by
  decide +kernel

theorem witness_BlankingOutlastsTheMillerTimeout :
    (on.storesWf = true ∧ on.accessRefusal boss (O.millerTimeout 0) = none ∧
      100 * on.cfgN (O.blanking 0) < 1801 + 200 ∧ ¬ 100 * on.cfgN (O.blanking 0) < 1800 + 200 ∧
      on.accessRefusal boss (O.blanking 0) = none ∧ 100 * 9 < on.cfgN (O.millerTimeout 0) + 200) ∧
    (let s := leg0 lowOn fun L => { L with inRefresh := true }
     s.storesWf = true ∧ (s.leg 0).inRefresh = true ∧ 12 ≤ s.cfgN (O.blanking 0) ∧ (s.leg 0).lowCmd = true ∧
      (s.leg 0).state ≠ .retired) := by
  decide +kernel

theorem witness_QuadratureCountsEachTransition :
    (fb 1).runs Dom.feed = true ∧ (fb 1).fbTypeOf 0 = 1 ∧ (fb 5).fbTypeOf 0 = 5 ∧
    (fb 1).channels[(0 : ChanN)].state ≠ .retired ∧ FbFault.quadError ∉ (fb 1).channels[(0 : ChanN)].latched ∧
    ∀ a : AxisN, ((fb 1).axis a).home.state ≠ .running := by
  decide +kernel

/-- A winch drum and a level-wind, each on its own axis. -/
def drum : State := winch [(O.winchMode 0, 1), (O.winchBrake 0, 3)] id

theorem witness_ClaimedObjectsBelongToTheirService :
    ((thruster .active 0).thrClaim 0 = true ∧ (thruster .active 0).cfgN (O.thrAxis 0) = (0 : AxisN).val ∧
      (∀ j, (thruster .active 0).thrClaim j = true → j = 0) ∧
      O.velocitySet 0 ∈ (thruster .active 0).claimedObjects ∧ boss.port ≠ .host ∧
      (thruster .active 0).accessRefusal boss (O.velocitySet 0) = none ∧
      (thruster .active 0).valueRefusal (O.velocitySet 0) 5 = none) ∧
    (drum.drumClaim 0 = true ∧ drum.cfgN (O.winchBrake 0) < 16 ∧ drum.cfgN (O.winchAxis 0) = (0 : AxisN).val ∧
      (∀ j, drum.thrClaim j = true → drum.cfgN (O.thrAxis j) ≠ (0 : AxisN).val) ∧
      (∀ j, drum.drumClaim j = true → j = 0)) ∧
    ((spooling 1 id).spoolClaim 0 = true ∧ (spooling 1 id).cfgN (O.spoolCmp 0) < 32 ∧
      (spooling 1 id).cfgN (O.spoolAxis 0) = (1 : AxisN).val ∧
      (∀ j, (spooling 1 id).thrClaim j = true → (spooling 1 id).cfgN (O.thrAxis j) ≠ (1 : AxisN).val) ∧
      (∀ j, (spooling 1 id).drumClaim j = true → (spooling 1 id).cfgN (O.winchAxis j) ≠ (1 : AxisN).val) ∧
      (∀ j, (spooling 1 id).spoolClaim j = true → j = 0)) := by
  decide +kernel

theorem witness_SigmaDeltaWritesNeedTheirAxisDisabled :
    (on.storesWf = true ∧ on.cfg (O.sdAxis 2) = (0 : AxisN).val ∧ on.accessRefusal boss (O.sdAxis 2) = none ∧
      on.isDisabled 0 = true ∧ on.isDisabled 15 = true ∧ (pm .running).cfg (O.sdAxis 2) = (0 : AxisN).val ∧
      (pm .running).isDisabled 0 = false) ∧
    ((cardOf (O.sdAxis 2)).all fun c => c.ty.bounds.1 ≤ 15 && 15 ≤ c.ty.bounds.2 && c.range.holds 15) = true := by
  decide +kernel

/-! Each command of the clauses about one instance goes on. -/

theorem witness_OneInstanceCommandsLeaveTheOthers :
    ([.safetyEnableLossAtLeg 0 .p, .pulseEdge 0, .gateMonitorOffReport 0 .low, .deadtimeExpiry 0,
      .vbsWarning 0 12000, .vbsWarnClear 0 14000, .rechargeComplete 0 14000, .legFaultClear 0, .autoclear 0,
      .standstill 0, .ssiFrameStart 0, .fbFaultClear 0 .lineOpen, .fbChannelValid 0, .indexArm boss 0 1,
      .catchMeasurementComplete 0 [], .catchSecondPulse 0 [], .chopperDecision 0 .a [], .chopFastTimeExpiry 0 .a,
      .overcurrentCleared 0, .limitRelease 0, .holdEntry 0, .memberAgeOut 0 0, .canIntegrated 0, .canRelease boss 0 1,
      .canAbort boss 0 1, .stepTableFlashWritten 0, .stepTableRestore boss 0 1, .brakeReleaseComplete 0, .testPulseStart 0,
      .tensionStale 0, .ahcFadeEnd 0, .thrShedAutoClear 0, .fwVerifyComplete 0, .fwTentativeConfirmed 0].all
        fun c => goesOn (exec c lowOn)) = true := by
  decide +kernel

/-! ### Witness: sealing -/

/-- A module with a password and the staged safety configuration of manufacture. -/
def staged : State := { on with safety := { password := some [0x41, 0x42, 0x43, 0x44, 0x45, 0x46, 0x47, 0x48] } }

/-- What the checks of a seal find before they look at its value. -/
theorem staged_checks :
    staged.accessRefusal boss O.configSeal = none ∧ staged.stateLocked O.configSeal = false ∧
      staged.claimedObjects.contains O.configSeal = false ∧
      (cardOf O.configSeal).map (fun c => (c.ty, c.range, c.effect == .whenDisabled)) = some (.u32, .all, false) := by
  decide +kernel

/-- Any 32-bit value of CONFIG_SEAL passes the checks of every write. -/
theorem staged_accepts (v : BitVec 32) : staged.accepts boss O.configSeal (v.toNat : Int) := by
  obtain ⟨h1, h2, h3, h4⟩ := staged_checks
  obtain ⟨c, hc, h4⟩ := Option.map_eq_some_iff.mp h4
  obtain ⟨hty, hra, hef⟩ : c.ty = .u32 ∧ c.range = .all ∧ (c.effect == .whenDisabled) = false := by simpa using h4
  have hr : staged.ruleOk O.configSeal (v.toNat : Int) = true := rfl
  have hv := v.isLt
  have : (v.toNat : Int) ≤ 4294967295 := by omega
  have hval : staged.valueRefusal O.configSeal (v.toNat : Int) = none := by
    simp only [State.valueRefusal, hc, hty, hra, hef, hr, h2]
    simp [Ty.bytes, Ty.bounds, Range.holds, this]
  refine ⟨rfl, ?_, rfl⟩
  simp only [State.writeRefusal, h1, hval, h3, Bool.and_false]
  rfl

theorem witness_SafetyConfigurationCommandsComplete :
    (staged.accessRefusal boss O.safetyPasswordNew = none ∧ passwordOk [0x41, 0x42, 0x43, 0x44, 0x45, 0x46, 0x47, 0x48] = true) ∧
    (∀ a : AxisN, (staged.axis a).field.state ∈ [AxisState.disabled, .ready, .safeOff, .lockedOut]) ∧
    staged.safety.sealing = none ∧ staged.safety.password.isSome = true ∧ staged.sealable = true := by
  decide +kernel

theorem witness_SafetyConfigurationCommandsComplete_seal : staged.accepts boss O.configSeal staged.stagedCheck :=
  staged_accepts _

/-! ### WellFormed: for each check a term that it refuses, at the bound it sets -/

/-- A sample whose inputs give the codes `cs`. -/
def sampled (cs : List Int) : SampleIn :=
  { conversions := cs.map fun c => ⟨c, checkOf c⟩, moved := 0, fraction := 0, sd := [], snapshotFlip := 0 }
/-- A segment that arrives whole. -/
def still : Segment := { late := false, flip := 0 }

theorem smoke_conversions :
    (Instr.sampleInstant 0 (sampled [8191, -8192, 0])).wf = true ∧ (Instr.sampleInstant 0 (sampled [8192])).wf = false ∧
      (Instr.sampleInstant 0 (sampled [-8193])).wf = false ∧
      (Instr.sampleInstant 0 (sampled (List.replicate 25 0))).wf = false ∧
      (Instr.sampleInstant 0 { sampled [] with fraction := 0x10000 }).wf = false ∧
      (Instr.sampleInstant 0 { sampled [] with sd := List.replicate 17 ⟨0, [], 0, 40, 0⟩ }).wf = false ∧
      (Instr.sampleInstant 0 { sampled [] with vbs := List.replicate 49 (0, 0) }).wf = false ∧
      (Instr.chopperDecision 0 .a [⟨0, 0⟩, ⟨8191, 0⟩]).wf = true ∧ (Instr.chopperDecision 0 .a [⟨0, 0⟩]).wf = false ∧
      (Instr.chopperDecision 0 .a [⟨0, 0⟩, ⟨8192, 0⟩]).wf = false := by decide +kernel
theorem smoke_lists :
    (Instr.updatePoint 0 [(0, 1)]).wf = true ∧ (Instr.updatePoint 0 (List.replicate 25 (0, 1))).wf = false ∧
      (Instr.prechargeEnd 0 (List.replicate 25 0)).wf = false ∧
      (Instr.zeroMeasurementComplete 0 [List.replicate 256 8191]).wf = true ∧
      (Instr.zeroMeasurementComplete 0 [List.replicate 255 0]).wf = false ∧
      (Instr.zeroMeasurementComplete 0 [List.replicate 256 8192]).wf = false ∧
      (Instr.zeroMeasurementComplete 0 (List.replicate 25 (List.replicate 256 0))).wf = false ∧
      (Instr.edgeAccepted 0 [] 0).wf = false ∧ (Instr.ssiFrameComplete 0 (List.replicate 51 true) true true).wf = false ∧
      (Instr.plannerTick (List.replicate 16 still)).wf = true ∧ (Instr.plannerTick (List.replicate 17 still)).wf = false ∧
      (Instr.crestReinstated 0 [⟨0x10000, 0, true, true⟩]).wf = false ∧ (Instr.recSample (List.replicate 97 0)).wf = false ∧
      (Instr.safetyPasswordNew boss (List.replicate 256 0x41)).wf = false := by decide +kernel
theorem smoke_safety_cycle :
    (Instr.safetyCycle .p ⟨[], [], [], false, [], []⟩).wf = true ∧
      (Instr.safetyCycle .p ⟨List.replicate 21 ⟨true, true⟩, [], [], false, [], []⟩).wf = false ∧
      (Instr.safetyCycle .l ⟨[], List.replicate 17 ⟨0, 0⟩, [], false, [], []⟩).wf = false ∧
      (Instr.safetyCycle .l ⟨[], [], List.replicate 17 0, false, [], []⟩).wf = false ∧
      (Instr.safetyCycle .l ⟨[], [], [], false, List.replicate 17 (true, true), []⟩).wf = false := by decide +kernel
theorem smoke_cyclic :
    (Instr.cyclicFrameReceived 0 5 3 0 (List.replicate 4 0) {}).wf = true ∧
      (Instr.cyclicFrameReceived 0 5 3 0 (List.replicate 1441 0) {}).wf = false ∧
      (Instr.cyclicFrameReceived 0 0x10000 3 0 [] {}).wf = false ∧
      (Instr.cyclicFrameReceived 0 5 0x100 0 [] {}).wf = false ∧
      (Instr.cyclicApplicationInstant 0 0 (List.replicate 65 0)).wf = false := by decide +kernel
theorem smoke_group_frames :
    (Instr.groupRefReceived 0 ⟨0, 0x10000, 0, 0, 0, false, false, 0⟩).wf = false ∧
      (Instr.groupRefReceived 0 ⟨0, 0, 0x10000, 0, 0, false, false, 0⟩).wf = false ∧
      (Instr.groupRefReceived 0 ⟨0, 0, 0, 0, 0, false, false, 0x80⟩).wf = false ∧
      (Instr.groupShareReceived 0 ⟨0, 0, false, 0, 0, 0, [1, 2]⟩).wf = false ∧
      (Instr.groupShareReceived 0 ⟨0, 0x10000, false, 0, 0, 0, List.replicate 8 0⟩).wf = false ∧
      (Instr.groupShareReceived 0 ⟨0, 0, false, 0x80, 0, 0, List.replicate 8 0⟩).wf = false ∧
      (Instr.memberStatusReceived 0 ⟨0, 0x100, false, false, 0, 0, 0⟩).wf = false ∧
      (Instr.memberStatusReceived 0 ⟨0, 0, false, false, 0x10000, 0, 0⟩).wf = false := by decide +kernel
theorem smoke_can_frames :
    (Instr.canFrameReceived 0 frame4).wf = true ∧
      (Instr.canFrameReceived 0 { frame4 with ident := 0x20000000 }).wf = false ∧
      (Instr.canFrameReceived 0 { frame4 with extended := false, ident := 0x800 }).wf = false ∧
      (Instr.canFrameReceived 0 { frame4 with data := List.replicate 65 0 }).wf = false ∧
      (Instr.canFrameReceived 0 { frame4 with fd := false, esi := true }).wf = false ∧
      (Instr.canFrameReceived 0 { frame4 with fd := false, brs := true }).wf = false ∧
      (Instr.canFrameReceived 0 { frame4 with fd := false, data := List.replicate 9 0 }).wf = false := by decide +kernel
theorem smoke_requests :
    (Instr.read ask [⟨0x2000, 1⟩]).wf = true ∧ (Instr.read ask []).wf = false ∧
      (Instr.read ask [⟨0x10000, 1⟩]).wf = false ∧ (Instr.read ask [⟨0x2000, 0x100⟩]).wf = false ∧
      (Instr.read { ask with src := 0x10000 } [⟨0x2000, 1⟩]).wf = false ∧
      (Instr.open { ask with session := 0x100 }).wf = false ∧ (Instr.close { ask with seq := 0x10000 }).wf = false ∧
      (Instr.identify { ask with form := 4 }).wf = false ∧ (Instr.sessionLevelWrite { ask with form := 4 } 0).wf = false ∧
      (Instr.write ask []).wf = false ∧ (Instr.write ask [⟨⟨0x10000, 0⟩, [0], 0⟩]).wf = false ∧
      (Instr.domainRead ask ⟨0xA000, 1⟩ 0x100000000 0 [] 1).wf = false ∧ (Instr.domainRead ask ⟨0xA000, 1⟩ 0 0x10000 [] 1).wf = false ∧
      (Instr.domainWrite ask ⟨0xA000, 1⟩ 0x100000000 []).wf = false ∧
      (Instr.domainClaimExpiry ⟨0x10000, 0⟩).wf = false ∧ (Instr.storedWriteReachesFlash ⟨0, 0x100⟩).wf = false ∧
      (Instr.objectWrite boss ⟨0x10000, 0⟩ 0).wf = false := by decide +kernel
theorem smoke_long_writes :
    (Instr.write ask [⟨⟨0, 0⟩, List.replicate 1441 0, 0⟩]).wf = false ∧
      (Instr.domainWrite ask ⟨0, 0⟩ 0 (List.replicate 1437 0)).wf = false := by decide +kernel
theorem smoke_ethernet :
    (Instr.ethFrameForward 0 ⟨0, 0, some 7, none, 64, none⟩).wf = true ∧ (Instr.ethFrameForward 0 ⟨0, 0, some 8, none, 64, none⟩).wf = false ∧
      (Instr.ethFrameForward 0 ⟨0x1000000000000, 0, none, none, 64, none⟩).wf = false ∧
      (Instr.ethFrameForward 0 ⟨0, 0x1000000000000, none, none, 64, none⟩).wf = false ∧
      (Instr.ethFrameForward 0 ⟨0, 0, none, none, 1523, none⟩).wf = false ∧
      (Instr.ethFrameForward 0 ⟨0, 0, none, none, 64, some ⟨.sync, false, 0, 0x10000, 0⟩⟩).wf = false ∧
      (Instr.ptpMessageReceived { sync with domain := 0x100 }).wf = false ∧
      (Instr.ptpMessageReceived { sync with seq := 0x10000 }).wf = false := by decide +kernel
theorem smoke_headers :
    let h : Header := {}
    h.wf = true ∧ { h with dstMac := some 0x1000000000000 }.wf = false ∧ { h with framing := List.replicate 7 0 }.wf = false ∧
      { h with version := 16 }.wf = false ∧ { h with kind := some 16 }.wf = false ∧ { h with dst := 0x10000 }.wf = false ∧
      { h with session := 0x100 }.wf = false ∧ { h with lacking := 0x10000 }.wf = false ∧
      (Instr.read { ask with header := { ask.header with dst := 0x4000 } } [⟨0x2000, 1⟩]).wf = false := by decide +kernel
theorem smoke_envelopes :
    let e := fun (v k c s w l : Nat) (p : List Byte) => Envelope.mk 1 0 v k c s w l p 0 0 0 {}
    (Instr.thodarData (e 1 0 0 0 0 0 [])).wf = true ∧ (Instr.thodarData (e 16 0 0 0 0 0 [])).wf = false ∧
      (Instr.thodarData (e 1 16 0 0 0 0 [])).wf = false ∧ (Instr.thodarReset (e 1 1 256 0 0 0 [])).wf = false ∧
      (Instr.thodarReset (e 1 1 0 0x10000 0 0 [])).wf = false ∧ (Instr.thodarReset (e 1 1 0 0 0x10000 0 [])).wf = false ∧
      (Instr.thodarReset (e 1 1 0 0 0 256 [])).wf = false ∧
      (Instr.thodarReset (e 1 1 0 0 0 0 (List.replicate 256 0))).wf = false ∧
      (Instr.thodarReset { e 1 1 0 0 0 0 [] with reserved := 256 }).wf = false := by decide +kernel
theorem smoke_test_blocks :
    (Instr.sliceStart false 0xFFFF).wf = true ∧ (Instr.sliceStart false 0x10000).wf = false ∧
      (Instr.sliceComplete 0x10000 0 true true).wf = false ∧ (Instr.sliceAbort 0x10000 0).wf = false ∧
      (Instr.sliceWaitExpiry 0x10000).wf = false ∧ (Instr.cycleLate 0x10000).wf = false := by decide +kernel

/-! ### The manual's worked examples -/

/-- 01, R29: an all-zero word; after the first byte the register holds 0x42, after the fourth 0xED. -/
theorem test_crc8_of_zero : crc8Byte 0xFF#8 0 = 0x42#8 ∧ crc8 0#32 = 0xED#8 := by decide +kernel
/-- 12, the envelope byte by byte: the check input is the text 123456789, its CRC-32C is 0xE3069283. -/
theorem test_envelope_check :
    checkInput 0x34333231 13877 [0x37, 0x38, 0x39] = [0x31, 0x32, 0x33, 0x34, 0x35, 0x36, 0x37, 0x38, 0x39] ∧
      crc32c [0x31, 0x32, 0x33, 0x34, 0x35, 0x36, 0x37, 0x38, 0x39] = 0xE3069283#32 := by decide +kernel
/-- 12, the same envelope: byte 8 is 0x37, so bits 3, 6 and 7 of it demand. -/
theorem test_envelope_demands :
    (demandBits [0x37, 0x38, 0x39]).getLsbD 3 = true ∧ (demandBits [0x37, 0x38, 0x39]).getLsbD 6 = true ∧
      (demandBits [0x37, 0x38, 0x39]).getLsbD 7 = true ∧ (demandBits [0x37, 0x38, 0x39]).getLsbD 4 = false := by decide +kernel
/-- 03: two legs per phase, 4 kHz, dead time 1.0 µs: M_FIXED 0.9672, DEPTH_LIMIT 983. -/
theorem test_hoist_depths :
    let s := put (pm .running) [(O.axisType 4, 1), (O.firstLeg 4, 12), (O.legsPerPhase 4, 2), (O.carrierFreq 4, 4000),
      (O.updateMode 4, 1)]
    let s := (List.range 6).foldl (fun s i => put s [(O.deadtime (12 + i), 6400)]) s
    s.fixedDepth 4 = 9672 / 10 ∧ s.depthLimit 4 = 983 := by decide +kernel
/-- 05, R187: KE_NOM 400 V/krpm, 8 pole pairs, 0.3330 Wb: KE_EST 854. -/
theorem test_ke_est : (put on [(O.keNom 0, 0x43C80000), (O.polePairs 0, 8)]).keEstimate 0 (3330 / 10000) = 854 := by
  decide +kernel
/-- 06, R211: a bridge in DRIVE+ with 1 A whose target turns to −1 A drives toward −1 A at the next compared conversion. -/
theorem test_chopper_sign_change :
    (let s := ((stepper .drive).modBridge 0 .a fun b => { b with next := -1, current := 1 }).stepUpdate 0
     (s.bridge 0 .a).against = true ∧ s.chopDecision 0 .a = some (.drive, false, false) ∧
     ((s.chopCompare 0 .a 1).bridge 0 .a).against = false) := by decide +kernel

/-- 07, R266: a stall in the edge phase of method 2 fails the homing; the report is 0x5242 (R225). -/
theorem test_stall_in_edge_phase :
    (let s := ax0 (put (pm .running) [(O.axisType 0, 4)]) fun x => { x with
       home := { state := .running, phase := .edge, cfg := { method := 2, speed := 1000 } } }
     ((s.stepStall 0).axis 0).home.state ≠ .running) := by decide +kernel

/-- 06: both bridges in SLOW, chopping at 75, index 256: STEP_STATUS 0x50012D00. -/
theorem test_step_status :
    let s := put on [(O.axisType 9, 4), (O.firstLeg 9, 20)]
    (s.modAxis 9 fun x => { x with
        field := { state := .running },
        step := { a := { state := .slow }, b := { state := .slow }, chopFreq := 75, index := 256 } }
      ).stepStatus 9 = 0x50012D00 := by decide +kernel
/-- 07: 1,000,000.5 counts read 0x000F424080000000 in PROFILE_POS_RAW. -/
theorem test_profile_pos_raw :
    (ax0 on fun x => { x with prof := { x.prof with p := 2000001 * 2 ^ 95 } }).readValue (O.profilePosRaw 0) = 0x000F424080000000 := by
  decide +kernel
/-- 08, step 3 and 4: WORK asks for 180,000 W of 116,000 W, the pointer at 3: axis 1 gets 77,300 W and loses the tie,
axis 4 gets 38,700 W, the pointer moves to 5. -/
theorem test_scaled_work :
    let d := divideScaled 116000 100 3 [1, 4] fun r => if r = 1 then 120000 else 60000
    d.power 1 = 77300 ∧ d.power 4 = 38700 ∧ d.tie = [1] ∧ d.pointer = 5 := by decide +kernel
/-- 14: slice 137 of crest 2's block passes 512 patterns: SLICE_RESULT 0x40890200. -/
theorem test_slice_result :
    let b : TestBlock := { result := .pass, slice := 137, patterns := 512 }
    ({ on with engine := { on.engine with blocks := Vector.replicate 266 b } }).sliceResult 0x0102 = 0x40890200 := by
  decide +kernel
/-- 14: aborted after 166 patterns: 0xC08900A6. -/
theorem test_slice_aborted :
    let b : TestBlock := { result := .aborted, slice := 137, patterns := 166 }
    ({ on with engine := { on.engine with blocks := Vector.replicate 266 b } }).sliceResult 0x0102 = 0xC08900A6 := by
  decide +kernel
/-- 13: winch 0 in WINCH_MODE 2, ACTIVE, with 125 turns of 50 a layer on the drum: layer 2, WINCH_STATUS 0x54404000. -/
theorem test_winch_status :
    let s := put (pm .running) [(O.winchAxis 0, 2), (O.drumTurnsPerLayer 0, 0x42480000), (O.drumLayers 0, 10), (O.winchMode 0, 2),
      (O.drumCountsPerRev 0, 409600), (O.spoolAxis 0, 9), (O.spoolEnable 0, 1)]
    let s := s.modField 9 fun f => { f with state := .running }
    (s.modWinch 0 fun W => { W with state := .active, payoutValid := true, nC := some 125 }).winchStatus 0 = 0x54404000 := by
  decide +kernel

end Sys2Proof.Tests
end

section
/-! PROOFS. The writes of the sigma-delta inputs' objects (03, R514): what any accepted or refused write of a row does, and
that of the checks of every write only that of the axes can refuse a value within the card. -/

namespace Sys2Proof.Machine

/-! ### A write by a row: refused, or taken -/

/-- No bit turned over: the checks arrive as they were made. -/
theorem flipFirst_zero (cs : List (BitVec 8)) : flipFirst 0 cs = cs := by
  cases cs <;> simp [flipFirst]

/-- A value whose check arrives as it was made passes it (R31). -/
theorem valueOk_unflipped {flip : BitVec 8} (h : flip = 0) (v : Int) : valueOk flip v = true := by
  rw [h, valueOk, flipFirst_zero, beq_self_eq_true]

theorem Ref.addr_refOf (a : Nat) : Ref.addr (refOf a) = a := by
  simp only [Ref.addr, refOf]
  omega

/-- OBJECT_WRITE of the reference of an address is the write of that address. -/
theorem exec_objectWrite_refOf (s : State) (src : Src) (a : Nat) (v : Int) :
    exec (.objectWrite src (refOf a) v) s = .next (s.writeRow src a v fun s => s.writeAct src a v) := by
  have h : exec (.objectWrite src (refOf a) v) s = execObjectWrite src (refOf a) v s := rfl
  rw [h, execObjectWrite, Ref.addr_refOf]

section
variable {s : State} {src : Src} {a : Nat} {v : Int} (act : State → Acted)

/-- A refused write is answered with its code, and nothing else changes. -/
theorem State.writeRow_refused {code : Reply} {reason : Nat} (hf : src.flip = 0)
    (h : s.writeRefusal src a v = some (code, reason)) :
    s.writeRow src a v act = s.emit (.written (refOf a) code reason) := by
  simp [State.writeRow, valueOk_unflipped hf v, h]

/-- A write whose place no other of its tick takes does what the object does; only the note of its tick is added (R351). -/
theorem State.ordered_untied (h : s.untied src a) :
    ∃ net, s.ordered src a act = ({ (act s).1.accessed a with net }, (act s).2) := by
  unfold State.ordered
  cases hp : src.arrival with
  | none => exact ⟨_, rfl⟩
  | some t =>
    obtain ⟨hl, hw⟩ : s.tieLost src.port t a = false ∧ s.tieWaits src.port t a = false := by
      simpa [State.untied, hp] using h
    simp only [hl, hw, Bool.or_self, Bool.and_false, Bool.false_eq_true, if_false]
    split
    · exact ⟨_, rfl⟩
    · exact ⟨_, rfl⟩

/-- An accepted write does what the object does, and its answer is the newest output. -/
theorem State.writeRow_accepted (h : s.accepts src a v) :
    ∃ net, s.writeRow src a v act =
      { (act s).1.accessed a with net }.emit (.written (refOf a) (act s).2.1 (act s).2.2) := by
  obtain ⟨hf, hr, hu⟩ := h
  obtain ⟨net, ho⟩ := State.ordered_untied act hu
  exact ⟨net, by simp [State.writeRow, valueOk_unflipped hf v, hr, ho]⟩
end

/-! ### The settings of a sigma-delta input (R94, R514) -/

/-- The addresses of the objects of input i that are written WHEN DISABLED. -/
def sdSettings (i : SdN) : List Nat :=
  [O.sdRole i, O.sdAxis i, O.sdOsr i, O.sdClock i, O.sdGain i, O.sdOffset i]

/-- Every one of them has a value, and takes effect WHEN DISABLED. -/
theorem sdSettings_cards : ∀ i : SdN, ∀ n ∈ sdSettings i,
    ∃ c, cardOf n = some c ∧ c.ty.bytes.isNone = false ∧ c.effect = .whenDisabled := by
  have h : ∀ i : SdN, ∀ n ∈ sdSettings i,
      (cardOf n).any (fun c => !c.ty.bytes.isNone && c.effect == .whenDisabled) = true := by decide +kernel
  intro i n hn
  simpa [Option.any_eq_true] using h i n hn

/-- SD_AXIS is an unsigned byte. -/
theorem sdAxis_card : ∀ i : SdN, (cardOf (O.sdAxis i)).map (·.ty) = some .u8 := by decide +kernel

theorem sdOfIndex_sd (i : SdN) : sdOfIndex (0x3D00 + 0x10 * i.val) = some i := by
  rw [sdOfIndex, dif_pos (by omega)]
  congr 1
  ext
  simp only
  omega

section
variable {x : Nat} (h : 0x3D00 ≤ x ∧ x < 0x3E00)
include h
theorem legOfIndex_sd : legOfIndex x = none := dif_neg (by omega)
theorem axisOfIndex_sd : axisOfIndex x = none := dif_neg (by omega)
theorem chanOfIndex_sd : chanOfIndex x = none := dif_neg (by omega)
theorem slotOfIndex_sd : slotOfIndex x = none := dif_neg (by omega)
theorem canOfIndex_sd : canOfIndex x = none := by
  rw [canOfIndex, if_neg (by omega), if_neg (by omega)]
end

section
variable {i : SdN} {n : Nat} (hn : n ∈ sdSettings i)
include hn

theorem sdSettings_index : n / 256 = 0x3D00 + 0x10 * i.val := by
  simp only [sdSettings, O.sdRole, O.sdAxis, O.sdOsr, O.sdClock, O.sdGain, O.sdOffset, List.mem_cons,
    List.not_mem_nil, or_false] at hn
  omega

theorem sdSettings_block : 0x3D00 ≤ n / 256 ∧ n / 256 < 0x3E00 := by
  have := sdSettings_index hn
  omega

/-- Their access reaches no tested block of its own (R456). -/
theorem blocksAt_sd : blocksAt n = [] := by
  have hb := sdSettings_block hn
  have h1 : ¬ n / 256 < 0x1380 := by omega
  have h2 : ¬ n / 256 < 0x2050 := by omega
  have h3 : ¬ n / 256 < 0x3C00 := by omega
  have h4 : ¬ 0x4000 ≤ n / 256 := by omega
  have h5 : ¬ 0x5C00 ≤ n / 256 := by omega
  have h6 : ¬ 0x6000 ≤ n / 256 := by omega
  simp [blocksAt, h1, h2, h3, h4, h5, h6]

/-- No rule ties their values to those of other objects. -/
theorem State.ruleOk_sd (s : State) (v : Int) : s.ruleOk n v = true := by
  have hb := sdSettings_block hn
  have h1 : ¬ n / 256 < 0x1480 := by omega
  have h2 : ¬ n / 256 < 0x1510 := by omega
  have h3 : ¬ n / 256 < 0x1610 := by omega
  have h4 : ¬ 0x5E10 ≤ n / 256 := by omega
  have h5 : ¬ 0x7600 ≤ n / 256 := by omega
  have h6 : ¬ 0x8000 ≤ n / 256 := by omega
  have h7 : ¬ 0x8400 ≤ n / 256 := by omega
  have h8 : ¬ 0x8820 ≤ n / 256 := by omega
  have h9 : n / 256 ≠ 0x1100 := by omega
  have h10 : n / 256 ≠ 0x1200 := by omega
  have h11 : n / 256 ≠ 0x1240 := by omega
  simp [State.ruleOk, legOfIndex_sd hb, axisOfIndex_sd hb, chanOfIndex_sd hb, canOfIndex_sd hb, slotOfIndex_sd hb,
    h1, h2, h3, h4, h5, h6, h7, h8, h9, h10, h11]

/-- Nothing but their axes locks them. -/
theorem State.stateLocked_sd (s : State) : s.stateLocked n = false := by
  have hb := sdSettings_block hn
  have h1 : ¬ n / 256 < 0x1480 := by omega
  have h2 : ¬ n / 256 < 0x1510 := by omega
  have h3 : ¬ n / 256 < 0x1610 := by omega
  have h4 : ¬ 0x40 ≤ n / 256 / 256 := by omega
  have h5 : ¬ 0x8000 ≤ n / 256 := by omega
  have h6 : ¬ 0x8400 ≤ n / 256 := by omega
  have h7 : ¬ 0x8820 ≤ n / 256 := by omega
  have h8 : n / 256 ≠ 0x1302 ∧ n / 256 ≠ 0x1303 ∧ n / 256 ≠ 0x1342 ∧ n / 256 ≠ 0x1343 := by omega
  simp [State.stateLocked, State.serviceLocked, h1, h2, h3, h4, h5, h6, h7, h8]

/-- They have no behaviour of their own: an accepted value is in force at once (R13). -/
theorem State.writeAct_sd (s : State) (src : Src) (v : Int) :
    s.writeAct src n v = ((s.setObj n v).unstage n).done := by
  have hb := sdSettings_block hn
  obtain ⟨c, hc, -, he⟩ := sdSettings_cards i n hn
  have hs : isSafetyCfg n = false := by
    have : ¬ 0x7000 ≤ n / 256 := by omega
    simp [isSafetyCfg, this]
  have hm : s.writeModule src n v = (s.takeValue n v).done := by
    have hne : ∀ k, k < 0x3D0000 ∨ 0x3E0000 ≤ k → (n == k) = false := fun k hk => beq_false_of_ne (by omega)
    simp [State.writeModule, hne, O.powerBudget, O.shipFreq, O.ptpRole, O.refDiscipline, O.ethSpeed, O.eventAckAll,
      O.configSeal, O.recFreeze, O.recRearm, O.recEnable, O.testRerun, O.testEnable, O.testCtrl, O.bscanEnable,
      O.powerMode, O.domainCtrl, O.lcAdvance]
  have ht : s.takeValue n v = (s.setObj n v).unstage n := by
    simp [State.takeValue, hc, he, axisOfIndex_sd hb]
  rw [← ht, ← hm]
  simp only [State.writeAct, legOfIndex_sd hb, axisOfIndex_sd hb, chanOfIndex_sd hb, canOfIndex_sd hb, hs]
  rw [if_neg (by decide)]
  iterate 10 rw [dif_neg (by omega)]
end

/-! ### No service claims them -/

theorem thrObjects_ge {a m : Nat} (h : m ∈ thrObjects a) : 0x400000 ≤ m := by
  simp only [thrObjects, O.velocitySet, O.moveMode, O.torqueSet, O.profileAccel, O.profileDecel, O.powerClass,
    O.powerRequest, O.svcAlive, List.mem_cons, List.not_mem_nil, or_false] at h
  omega

theorem drumObjects_ge {a k m : Nat} (h : m ∈ drumObjects a k) : 0x400000 ≤ m := by
  unfold drumObjects at h
  split at h <;>
  · simp only [O.velocitySet, O.moveMode, O.powerClass, O.powerRequest, O.svcAlive, O.brakeCmd, List.mem_append,
      List.mem_cons, List.not_mem_nil, or_false] at h
    omega

theorem spoolObjects_ge {a u m : Nat} (h : m ∈ spoolObjects a u) : 0x400000 ≤ m := by
  unfold spoolObjects at h
  split at h <;>
  · simp only [O.targetPos, O.stagedTarget, O.triggerUnit, O.moveMode, O.profileSpeed, O.svcAlive, O.cmpPosition,
      O.cmpEnable, O.cmpDirection, O.cmpSource, List.mem_append, List.mem_cons, List.not_mem_nil, or_false] at h
    omega

/-- Every claimed object lies in the axis blocks or above (Table 13.1). -/
theorem State.claimedObjects_ge {s : State} {m : Nat} (h : m ∈ s.claimedObjects) : 0x400000 ≤ m := by
  obtain ⟨i, -, hm⟩ := List.mem_flatMap.1 h
  have guarded : ∀ {b : Bool} {xs : List Nat}, m ∈ (if b then xs else []) → m ∈ xs := fun {b xs} h => by
    cases b
    · cases h
    · exact h
  rcases List.mem_append.1 hm with hm | hm
  · rcases List.mem_append.1 hm with hm | hm
    · exact thrObjects_ge (guarded hm)
    · exact drumObjects_ge (guarded hm)
  · exact spoolObjects_ge (guarded hm)

theorem State.unclaimed_sd (s : State) {i : SdN} {n : Nat} (hn : n ∈ sdSettings i) :
    s.claimedObjects.contains n = false := by
  have hb := sdSettings_block hn
  rw [List.contains_eq_mem, decide_eq_false_iff_not]
  intro h
  have := State.claimedObjects_ge h
  omega

/-! ### The axes that must be DISABLED -/

theorem axisNum_eq_some {k : Nat} {b : AxisN} : axisNum k = some b ↔ k = b.val := by
  unfold axisNum
  split
  · simp [Fin.ext_iff]
  · simp only [reduceCtorEq, false_iff]
    omega

/-- SD_AXIS names axis a, and a write of SD_AXIS also the axis of its value. -/
theorem State.mem_concerned_sd {s : State} {i : SdN} {n : Nat} {v : Int} {a b : AxisN} (hn : n ∈ sdSettings i)
    (ha : s.cfg (O.sdAxis i) = a.val) :
    b ∈ s.concerned n v ↔ b = a ∨ (n = O.sdAxis i ∧ v.toNat = b.val) := by
  have hb := sdSettings_block hn
  have hi : sdOfIndex (n / 256) = some i := by rw [sdSettings_index hn, sdOfIndex_sd]
  have hc : s.concerned n v = (axisNum (s.cfgN (O.sdAxis i))).toList ++
      (if n == O.sdAxis i then (axisNum v.toNat).toList else []) := by
    simp only [State.concerned, legOfIndex_sd hb, axisOfIndex_sd hb, chanOfIndex_sd hb, hi]
  have hN : s.cfgN (O.sdAxis i) = a.val := by rw [State.cfgN, ha]; exact Int.toNat_natCast _
  rw [hc, List.mem_append, Option.mem_toList, axisNum_eq_some, hN]
  refine or_congr (by rw [Fin.ext_iff, eq_comm]) ?_
  by_cases he : n = O.sdAxis i <;> simp [he, axisNum_eq_some]

/-- The axes concerned are DISABLED exactly where R514 lets the write through. -/
theorem State.concerned_sd_disabled {s : State} {i : SdN} {n : Nat} {v : Int} {a : AxisN} (hn : n ∈ sdSettings i)
    (ha : s.cfg (O.sdAxis i) = a.val) (hv : n = O.sdAxis i → 0 ≤ v) :
    (s.concerned n v).all s.isDisabled = true ↔
      s.isDisabled a = true ∧ (n = O.sdAxis i → ∀ b : AxisN, v = b.val → s.isDisabled b = true) := by
  simp only [List.all_eq_true, State.mem_concerned_sd hn ha]
  constructor
  · intro h
    exact ⟨h a (.inl rfl), fun he b hb => h b (.inr ⟨he, by omega⟩)⟩
  · rintro ⟨h, hw⟩ b (rfl | ⟨he, hb⟩)
    · exact h
    · have := hv he
      exact hw he b (by omega)

/-- A value within the card meets only the check of the axes. -/
theorem State.writeRefusal_sd {s : State} {src : Src} {i : SdN} {n : Nat} {v : Int} (hn : n ∈ sdSettings i)
    (hs : s.accessRefusal src n = none)
    (hv : ∀ c, cardOf n = some c → c.ty.bounds.1 ≤ v ∧ v ≤ c.ty.bounds.2 ∧ c.range.holds v = true) :
    s.writeRefusal src n v = if (s.concerned n v).all s.isDisabled then none else some (.locked, 0) := by
  obtain ⟨c, hc, hb, he⟩ := sdSettings_cards i n hn
  obtain ⟨h1, h2, h3⟩ := hv c hc
  have : s.valueRefusal n v = if (s.concerned n v).all s.isDisabled then none else some (.locked, 0) := by
    simp only [State.valueRefusal, hc, hb, he, h1, h2, h3, State.ruleOk_sd hn, State.stateLocked_sd hn]
    cases (s.concerned n v).all s.isDisabled <;> rfl
  rw [State.writeRefusal, hs, this, State.unclaimed_sd s hn]
  cases (s.concerned n v).all s.isDisabled <;> simp

/-- Settles O54: of the checks of every write only that of the axes can refuse one within the card, and the axes it asks
for are those of R514. -/
theorem sigmaDeltaWritesNeedTheirAxisDisabled : Obligations.SigmaDeltaWritesNeedTheirAxisDisabled := by
  unfold Obligations.SigmaDeltaWritesNeedTheirAxisDisabled
  intro s src i v a hwf ha n hn hf hs hv
  change n ∈ sdSettings i at hn
  have hpos : n = O.sdAxis i → 0 ≤ v := by
    rintro rfl
    obtain ⟨c, hc, hty⟩ := Option.map_eq_some_iff.1 (sdAxis_card i)
    have := (hv c hc).1
    rwa [hty] at this
  have hfree := State.concerned_sd_disabled hn ha hpos
  have href := State.writeRefusal_sd hn hs hv
  rw [exec_objectWrite_refOf]
  refine ⟨fun free hu => ⟨_, rfl, ?_⟩, fun locked => ?_⟩
  · rw [if_pos (hfree.2 free)] at href
    obtain ⟨net, ht⟩ := State.writeRow_accepted (fun s => s.writeAct src n v) ⟨hf, href, hu⟩
    rw [ht, State.writeAct_sd hn, State.accessed, blocksAt_sd hn]
    exact ⟨rfl, State.setObj_cfg (State.objs_sorted hwf) n v⟩
  · rw [if_neg (mt hfree.1 locked)] at href
    rw [State.writeRow_refused _ hf href]

end Sys2Proof.Machine
end

section
/-! PROOFS. The commands of current sensing (03): OVERCURRENT over objects that are not in order of address. -/

namespace Sys2Proof.Machine

/-- What every trip does first: the latch is set and the trip is logged (R93). -/
def State.tripped (s : State) (l : LegN) : State :=
  (s.modInput l fun i => { i with ocLatch := true }).event 0x2207 l

theorem exec_overcurrent (l : LegN) (s : State) : exec (.overcurrent l) s = execOvercurrent l s := rfl

/-- A trip of an input that belongs to no axis after the report goes no further. -/
theorem exec_overcurrent_unassigned {s : State} {l : LegN} (h : (s.tripped l).axisOf l = none) :
    exec (.overcurrent l) s = .next (s.tripped l) := by
  rw [exec_overcurrent]
  unfold execOvercurrent
  dsimp only
  split
  · rename_i hsome
    exact nomatch h.symm.trans hsome
  · rfl

/-- A trip itself leaves the reactions as they are. -/
theorem State.tripped_axis (s : State) (l : LegN) (a : AxisN) : (s.tripped l).axis a = s.axis a := by
  simp [State.axis, State.tripped]

/-- A state that the statement does not exclude, and that is out of the form of the stores: EVENT_LOST is listed at −1 before
FIRST_LEG of axis 0, whose address is lower, so that FIRST_LEG reads its default 0 as long as EVENT_LOST is listed. Axis 0 runs
on legs 0 to 2, and the next entry of the log passes over an unread one. -/
def outOfOrder : State := { State.reset with
  objs := [(O.axisType 0, 1), (O.eventLost, -1), (O.firstLeg 0, 12)]
  axes := (Vector.replicate 16 {}).set 0 { field := { state := .running } }
  log := { entries := [{ code := 0, inst := 0, time := 0, unread := true, announced := false, entry := 0 }] } }

/-- Leg 0 belongs to axis 0, its input is its own, and the axis has gates on and no reaction on them. -/
theorem outOfOrder_live : outOfOrder.axisOf 0 = some 0 ∧ outOfOrder.inputs[(0 : LegN)].substituted = false ∧
    (outOfOrder.axis 0).reaction.gate = .normal ∧ outOfOrder.gatesLive 0 = true ∧
    (outOfOrder.axis 0).reaction.held = false := by
  decide +kernel

/-- The report counts EVENT_LOST up to its default 0, which takes its entry out of the store: FIRST_LEG now reads 12, and leg 0
belongs to no axis. -/
theorem outOfOrder_tripped : (outOfOrder.tripped 0).cfg (O.firstLeg 0) = 12 ∧ (outOfOrder.tripped 0).axisOf 0 = none := by
  decide +kernel

/-- Refutes O16: OVERCURRENT reports the trip before it looks up the axis of the leg, and where the objects are not in order of
address (which the clause does not ask for) the count of a lost event can move the legs of the axis, so that no reaction
begins. -/
theorem not_currentSensingCommandsComplete : ¬ Obligations.CurrentSensingCommandsComplete := by
  unfold Obligations.CurrentSensingCommandsComplete
  intro h
  obtain ⟨t, ht, -, hreact⟩ := (h outOfOrder).1 0
  obtain ⟨haxis, hown, hgate, hlive, hfree⟩ := outOfOrder_live
  have hheld : (t.axis 0).reaction.held = true := hreact 0 haxis hown hgate hlive
  rw [exec_overcurrent_unassigned outOfOrder_tripped.2, Host.Outcome.next.injEq] at ht
  rw [← ht, State.tripped_axis, hfree] at hheld
  exact Bool.false_ne_true hheld

end Sys2Proof.Machine
end
